-- ==== Sys2Proof/Word.lean ====
section
/-! DEFINITION. The word types of the machine and their plainest arithmetic: registers and
addresses are 64-bit words (02_encoding R38, R47), memory is made of bytes, vectors are 1,024 bits
(06_vector R156). -/

namespace Sys2Proof

/-- A general register, an offset, a special register: 64 bits. -/
abbrev Word := BitVec 64

/-- One byte of any memory. -/
abbrev Byte := BitVec 8

/-- One instruction word (R37). -/
abbrev IWord := BitVec 32

/-- A vector register (R156). -/
abbrev Vec := BitVec 1024

/-- The core numbers of R12. -/
abbrev CoreId := BitVec 8

/-- A context number within a core (R69). -/
abbrev CtxId := BitVec 4

/-- A compute die (R11). -/
abbrev DieId := BitVec 2

end Sys2Proof
end

