-- ==== Sys2Proof/Syntax.lean ====
section
/-! DEFINITION. The abstract syntax of the Relriti instruction set and of the part's engine steps:
one constructor of `Instr` for every row of the table of operations and events. A row of a base form
(LEN 0b00) carries the fields of its base format (R40); a row named `_X` stands for the literal and
extended forms of the same operation (LEN 0b01, 0b10, 0b11) and carries an `Ext`; an event row
carries the names of the agents the step concerns. -/

namespace Sys2Proof

/-- The immediate operand of a literal or extended form (R41, R45): LEN 0b01 takes the 64-bit
literal, LEN 0b10 the 32-bit IMM, LEN 0b11 the literal with IMM zero. -/
inductive ImmForm where
  /-- LEN 0b01: base word 0 with a literal. -/
  | lit01 (v : BitVec 64)
  /-- LEN 0b10: extended, IMM in word 2. -/
  | imm10 (v : BitVec 32)
  /-- LEN 0b11: extended with a literal. -/
  | lit11 (v : BitVec 64)
  deriving DecidableEq, Repr

/-- The register and MOD fields of a literal or extended form (R43, R44, Table 3, Table 4). A field
that the instruction's row does not list is zero in a well-formed instruction (R65). In LEN 0b01 only
`d`, `a`, `c`, `sp` and the literal can differ from zero, and the registers are below 128. -/
structure Ext where
  /-- D, word 1 [7:0]. -/
  d : BitVec 8 := 0
  /-- A, word 1 [15:8]. -/
  a : BitVec 8 := 0
  /-- B, word 1 [23:16]. -/
  b : BitVec 8 := 0
  /-- C, word 1 [31:24]; the S field of a base store in LEN 0b01. -/
  c : BitVec 8 := 0
  /-- MOD [31]: synchronised read of A. -/
  synA : Bool := false
  /-- MOD [30]: synchronised read of B. -/
  synB : Bool := false
  /-- MOD [29]: synchronised read of C. -/
  synC : Bool := false
  /-- MOD [28:26]: the scope code of R27. -/
  scope : BitVec 3 := 0
  /-- MOD [25:24]: 0 plain, 1 acquire, 2 release, 3 acquire-release. -/
  ord : BitVec 2 := 0
  /-- MOD [23:21]: the rounding mode; FORD for `acas`. -/
  rnd : BitVec 3 := 0
  /-- MOD [20]: saturate. -/
  sat : Bool := false
  /-- MOD [19:18]: the space register of a memory operand. -/
  sp : BitVec 2 := 0
  /-- MOD [17:16]: the cache hint. -/
  hint : BitVec 2 := 0
  /-- The immediate or displacement, with the length of the form. -/
  imm : ImmForm := .imm10 0
  deriving DecidableEq, Repr

/-- The forms of `mts` beyond the base form (R101). -/
inductive MtsForm where
  /-- LEN 0b01: I14 keeps the number, the literal is the value written. -/
  | lit (n : BitVec 14) (v : BitVec 64)
  /-- LEN 0b10: D is the source and IMM the number. -/
  | ext (d : BitVec 8) (n : BitVec 32)
  deriving DecidableEq, Repr

/-- Lane types of Table 18 (R59). -/
inductive LaneTy where
  | f32 | bf16 | f16 | i32 | i8 | ui8
  deriving DecidableEq, Repr

/-- Element widths of Table 18 (R59). -/
inductive Width where
  | w32 | w16 | w8
  deriving DecidableEq, Repr

/-- The variants of `vcvt`, Table 20 (R61): destination format, then source format. -/
inductive Cvt where
  | bf16F32 | f16F32 | f32Bf16 | f32F16 | b8F32 | f32B8 | i32F32 | f32I32
  | i8F32 | f32I8 | b8K4 | bf16F16 | f16Bf16 | i8I32 | i32I8 | i32Ui8
  deriving DecidableEq, Repr

/-- A post on its way to a mailbox counter (R277): the counter, the increment, the posting process, and
the sender: core and context with the task's number, when the post counts in its STORECNT. -/
structure PostPkt where
  core : Nat
  index : Nat
  inc : BitVec 32
  procid : Nat
  /-- The post is made for the counter's own process, as from a counter page (R414). -/
  asOwner : Bool
  src : Nat
  ctx : Nat
  tid : Nat
  /-- An acknowledgement lowers STORECNT of the sender (R276). -/
  acks : Bool
  /-- The number of the store (R108). -/
  id : Nat
  deriving DecidableEq, Repr

/-- A message record on its way (R286): the core and context where it is looked for now, the endpoint word,
the record (R283), the sender's process, and the sending context with its task. -/
structure MsgPkt where
  core : Nat
  ctx : Nat
  word : BitVec 64
  len : Nat
  sender : BitVec 64
  data : List (BitVec 8)
  procid : Nat
  src : Nat
  srcCtx : Nat
  tid : Nat
  deriving DecidableEq, Repr

/-- A spawn packet (R290, R291): the destination core, the child's start, and the parent. -/
structure SpawnPkt where
  core : Nat
  grp : Bool
  code : BitVec 64
  regs : List (BitVec 64)
  frame : BitVec 64
  taskidx : BitVec 64
  procid : Nat
  mode : Bool
  skey : BitVec 64
  ls : Bool
  /-- Allocation size of the parent's group, in bytes (R346); none without a group. -/
  size : Option Nat
  launch : Nat
  node : Option (BitVec 64)
  bounded : Bool
  src : Nat
  srcCtx : Nat
  tid : Nat
  deriving DecidableEq, Repr

/-- A subscription request (R293): subscriber core and entry, process, length, source core and offset, and
the context that waits. -/
structure SubReq where
  core : Nat
  entry : Nat
  procid : Nat
  len : Nat
  source : Nat
  soff : Nat
  ctx : Nat
  tid : Nat
  deriving DecidableEq, Repr

/-- A timed message or the anti-message of one (R313, R317): destination, receive time, origin. -/
structure TMsg where
  core : Nat
  slot : Nat
  rtime : BitVec 64
  src : Nat
  srcSlot : Nat
  serial : Nat
  payload : BitVec 64
  procid : Nat
  deriving DecidableEq, Repr

/-- What the peer package sends for its side of a link reduction (R425, R426): the number of the command on its
channel, its fields, whether it was refused or has failed, and its source elements. -/
structure LrPartner where
  index : Nat
  op : Nat
  fmt : Nat
  count : Nat
  refused : Bool
  failed : Bool
  data : List (BitVec 32)
  deriving DecidableEq, Repr

/-- The kinds of access that arrive from the peer package (Table 6 of R418). -/
inductive PeerKind where
  | read | write | release
  /-- An atomic: operation code and operands as the peer's core gave them. -/
  | atomic (op : Nat) (expected : BitVec 64)
  deriving DecidableEq, Repr

/-- An access of the peer package: to this package's memory at a device physical address, to the peer's own
memory (`own`), or to an offset of this package's register space (`page`); the link's stream that it came on (R417). -/
structure PeerAcc where
  stream : Nat := 0
  kind : PeerKind
  own : Bool
  page : Bool
  addr : Nat
  size : Nat
  value : Nat
  deriving DecidableEq, Repr

/-- What the boot controller finds (R433 to R436): the bytes of the serial flash, the 2 KiB of uninitialised SRAM, whether the training of
the memory interface succeeds, and where each host's CXL.io configuration then places the register space (R407). -/
structure BootEnv where
  flash : List (BitVec 8)
  sram : BitVec 16384
  memoryOk : Bool
  base0 : Option Nat
  base1 : Option Nat
  deriving DecidableEq, Repr

/-- What a store to the register space gives, with the host port that it arrives from: none for a store of the package
itself or of the peer (R412). -/
abbrev Stored (α : Type) : Type := α × Option Bool

/-- The rows of the table of operations and events, one constructor per row: the events first, then the
base forms, then the literal and extended forms, each group in the table's order. -/
inductive Instr where
  /-- ISSUE_TURN (R72): Each cycle the core walks its contexts from the turn's owner and issues at most one instruction. -/
  | issueTurn (core : CoreId)
  /-- FILL_ARRIVE (R81): An instruction-fetch or register line fill arrives, or reports a fetch fault, and the parked context is decided again. -/
  | fillArrive (core : CoreId) (ctx : CtxId)
  /-- IMAGE_RECALL (R81): A holder answers a recall by writing back and dropping a task's register lines. -/
  | imageRecall (core : CoreId) (ctx : CtxId)
  /-- DIVIDE_DONE (R90): The divide unit writes D and the context becomes READY. -/
  | divideDone (core : CoreId) (ctx : CtxId)
  /-- VECTOR_LONG_DONE (R159): A vector long operation writes D and merges its flags. -/
  | vectorLongDone (core : CoreId)
  /-- LOAD_REPLY (R107): A load or atomic reply writes D, or delivers a data-error trap. -/
  | loadReply (core : CoreId) (ctx : CtxId)
  /-- STORE_ACK (R108): A store acknowledgement arrives, lowering STORECNT and raising LCLK. -/
  | storeAck (core : CoreId) (ctx : CtxId)
  /-- SPLIT_LOAD_REPLY (R114): A split-load reply writes its register, sets FULL and clears PEND. -/
  | splitLoadReply (core : CoreId) (n : Nat)
  /-- SPLIT_LOAD_FORWARD (R131): A split-load reply reaching a departed thread's old core is sent on through its forwarding entry. -/
  | splitLoadForward (core : CoreId) (wts : Nat) (dest : CoreId) (reg : Nat) (value : Word) (tid : Nat)
  /-- WTNE_LINE_WRITE (R120): A write to a watched line ends a wtne park and the value is read again. -/
  | wtneLineWrite (core : CoreId) (ctx : CtxId)
  /-- SHUTTLE_DEPART (R128): Once its drains are done, a migrating thread's shuttle is built and sent. -/
  | shuttleDepart (core : CoreId) (ctx : CtxId)
  /-- SHUTTLE_ARRIVE (R130): An arriving shuttle is installed, queued, spilled or held. -/
  | shuttleArrive (tid : Nat)
  /-- WAYMASK_GROW_DONE (R125): The scratchpad grow completes and the wmask issuer is released. -/
  | waymaskGrowDone (core : Nat)
  /-- WAYMASK_SHRINK (R125): A pending shrink takes effect once no copy or allocation lies above the new split. -/
  | waymaskShrink (core : Nat)
  /-- RFPART_REPARTITION (R77): After the drain, the core writes back lines, installs the new partition and frees every context. -/
  | rfpartRepartition (core : CoreId)
  /-- GRANARY_REPLY (R122): The granary replies to an alloc or free. -/
  | granaryReply (core : CoreId) (ctx : CtxId)
  /-- LCLK_TICK (R246): Every 256 cycles every core's logical clock advances by one. -/
  | lclkTick (die : DieId)
  /-- SLICE_LOAD (R246): A load request at an L2 slice grants a lease and returns data with its write time. -/
  | sliceLoad (core : CoreId) (ctx : CtxId)
  /-- SLICE_WRITE (R246): A write performed at a slice takes a write time past every lease and is acknowledged. -/
  | sliceWrite (core : CoreId)
  /-- HOME_ATOMIC (R253): An atomic is performed at the home slice or in an exclusive hold at the core. -/
  | homeAtomic (core : CoreId) (ctx : CtxId)
  /-- OUTBOUND_WRITE_APPLY (R255): An outbound write is applied at its home once DONEEP allows its stamp. -/
  | outboundWriteApply (die : DieId)
  /-- CROSS_DIE_REPLY (R255): A cross-die reply is delivered once its stamp allows, raising VCLK. -/
  | crossDieReply (core : CoreId) (ctx : CtxId)
  /-- DONEEP_PUBLISH (R255): A die sends its risen DONEEP to the other dies. -/
  | doneepPublish (die : DieId)
  /-- DONEEP_RECEIVE (R255): A die records another die's published DONEEP, possibly releasing held writes. -/
  | doneepReceive (die : DieId) (src : DieId) (epoch : BitVec 32)
  /-- VISITOR_EXPIRE (R254): A visitor copy is dropped 65,536 cycles after its installation. -/
  | visitorExpire (die : DieId) (line : Nat)
  /-- PEER_LINE_EXPIRE (R260): An untracked peer line in the system cache is dropped 65,536 cycles after its fetch. -/
  | peerLineExpire (line : Nat)
  /-- CLOCK_WRAP_BEGIN (R250): A die about to exceed 0xF0_0000 holds its agents' requests and waits for those in flight. -/
  | clockWrapBegin (die : DieId)
  /-- CLOCK_WRAP_DONE (R250): With no request in flight, the die resets its clocks and caches and releases held requests. -/
  | clockWrapDone (die : DieId)
  /-- HOST_READ (R257): A host read is served through the system cache and the home slice. -/
  | hostRead (port : Bool) (pa : Nat)
  /-- HOST_TAKES_OWNERSHIP (R257): A host takes ownership of a line; the home slice enters I as for a write from outside. -/
  | hostTakesOwnership (port : Bool) (pa : Nat)
  /-- BACK_INVALIDATION_ACK (R258): A host acknowledges a back-invalidation, releasing the held requests for the line. -/
  | backInvalidationAck (port : Bool) (pa : Nat) (data : Option (BitVec 512))
  /-- SLICE_EVICTION (R257): A directory or slice eviction returns a line to I, writing back M or O data. -/
  | sliceEviction (pa : Nat)
  /-- PEER_ACCESS_ARRIVE (R418): An access from the peer package is performed as a system-scope agent. -/
  | peerAccessArrive (a : PeerAcc)
  /-- PEER_LINK_DOWN (R420): The peer link goes down; UP is cleared and peer lines are dropped. -/
  | peerLinkDown
  /-- PEER_LINK_UP (R416): The peer link has retrained and UP is set. -/
  | peerLinkUp
  /-- PEER_REQUEST_TIMEOUT (R420): A request sent while the link is down is answered with an error. -/
  | peerRequestTimeout (core : CoreId) (ctx : CtxId)
  /-- PACKET_ARRIVE (R17): A stream packet reaches a destination's reorder buffer and is released in order or refused. -/
  | packetArrive (n : Nat)
  /-- PACKET_RESEND (R17): A sender resends a packet that was refused on the response network. -/
  | packetResend (n : Nat)
  /-- STREAM_ACK (R17): A stream acknowledgement arrives, possibly freeing the stream for rebinding. -/
  | streamAck (src : Nat) (net : Nat) (stream : Nat)
  /-- REFRESH_WINDOW_END (R238): A bank's refresh window ends and waiting weight-store reads and writes proceed. -/
  | refreshWindowEnd (die : DieId) (bank : Nat)
  /-- LOOM_CMD_START (R200): A queued loom command starts on its units, making its loader checks. -/
  | loomCmdStart (core : CoreId)
  /-- LOOM_CMD_DONE (R200): A loom command completes, frees its queue entry and readies its context. -/
  | loomCmdDone (core : CoreId) (serial : Nat)
  /-- MMAM_SLICE_DONE (R205): One slice of an mmam is added and the next is translated or faults. -/
  | mmamSliceDone (core : CoreId) (serial : Nat)
  /-- LOOM_CLAIM_RETRY (R187): A parked claim is decided again when its holder ends, leaves, is pre-empted or parks. -/
  | loomClaimRetry (core : Nat) (holder : Nat)
  /-- LOOM_RECALL_DONE (R190): HCORE's loom has evicted a task's holdings, and its recall completes. -/
  | loomRecallDone (core : CoreId) (ctx : CtxId)
  /-- LOOM_RESTORE_DONE (R190): A task's saved holdings are reloaded on the executing core. -/
  | loomRestoreDone (core : CoreId) (ctx : CtxId)
  /-- COPY_START (R220): The copy engine starts the oldest queued command whose channel is free. -/
  | copyStart (core : CoreId)
  /-- COPY_LINE_WRITTEN (R230): A copy write is performed and the watermark advances, releasing waiting accesses. -/
  | copyLineWritten (core : CoreId) (serial : Nat)
  /-- COPY_COMPLETE (R233): A copy completes: guard ends, post and token sent, DONE advances. -/
  | copyComplete (core : CoreId) (serial : Nat)
  /-- COPY_TFAULT (R240): A running copy meets a translation or permission fault and the channel enters TFAULT. -/
  | copyTfault (core : CoreId) (serial : Nat) (sel : BitVec 16) (off : Word) (w : Bool)
  /-- COPY_RUN_FAULT (R240): A running copy faults and its channel becomes FAULTED. -/
  | copyRunFault (core : CoreId) (serial : Nat) (cause : Nat)
  /-- APERTURE_STORE (R226): A 64-bit store to a channel's aperture page enters or refuses a copy command. -/
  | apertureStore (core : Nat) (ch : Nat) (value : Word) (ack : Stored (Option (Nat × Nat × Nat × Nat)))
  /-- CHOWN_WRITE (R219): System software rewrites a channel's binding, honoured only while IDLE. -/
  | chownWrite (core : Nat) (ch : Nat) (value : Stored Word)
  /-- POST_ARRIVE (R277): A post reaches its counter and is applied or discarded, and acknowledged. -/
  | postArrive (p : PostPkt)
  /-- MWAIT_WAKE (R278): In the cycle after WAKE is set, a parked mwait is decided again. -/
  | mwaitWake (core : Nat) (m : Nat)
  /-- MSG_DELIVER (R286): A message record reaches a core and is placed in a ring, a save buffer, forwarded or refused. -/
  | msgDeliver (p : MsgPkt)
  /-- SEND_REPLY (R288): The reply to a send arrives: accepted, refused for space or refused. -/
  | sendReply (core : CoreId) (ctx : CtxId) (tid : Nat) (code : Nat)
  /-- SEND_REOFFER (R288): A refused record is offered again when its ring or save buffer frees space. -/
  | sendReoffer (core : CoreId) (ctx : CtxId) (tid : Nat)
  /-- SPAWN_ARRIVE (R291): A spawn packet reaches its core and starts a child or is declined. -/
  | spawnArrive (p : SpawnPkt)
  /-- SPAWN_REPLY (R290): The spawn reply writes D and readies the caller. -/
  | spawnReply (core : CoreId) (ctx : CtxId) (tid : Nat) (value : Nat)
  /-- SUB_REQUEST_ARRIVE (R293): A subscription request at the source core joins or takes a source entry and copies the region. -/
  | subRequestArrive (p : SubReq)
  /-- SUB_UPDATE_APPLY (R294): A subscription update is written at the subscriber, or into a parked allocation's backing image. -/
  | subUpdateApply (core : Nat) (entry : Nat) (off : Nat) (data : BitVec 512) (mask : BitVec 64) (writers : List Nat)
  /-- SUB_LINE_TIMEOUT (R294): A coalesced line leaves the source buffer after its nominal 1,024 cycles. -/
  | subLineTimeout (core : Nat) (entry : Nat) (off : Nat)
  /-- CBIND_WRITE (R410): System software binds or unbinds a counter, clearing COUNT and CIRQ. -/
  | cbindWrite (core : Nat) (m : Nat) (value : Stored Word)
  /-- CIRQ_WRITE (R415): A write to a counter's CIRQ, raising at once if the target is already met. -/
  | cirqWrite (core : Nat) (m : Nat) (value : Stored Word)
  /-- COUNTER_PAGE_STORE (R414): A 32-bit store to a counter page posts to the counter as its bound process. -/
  | counterPageStore (core : Nat) (m : Nat) (value : Nat) (ack : Stored (Option (Nat × Nat × Nat × Nat)))
  /-- TMSG_ARRIVE (R315): A timed message arrives: entered, refused, discarded, or a straggler needing rollback. -/
  | tmsgArrive (m : TMsg)
  /-- TMSG_REOFFER (R315): A refused timed message is offered again when an input entry frees. -/
  | tmsgReoffer (core : Nat) (slot : Nat)
  /-- ANTI_MSG_ARRIVE (R317): An anti-message annihilates its positive, rolls back, is deferred or is discarded. -/
  | antiMsgArrive (m : TMsg)
  /-- GVT_START (R320): A GVT computation starts every 2,800 cycles or on request. -/
  | gvtStart (procid : Nat)
  /-- GVT_PUBLISH (R321): A GVT value is published; engines free old entries and perform due actions. -/
  | gvtPublish (procid : Nat)
  /-- PDSYNC_WRITE (R329): The front-end takes in or refuses a process descriptor. -/
  | pdsyncWrite (n : Stored Nat)
  /-- QSYNC_WRITE (R331): The front-end takes in or refuses a queue descriptor. -/
  | qsyncWrite (n : Stored Nat)
  /-- DOORBELL_WRIDX (R332): A store at doorbell offset 0x00 sets WRIDX or puts the queue into ERROR. -/
  | doorbellWridx (q : Nat) (value : Stored (BitVec 32))
  /-- DOORBELL_RDIDX (R332): A store at offset 0x08 sets RDIDX in STALLED_ENTRY or ERROR. -/
  | doorbellRdidx (q : Nat) (value : Stored (BitVec 32))
  /-- DOORBELL_RESUME (R332): A RESUME store reactivates a stalled or failed queue. -/
  | doorbellResume (q : Stored Nat)
  /-- DOORBELL_DROP (R332): A DROP store completes a deferred bounded entry as REJECTED. -/
  | doorbellDrop (q : Stored Nat)
  /-- QUEUE_READ (R335): In its round-robin turn the front-end reads one entry of a queue. -/
  | queueRead
  /-- HEADER_REPOLL (R335): After 64 cycles a mismatched header is read again, stalling after 16 polls. -/
  | headerRepoll (q : Nat)
  /-- ENTRY_START (R338): An accepted entry takes a launch once no earlier conflicting entry remains and starts its work. -/
  | entryStart (procid : Nat)
  /-- PERIOD_START (R342): A bounded queue's period starts with a fresh budget and deferred entries are retested. -/
  | periodStart (q : Nat)
  /-- ENTRY_COMPLETE (R337): An entry completes, posting or writing its status word. -/
  | entryComplete (id : Nat)
  /-- TAKE_WORK (R351): A FREE context takes a shuttle, held task, spindle record or theft and starts the task. -/
  | takeWork (core : Nat)
  /-- THEFT_REQUEST (R352): A victim core answers a theft request with its top stealable record or nothing. -/
  | theftRequest (core : Nat) (ctx : Nat) (victim : Nat) (procid : Nat)
  /-- THEFT_REPLY (R352): A thief receives the victim's answer and starts the task or tries the next victim. -/
  | theftReply (core : Nat) (ctx : Nat) (victim : Nat) (procid : Nat) (granted : Bool)
  /-- QUANTUM_BOUNDARY (R358): At each multiple of QUANTUM the die's preferred process moves on. -/
  | quantumBoundary (die : DieId)
  /-- PREEMPT (R392): A decided pre-emption takes effect once the context's park allows it. -/
  | preempt (core : CoreId) (ctx : CtxId)
  /-- ALLOC_SWAP_OUT (R347): A fully held group's allocations are copied to backing images and freed. -/
  | allocSwapOut (procid : Nat) (cluster : Nat)
  /-- ALLOC_SWAP_IN (R347): A swapped group's allocations are copied back before its tasks run. -/
  | allocSwapIn (procid : Nat) (cluster : Nat)
  /-- NODE_FIRE (R362): A walker fires a node whose PREDS is 0. -/
  | nodeFire (launch : Nat) (addr : Word)
  /-- NODE_COMPLETE (R364): A node completes as DONE or CANCELLED and sends its tokens. -/
  | nodeComplete (launch : Nat) (addr : Word)
  /-- NODE_FAULT (R366): A node faults: completes, retries or becomes FAULTED. -/
  | nodeFault (launch : Nat) (addr : Word) (cause : Nat)
  /-- WEIGHT_GATE_OPEN (R369): Once no task runs on the masked dies, their gates open and the weight graph runs. -/
  | weightGateOpen (id : Nat)
  /-- TOKEN_REDIVISION (R370): Every 140,000 cycles the central arbiter re-divides the dies' token limits. -/
  | tokenRedivision
  /-- BOUNDED_COST_EXPIRE (R343): A bounded task running past COST is stopped with scheduler fault cause 7. -/
  | boundedCostExpire (core : CoreId) (ctx : CtxId) (tid : Nat)
  /-- FAULT_RECORD_WRITE (R386): A waiting record is written to the fault queue and FQTAIL advances. -/
  | faultRecordWrite
  /-- XRESP_RESUME (R389): A RESUME response restarts the waiting context, channel or slot. -/
  | xrespResume (value : Stored Word)
  /-- XRESP_RESUME_AT (R389): A RESUME AT response resumes a context at XRESPA. -/
  | xrespResumeAt (value : Stored Word)
  /-- XRESP_TERMINATE (R389): A TERMINATE response ends the task, cancels the channel or ends the slot's work. -/
  | xrespTerminate (value : Stored Word)
  /-- HCTL_STOP (R393): A store to HCTL with STOP starts a gang stop of a domain. -/
  | hctlStop (dom : Stored Nat)
  /-- HCTL_RESTART (R396): A store to HCTL with RESTART restarts a stopped domain. -/
  | hctlRestart (dom : Stored Nat)
  /-- UNCORRECTABLE_ERROR (R393): An uncorrectable error in state no context owns starts a gang stop with cause 4. -/
  | uncorrectableError (core : Nat) (tids : List Nat × Option Nat)
  /-- SERVICE_CALL_START (R398): The service core takes the next call or timed action of its die. -/
  | serviceCallStart (die : Nat)
  /-- SYS_REPLY (R399): The service core's reply is copied back and the caller's sys completes. -/
  | sysReply (die : Nat)
  /-- LEASE_WRITE (R411): A LEASE store renews, takes over or is refused. -/
  | leaseWrite (port : Bool) (value : Word)
  /-- LEASE_EXPIRE (R411): The lease timer reaches 0 and EXPIRED is set. -/
  | leaseExpire
  /-- STANDBY_STORE_DROP (R412): A register store from the standby port is discarded and counted. -/
  | standbyStoreDrop
  /-- LRCHOWN_WRITE (R427): System software rewrites a reduction channel's binding, honoured only when it holds no command. -/
  | lrchownWrite (k : Nat) (value : Stored Word)
  /-- LR_CHANNEL_STORE (R426): A store of a command address to a reduction channel page starts a command. -/
  | lrChannelStore (k : Nat) (value : Word) (ack : Stored (Option (Nat × Nat × Nat × Nat)))
  /-- LR_PAIR_START (R426): A command meets its partner from the peer and runs, or both end MISMATCH. -/
  | lrPairStart (k : Nat) (partner : Option LrPartner)
  /-- LR_COMPLETE (R427): A reduction publishes its destination, writes STATUS and posts. -/
  | lrComplete (k : Nat)
  /-- REGISTER_WRITE (R407): A store to a register of the register space that has no row of its own. -/
  | registerWrite (off : Nat) (value : Word) (size : Nat) (ack : Stored (Option (Nat × Nat × Nat × Nat)))
  /-- COLD_RESET (R433): A cold reset runs the boot sequence from identity read to READY. -/
  | coldReset (env : BootEnv)
  /-- BOOTCTL_RESET (R433): A store of 0x5253_5430 to BOOTCTL from the active port starts the reset sequence. -/
  | bootctlReset (env : Stored BootEnv)
  /-- THERMAL_HOLD_ENTER (R430): A die's hottest sensor reaches 105 C and its clock drops to 0.7 GHz. -/
  | thermalHoldEnter (die : DieId)
  /-- THERMAL_HOLD_EXIT (R430): After 140,000 reference cycles below 95 C the hold ends and CYCLE is resynchronised. -/
  | thermalHoldExit (die : DieId)
  /-- SUB_REPLY (R293): The source core's answer to a subscription request reaches the subscriber and writes the handle or a refusal code. -/
  | subReply (p : SubReq) (code : Nat)
  /-- PEER_WINDOW_ACCESS (R126): A peer-window load, store, split load or atomic is performed at the target core's shared port. -/
  | peerWindowAccess (core : CoreId) (ctx : CtxId)
  /-- WEIGHT_STORE_ACCESS (R238): A read, or a copy write through an open gate, is performed at a weight-store bank. -/
  | weightStoreAccess (core : CoreId) (ctx : CtxId)
  /-- COUNTER_LOAD_ARRIVE (R23): A 32-bit load of a mailbox counter is served at the counter's core, or refused with a space fault. -/
  | counterLoadArrive (core : CoreId) (ctx : CtxId)
  /-- TRANSLATION_WALK_DONE (R437): A walk of the shared translation service ends, installing a translation or reporting it absent or lacking permission. -/
  | translationWalkDone (procid : Nat) (priv : Bool) (off : Nat)
  /-- HOST_WRITEBACK (R253): A host writes back a line it held in M or O, and the write is applied at the home slice. -/
  | hostWriteback (port : Bool) (pa : Nat) (data : BitVec 512) (keep : Nat)
  /-- ADD (R89): Base form: D = A + B, modulo 2^64. -/
  | add (d a b : BitVec 7)
  /-- SUB (R89): Base form: D = A - B. -/
  | sub (d a b : BitVec 7)
  /-- MUL (R89): Base form: D = low 64 bits of A times B. -/
  | mul (d a b : BitVec 7)
  /-- MULH (R89): Base form: D = high 64 bits of the signed 128-bit product. -/
  | mulh (d a b : BitVec 7)
  /-- MULHU (R89): Base form: D = high 64 bits of the unsigned 128-bit product. -/
  | mulhu (d a b : BitVec 7)
  /-- DIV (R90): Base form: signed division on the divide unit; the context parks with PARKWHY 2 until D is written. -/
  | div (d a b : BitVec 7)
  /-- DIVU (R90): Base form: unsigned division; parks until D is written. -/
  | divu (d a b : BitVec 7)
  /-- REM (R90): Base form: signed remainder; parks until D is written. -/
  | rem (d a b : BitVec 7)
  /-- REMU (R90): Base form: unsigned remainder; parks until D is written. -/
  | remu (d a b : BitVec 7)
  /-- AND (R89): Base form: D = A AND B. -/
  | and (d a b : BitVec 7)
  /-- OR (R89): Base form: D = A OR B. -/
  | or (d a b : BitVec 7)
  /-- XOR (R89): Base form: D = A XOR B. -/
  | xor (d a b : BitVec 7)
  /-- ANDN (R89): Base form: D = A AND NOT B. -/
  | andn (d a b : BitVec 7)
  /-- ORN (R89): Base form: D = A OR NOT B. -/
  | orn (d a b : BitVec 7)
  /-- SHL (R89): Base form: D = A shifted left by B[5:0]. -/
  | shl (d a b : BitVec 7)
  /-- SHR (R89): Base form: logical right shift by B[5:0]. -/
  | shr (d a b : BitVec 7)
  /-- SRA (R89): Base form: arithmetic right shift by B[5:0]. -/
  | sra (d a b : BitVec 7)
  /-- ROTL (R89): Base form: rotate A left by B[5:0]. -/
  | rotl (d a b : BitVec 7)
  /-- MIN (R89): Base form: signed minimum. -/
  | min (d a b : BitVec 7)
  /-- MAX (R89): Base form: signed maximum. -/
  | max (d a b : BitVec 7)
  /-- MINU (R89): Base form: unsigned minimum. -/
  | minu (d a b : BitVec 7)
  /-- MAXU (R89): Base form: unsigned maximum. -/
  | maxu (d a b : BitVec 7)
  /-- ADDW (R91): Base form: 32-bit add, sign-extended. -/
  | addw (d a b : BitVec 7)
  /-- SUBW (R91): Base form: 32-bit subtract, sign-extended. -/
  | subw (d a b : BitVec 7)
  /-- MULW (R91): Base form: 32-bit multiply, sign-extended. -/
  | mulw (d a b : BitVec 7)
  /-- SHLW (R91): Base form: 32-bit left shift, sign-extended. -/
  | shlw (d a b : BitVec 7)
  /-- SHRW (R91): Base form: 32-bit logical right shift, sign-extended. -/
  | shrw (d a b : BitVec 7)
  /-- SRAW (R91): Base form: 32-bit arithmetic right shift, sign-extended. -/
  | sraw (d a b : BitVec 7)
  /-- BEXT (R92): Base form: extract a bit field of A described by B. -/
  | bext (d a b : BitVec 7)
  /-- BINS (R92): Base form: insert the low field of A into D at the position B gives. -/
  | bins (d a b : BitVec 7)
  /-- BSET (R92): Base form: set bit B[5:0] of A. -/
  | bset (d a b : BitVec 7)
  /-- BCLR (R92): Base form: clear bit B[5:0] of A. -/
  | bclr (d a b : BitVec 7)
  /-- SEQ (R92): Base form: D = 1 if A equals B. -/
  | seq (d a b : BitVec 7)
  /-- SNE (R92): Base form: D = 1 if A differs from B. -/
  | sne (d a b : BitVec 7)
  /-- SLT (R92): Base form: D = 1 if A < B signed. -/
  | slt (d a b : BitVec 7)
  /-- SLTU (R92): Base form: D = 1 if A < B unsigned. -/
  | sltu (d a b : BitVec 7)
  /-- SLE (R92): Base form: D = 1 if A <= B signed. -/
  | sle (d a b : BitVec 7)
  /-- SLEU (R92): Base form: D = 1 if A <= B unsigned. -/
  | sleu (d a b : BitVec 7)
  /-- NOT (R93): Base form: D = NOT A. -/
  | not (d a : BitVec 7)
  /-- NEG (R93): Base form: D = 0 - A. -/
  | neg (d a : BitVec 7)
  /-- CLZ (R93): Base form: count leading zero bits of A. -/
  | clz (d a : BitVec 7)
  /-- CTZ (R93): Base form: count trailing zero bits of A. -/
  | ctz (d a : BitVec 7)
  /-- POPC (R93): Base form: count one bits of A. -/
  | popc (d a : BitVec 7)
  /-- SEXTB (R93): Base form: sign-extend A[7:0]. -/
  | sextb (d a : BitVec 7)
  /-- SEXTH (R93): Base form: sign-extend A[15:0]. -/
  | sexth (d a : BitVec 7)
  /-- SEXTW (R93): Base form: sign-extend A[31:0]. -/
  | sextw (d a : BitVec 7)
  /-- ZEXTB (R93): Base form: zero-extend A[7:0]. -/
  | zextb (d a : BitVec 7)
  /-- ZEXTH (R93): Base form: zero-extend A[15:0]. -/
  | zexth (d a : BitVec 7)
  /-- ZEXTW (R93): Base form: zero-extend A[31:0]. -/
  | zextw (d a : BitVec 7)
  /-- BSWAP (R93): Base form: reverse the bytes of A. -/
  | bswap (d a : BitVec 7)
  /-- ADDI (R94): Base form: D = A + sext(I7). -/
  | addi (d a i : BitVec 7)
  /-- ANDI (R94): Base form: D = A AND sext(I7). -/
  | andi (d a i : BitVec 7)
  /-- ORI (R94): Base form: D = A OR sext(I7). -/
  | ori (d a i : BitVec 7)
  /-- XORI (R94): Base form: D = A XOR sext(I7). -/
  | xori (d a i : BitVec 7)
  /-- SHLI (R94): Base form: shift A left by an immediate from 0 to 63. -/
  | shli (d a i : BitVec 7)
  /-- SHRI (R94): Base form: logical right shift of A by an immediate. -/
  | shri (d a i : BitVec 7)
  /-- SRAI (R94): Base form: arithmetic right shift of A by an immediate. -/
  | srai (d a i : BitVec 7)
  /-- ROTLI (R94): Base form: rotate A left by an immediate. -/
  | rotli (d a i : BitVec 7)
  /-- MULI (R94): Base form: D = low 64 bits of A times the immediate. -/
  | muli (d a i : BitVec 7)
  /-- LI (R95): Base form: D = sext(I14). -/
  | li (d : BitVec 7) (i : BitVec 14)
  /-- LPC (R95): Base form: D = PC + 4 times sext(I14). -/
  | lpc (d : BitVec 7) (i : BitVec 14)
  /-- SKP (R86): Base form: compare and, if the condition holds, annul the next K instructions. -/
  | skp (a b : BitVec 7) (cc : BitVec 4) (k : BitVec 2) (ib : Bool)
  /-- BR (R96): Branch by sext(I21) words relative to PC. -/
  | br (i : BitVec 21)
  /-- CALL (R96): Write PC + 4 to g1 and branch by sext(I21) words. -/
  | call (i : BitVec 21)
  /-- JMP (R97): Base form: jump to A + 4 times the immediate, low bits cleared. -/
  | jmp (a i : BitVec 7)
  /-- CALLR (R97): Base form: jump through A and write the return address to D. -/
  | callr (d a i : BitVec 7)
  /-- RET (R97): Jump to g1 with low bits cleared; a target of 0 ends the task. -/
  | ret
  /-- DBNZ (R98): Base form: decrement D and branch while the result is nonzero. -/
  | dbnz (d : BitVec 7) (i : BitVec 14)
  /-- MFS (R101): Base form: read a special register into D. -/
  | mfs (d : BitVec 7) (i : BitVec 14)
  /-- MTS (R101): Base form: write register D to a special register. -/
  | mts (d : BitVec 7) (i : BitVec 14)
  /-- FSET (R85): Base form: set the full bit of D without changing its value. -/
  | fset (d : BitVec 7)
  /-- FCLR (R85): Base form: clear the full bit of D. -/
  | fclr (d : BitVec 7)
  /-- LDB (R111): Base form: load a byte, sign-extended. -/
  | ldb (d a : BitVec 7) (sp : BitVec 2) (i : BitVec 5)
  /-- LDBU (R111): Base form: load a byte, zero-extended. -/
  | ldbu (d a : BitVec 7) (sp : BitVec 2) (i : BitVec 5)
  /-- LDH (R111): Base form: load a halfword, sign-extended. -/
  | ldh (d a : BitVec 7) (sp : BitVec 2) (i : BitVec 5)
  /-- LDHU (R111): Base form: load a halfword, zero-extended. -/
  | ldhu (d a : BitVec 7) (sp : BitVec 2) (i : BitVec 5)
  /-- LDW (R111): Base form: load a word, sign-extended. -/
  | ldw (d a : BitVec 7) (sp : BitVec 2) (i : BitVec 5)
  /-- LDWU (R111): Base form: load a word, zero-extended. -/
  | ldwu (d a : BitVec 7) (sp : BitVec 2) (i : BitVec 5)
  /-- LDD (R111): Base form: load a doubleword. -/
  | ldd (d a : BitVec 7) (sp : BitVec 2) (i : BitVec 5)
  /-- STB (R112): Base form: store a byte. -/
  | stb (d a : BitVec 7) (sp : BitVec 2) (i : BitVec 5)
  /-- STH (R112): Base form: store a halfword. -/
  | sth (d a : BitVec 7) (sp : BitVec 2) (i : BitVec 5)
  /-- STW (R112): Base form: store a word; in space 0x3000 it posts an increment. -/
  | stw (d a : BitVec 7) (sp : BitVec 2) (i : BitVec 5)
  /-- STD (R112): Base form: store a doubleword. -/
  | std (d a : BitVec 7) (sp : BitVec 2) (i : BitVec 5)
  /-- LDP (R111): Base form: load 16 bytes into an even register pair. -/
  | ldp (d a : BitVec 7) (sp : BitVec 2) (i : BitVec 5)
  /-- STP (R112): Base form: store an even register pair as one 16-byte single-copy-atomic write. -/
  | stp (d a : BitVec 7) (sp : BitVec 2) (i : BitVec 5)
  /-- LDF (R114): Base form: start a split 64-bit load; D becomes empty and pending. -/
  | ldf (d a : BitVec 7) (sp : BitVec 2) (i : BitVec 5)
  /-- LDFW (R114): Base form: start a split 32-bit load, sign-extended on reply. -/
  | ldfw (d a : BitVec 7) (sp : BitVec 2) (i : BitVec 5)
  /-- WTNE (R120): Base form: arm a watch and wait until a doubleword differs from S. -/
  | wtne (d a : BitVec 7) (sp : BitVec 2) (i : BitVec 5)
  /-- PIN (R121): Base form: bring a line into the L1 and pin it. -/
  | pin (a : BitVec 7) (sp : BitVec 2) (i : BitVec 5)
  /-- UNPIN (R121): Base form: remove a line's pin. -/
  | unpin (a : BitVec 7) (sp : BitVec 2) (i : BitVec 5)
  /-- FLUSH (R121): Base form: drain the context's writes to a line and drop it from the L1 and visitor copy. -/
  | flush (a : BitVec 7) (sp : BitVec 2) (i : BitVec 5)
  /-- PREF (R121): Base form: prefetch a line; faults are dropped. -/
  | pref (a : BitVec 7) (sp : BitVec 2) (i : BitVec 5)
  /-- ALLOC (R122): Base form: take a block of the size in A from the granary. -/
  | alloc (d a : BitVec 7)
  /-- FREE (R123): Base form: return a block to the granary. -/
  | free (a : BitVec 7)
  /-- GO (R127): Base form: migrate the thread to the core beside an address. -/
  | go (a : BitVec 7) (sp : BitVec 2) (i : BitVec 5)
  /-- BARA (R135): Arrive at cluster barrier counter k. -/
  | bara (i : BitVec 14)
  /-- BARW (R135): Wait on cluster barrier counter k for the next phase. -/
  | barw (i : BitVec 14)
  /-- BARSET (R134): Bind barrier counter k to the group and set its participant count. -/
  | barset (a i : BitVec 7)
  /-- WSREF (R239): Base form: report the refreshing or next bank and the cycles to window boundaries. -/
  | wsref (d : BitVec 7)
  /-- JOIN (R354): Base form: count an arrival at a join counter; continue if last, otherwise end the task. -/
  | join (a : BitVec 7)
  /-- EXIT (R355): End the task after its accesses drain, releasing its holdings. -/
  | exit
  /-- YIELD (R356): Pre-empt the own task if the core has other work for it. -/
  | yield
  /-- NDONE (R365): Base form: complete or arm a loom-only graph node. -/
  | ndone (a : BitVec 7)
  /-- TRAP (R385): Raise a trap of class 17 with code n. -/
  | trap (i : BitVec 14)
  /-- SYS (R399): Run system call n through the gate and the die's service core. -/
  | sys (i : BitVec 14)
  /-- ERET (R385): Return from a trap handler to EPC in the saved mode. -/
  | eret
  /-- HALT (R385): Start a gang stop of the issuer's domain with cause 2. -/
  | halt
  /-- BRK (R385): Stop the domain when debugging is on for the process, otherwise trap. -/
  | brk
  /-- RFPART (R77): Drain the core and change its register-file partition, ending the issuing task. -/
  | rfpart (i : BitVec 14)
  /-- WMASK (R125): Request a number of scratchpad ways: grow at once, shrink deferred. -/
  | wmask (i : BitVec 14)
  /-- CTRRD (R403): Base form: read an event counter. -/
  | ctrrd (d a : BitVec 7)
  /-- CTRCFG (R403): Base form: configure an event counter. -/
  | ctrcfg (a b : BitVec 7)
  /-- ADD_X (R89): Extended form of add, with synchronised reads and g128 to g255 allowed. -/
  | addX (e : Ext)
  /-- SUB_X (R89): Extended form of sub. -/
  | subX (e : Ext)
  /-- MUL_X (R89): Extended form of mul. -/
  | mulX (e : Ext)
  /-- MULH_X (R89): Extended form of mulh. -/
  | mulhX (e : Ext)
  /-- MULHU_X (R89): Extended form of mulhu. -/
  | mulhuX (e : Ext)
  /-- DIV_X (R90): Extended form of div. -/
  | divX (e : Ext)
  /-- DIVU_X (R90): Extended form of divu. -/
  | divuX (e : Ext)
  /-- REM_X (R90): Extended form of rem. -/
  | remX (e : Ext)
  /-- REMU_X (R90): Extended form of remu. -/
  | remuX (e : Ext)
  /-- AND_X (R89): Extended form of and. -/
  | andX (e : Ext)
  /-- OR_X (R89): Extended form of or. -/
  | orX (e : Ext)
  /-- XOR_X (R89): Extended form of xor. -/
  | xorX (e : Ext)
  /-- ANDN_X (R89): Extended form of andn. -/
  | andnX (e : Ext)
  /-- ORN_X (R89): Extended form of orn. -/
  | ornX (e : Ext)
  /-- SHL_X (R89): Extended form of shl. -/
  | shlX (e : Ext)
  /-- SHR_X (R89): Extended form of shr. -/
  | shrX (e : Ext)
  /-- SRA_X (R89): Extended form of sra. -/
  | sraX (e : Ext)
  /-- ROTL_X (R89): Extended form of rotl. -/
  | rotlX (e : Ext)
  /-- MIN_X (R89): Extended form of min. -/
  | minX (e : Ext)
  /-- MAX_X (R89): Extended form of max. -/
  | maxX (e : Ext)
  /-- MINU_X (R89): Extended form of minu. -/
  | minuX (e : Ext)
  /-- MAXU_X (R89): Extended form of maxu. -/
  | maxuX (e : Ext)
  /-- ADDW_X (R91): Extended form of addw. -/
  | addwX (e : Ext)
  /-- SUBW_X (R91): Extended form of subw. -/
  | subwX (e : Ext)
  /-- MULW_X (R91): Extended form of mulw. -/
  | mulwX (e : Ext)
  /-- SHLW_X (R91): Extended form of shlw. -/
  | shlwX (e : Ext)
  /-- SHRW_X (R91): Extended form of shrw. -/
  | shrwX (e : Ext)
  /-- SRAW_X (R91): Extended form of sraw. -/
  | srawX (e : Ext)
  /-- BEXT_X (R92): Extended form of bext. -/
  | bextX (e : Ext)
  /-- BINS_X (R92): Extended form of bins. -/
  | binsX (e : Ext)
  /-- BSET_X (R92): Extended form of bset. -/
  | bsetX (e : Ext)
  /-- BCLR_X (R92): Extended form of bclr. -/
  | bclrX (e : Ext)
  /-- SEQ_X (R92): Extended form of seq. -/
  | seqX (e : Ext)
  /-- SNE_X (R92): Extended form of sne. -/
  | sneX (e : Ext)
  /-- SLT_X (R92): Extended form of slt. -/
  | sltX (e : Ext)
  /-- SLTU_X (R92): Extended form of sltu. -/
  | sltuX (e : Ext)
  /-- SLE_X (R92): Extended form of sle. -/
  | sleX (e : Ext)
  /-- SLEU_X (R92): Extended form of sleu. -/
  | sleuX (e : Ext)
  /-- NOT_X (R93): Extended form of not. -/
  | notX (e : Ext)
  /-- NEG_X (R93): Extended form of neg. -/
  | negX (e : Ext)
  /-- CLZ_X (R93): Extended form of clz. -/
  | clzX (e : Ext)
  /-- CTZ_X (R93): Extended form of ctz. -/
  | ctzX (e : Ext)
  /-- POPC_X (R93): Extended form of popc. -/
  | popcX (e : Ext)
  /-- SEXTB_X (R93): Extended form of sextb. -/
  | sextbX (e : Ext)
  /-- SEXTH_X (R93): Extended form of sexth. -/
  | sexthX (e : Ext)
  /-- SEXTW_X (R93): Extended form of sextw. -/
  | sextwX (e : Ext)
  /-- ZEXTB_X (R93): Extended form of zextb. -/
  | zextbX (e : Ext)
  /-- ZEXTH_X (R93): Extended form of zexth. -/
  | zexthX (e : Ext)
  /-- ZEXTW_X (R93): Extended form of zextw. -/
  | zextwX (e : Ext)
  /-- BSWAP_X (R93): Extended form of bswap. -/
  | bswapX (e : Ext)
  /-- ADDI_X (R94): Literal and extended forms of addi, with a 64-bit or 32-bit immediate. -/
  | addiX (e : Ext)
  /-- ANDI_X (R94): Literal and extended forms of andi. -/
  | andiX (e : Ext)
  /-- ORI_X (R94): Literal and extended forms of ori. -/
  | oriX (e : Ext)
  /-- XORI_X (R94): Literal and extended forms of xori. -/
  | xoriX (e : Ext)
  /-- SHLI_X (R94): Literal and extended forms of shli. -/
  | shliX (e : Ext)
  /-- SHRI_X (R94): Literal and extended forms of shri. -/
  | shriX (e : Ext)
  /-- SRAI_X (R94): Literal and extended forms of srai. -/
  | sraiX (e : Ext)
  /-- ROTLI_X (R94): Literal and extended forms of rotli. -/
  | rotliX (e : Ext)
  /-- MULI_X (R94): Literal and extended forms of muli. -/
  | muliX (e : Ext)
  /-- LI_X (R95): Literal and extended forms of li, loading any 64-bit constant. -/
  | liX (e : Ext)
  /-- LPC_X (R95): Literal and extended forms of lpc. -/
  | lpcX (e : Ext)
  /-- SKP_X (R86): Extended form of skp, with a 24-bit immediate or synchronised reads. -/
  | skpX (e : Ext) (cc : BitVec 4) (k : BitVec 2) (ib : Bool) (i : BitVec 24)
  /-- JMP_X (R97): Extended form of jmp. -/
  | jmpX (e : Ext)
  /-- CALLR_X (R97): Extended form of callr. -/
  | callrX (e : Ext)
  /-- DBNZ_X (R98): Extended form of dbnz, with a 32-bit word offset. -/
  | dbnzX (e : Ext)
  /-- MFS_X (R101): Extended form of mfs. -/
  | mfsX (e : Ext)
  /-- MTS_X (R101): Literal and extended forms of mts; the literal form writes a 64-bit constant. -/
  | mtsX (x : MtsForm)
  /-- FSET_X (R85): Extended form of fset. -/
  | fsetX (e : Ext)
  /-- FCLR_X (R85): Extended form of fclr. -/
  | fclrX (e : Ext)
  /-- LDB_X (R111): Literal and extended forms of ldb, with index, order and hints. -/
  | ldbX (e : Ext)
  /-- LDBU_X (R111): Literal and extended forms of ldbu. -/
  | ldbuX (e : Ext)
  /-- LDH_X (R111): Literal and extended forms of ldh. -/
  | ldhX (e : Ext)
  /-- LDHU_X (R111): Literal and extended forms of ldhu. -/
  | ldhuX (e : Ext)
  /-- LDW_X (R111): Literal and extended forms of ldw. -/
  | ldwX (e : Ext)
  /-- LDWU_X (R111): Literal and extended forms of ldwu. -/
  | ldwuX (e : Ext)
  /-- LDD_X (R111): Literal and extended forms of ldd. -/
  | lddX (e : Ext)
  /-- STB_X (R112): Literal and extended forms of stb, with release order. -/
  | stbX (e : Ext)
  /-- STH_X (R112): Literal and extended forms of sth. -/
  | sthX (e : Ext)
  /-- STW_X (R112): Literal and extended forms of stw. -/
  | stwX (e : Ext)
  /-- STD_X (R112): Literal and extended forms of std. -/
  | stdX (e : Ext)
  /-- LDP_X (R111): Literal and extended forms of ldp. -/
  | ldpX (e : Ext)
  /-- STP_X (R112): Literal and extended forms of stp. -/
  | stpX (e : Ext)
  /-- LDF_X (R114): Literal and extended forms of ldf. -/
  | ldfX (e : Ext)
  /-- LDFW_X (R114): Literal and extended forms of ldfw. -/
  | ldfwX (e : Ext)
  /-- AADD (R116): 64-bit atomic add; D receives the old value. -/
  | aadd (e : Ext)
  /-- AAND (R116): 64-bit atomic AND. -/
  | aand (e : Ext)
  /-- AOR (R116): 64-bit atomic OR. -/
  | aor (e : Ext)
  /-- AXOR (R116): 64-bit atomic XOR. -/
  | axor (e : Ext)
  /-- AMIN (R116): 64-bit atomic signed minimum. -/
  | amin (e : Ext)
  /-- AMAX (R116): 64-bit atomic signed maximum. -/
  | amax (e : Ext)
  /-- AMINU (R116): 64-bit atomic unsigned minimum. -/
  | aminu (e : Ext)
  /-- AMAXU (R116): 64-bit atomic unsigned maximum. -/
  | amaxu (e : Ext)
  /-- ASWP (R116): 64-bit atomic swap. -/
  | aswp (e : Ext)
  /-- ACAS (R117): 64-bit compare-and-swap with separate success and failure orders. -/
  | acas (e : Ext)
  /-- AADDW (R116): 32-bit atomic add. -/
  | aaddw (e : Ext)
  /-- AANDW (R116): 32-bit atomic AND. -/
  | aandw (e : Ext)
  /-- AORW (R116): 32-bit atomic OR. -/
  | aorw (e : Ext)
  /-- AXORW (R116): 32-bit atomic XOR. -/
  | axorw (e : Ext)
  /-- AMINW (R116): 32-bit atomic signed minimum. -/
  | aminw (e : Ext)
  /-- AMAXW (R116): 32-bit atomic signed maximum. -/
  | amaxw (e : Ext)
  /-- AMINUW (R116): 32-bit atomic unsigned minimum. -/
  | aminuw (e : Ext)
  /-- AMAXUW (R116): 32-bit atomic unsigned maximum. -/
  | amaxuw (e : Ext)
  /-- ASWPW (R116): 32-bit atomic swap. -/
  | aswpw (e : Ext)
  /-- ACASW (R117): 32-bit compare-and-swap. -/
  | acasw (e : Ext)
  /-- FENCE (R119): Acquire, release or acquire-release fence at a scope. -/
  | fence (e : Ext)
  /-- WTNE_X (R120): Literal and extended forms of wtne, with acquire order. -/
  | wtneX (e : Ext)
  /-- PIN_X (R121): Literal and extended forms of pin. -/
  | pinX (e : Ext)
  /-- UNPIN_X (R121): Literal and extended forms of unpin. -/
  | unpinX (e : Ext)
  /-- FLUSH_X (R121): Literal and extended forms of flush. -/
  | flushX (e : Ext)
  /-- PREF_X (R121): Literal and extended forms of pref. -/
  | prefX (e : Ext)
  /-- ALLOC_X (R122): Extended form of alloc. -/
  | allocX (e : Ext)
  /-- FREE_X (R123): Extended form of free. -/
  | freeX (e : Ext)
  /-- GO_X (R127): Literal and extended forms of go. -/
  | goX (e : Ext)
  /-- VADD (R163): Lane-wise vector add. -/
  | vadd (t : LaneTy) (e : Ext)
  /-- VSUB (R163): Lane-wise vector subtract. -/
  | vsub (t : LaneTy) (e : Ext)
  /-- VMUL (R163): Lane-wise vector multiply. -/
  | vmul (t : LaneTy) (e : Ext)
  /-- VFMA (R163): Lane-wise fused multiply-add with one rounding. -/
  | vfma (t : LaneTy) (e : Ext)
  /-- VMIN (R164): Lane-wise minimum. -/
  | vmin (t : LaneTy) (e : Ext)
  /-- VMAX (R164): Lane-wise maximum. -/
  | vmax (t : LaneTy) (e : Ext)
  /-- VABS (R165): Lane-wise absolute value. -/
  | vabs (t : LaneTy) (e : Ext)
  /-- VAND (R166): Bitwise AND over 1,024 bits. -/
  | vand (e : Ext)
  /-- VOR (R166): Bitwise OR over 1,024 bits. -/
  | vor (e : Ext)
  /-- VXOR (R166): Bitwise XOR over 1,024 bits. -/
  | vxor (e : Ext)
  /-- VNOT (R166): Bitwise NOT over 1,024 bits. -/
  | vnot (e : Ext)
  /-- VSHL (R167): Lane-wise left shift by per-lane counts. -/
  | vshl (t : LaneTy) (e : Ext)
  /-- VSHR (R167): Lane-wise logical right shift. -/
  | vshr (t : LaneTy) (e : Ext)
  /-- VSRA (R167): Lane-wise arithmetic right shift. -/
  | vsra (t : LaneTy) (e : Ext)
  /-- VCMP (R168): Lane-wise compare writing an all-ones or all-zeros mask. -/
  | vcmp (t : LaneTy) (cc : BitVec 4) (e : Ext)
  /-- VSEL (R169): Bitwise select of A or B under mask C. -/
  | vsel (e : Ext)
  /-- VPERM (R171): Permute lanes of A by indices in B. -/
  | vperm (w : Width) (e : Ext)
  /-- VBCAST (R172): Broadcast a general register into every lane. -/
  | vbcast (w : Width) (e : Ext)
  /-- VEXT (R172): Extract one lane into a general register. -/
  | vext (w : Width) (e : Ext)
  /-- VRED (R173): Reduce all lanes by sum, min or max into a general register. -/
  | vred (t : LaneTy) (op : BitVec 2) (e : Ext)
  /-- VRCP (R174): Long operation: lane-wise reciprocal through the long-operation queue. -/
  | vrcp (t : LaneTy) (e : Ext)
  /-- VRSQ (R174): Long operation: lane-wise reciprocal square root. -/
  | vrsq (t : LaneTy) (e : Ext)
  /-- VEXP2 (R174): Long operation: lane-wise 2^x. -/
  | vexp2 (t : LaneTy) (e : Ext)
  /-- VLOG2 (R174): Long operation: lane-wise log2. -/
  | vlog2 (t : LaneTy) (e : Ext)
  /-- VCVT (R175): Convert lanes between formats, variant selected by SUB. -/
  | vcvt (v : Cvt) (e : Ext)
  /-- VRQ (R176): Requantise binary8 lanes from one format and scale to another. -/
  | vrq (e : Ext)
  /-- VMOV (R172): Copy a vector register. -/
  | vmov (e : Ext)
  /-- VCNT (R170): Count one bits of a vector into a general register. -/
  | vcnt (e : Ext)
  /-- VFIRST (R170): Index of the lowest one bit of a vector. -/
  | vfirst (e : Ext)
  /-- VLD (R179): Load 128 contiguous bytes into a vector register. -/
  | vld (e : Ext)
  /-- VST (R179): Store 128 contiguous bytes from a vector register. -/
  | vst (e : Ext)
  /-- VLDS (R180): Strided vector load. -/
  | vlds (w : Width) (e : Ext)
  /-- VSTS (R180): Strided vector store. -/
  | vsts (w : Width) (e : Ext)
  /-- VGAT (R181): Gather elements at offsets held in a vector register. -/
  | vgat (w : Width) (e : Ext)
  /-- VSCA (R181): Scatter elements to offsets held in a vector register. -/
  | vsca (w : Width) (e : Ext)
  /-- VLDT (R182): Load 32 elements of a tensor row, converting to FP32. -/
  | vldt (e : Ext)
  /-- VSTT (R182): Store 32 FP32 lanes into a tensor row, converting to its format. -/
  | vstt (e : Ext)
  /-- TDEF (R194): Read a tensor descriptor and load it into a tensor identifier. -/
  | tdef (e : Ext)
  /-- TCLAIM (R196): Claim a range of creel slots. -/
  | tclaim (e : Ext)
  /-- TREL (R197): Release a range of creel slots at the holding core. -/
  | trel (e : Ext)
  /-- TLD (R198): Loom command: load one tile of a tensor into the creel. -/
  | tld (e : Ext)
  /-- MMA (R202): Loom command: add the product of two creel tiles into an accumulator. -/
  | mma (e : Ext)
  /-- MMAM (R204): Loom command: multiply creel tiles by a right operand streamed from memory slice by slice. -/
  | mmam (e : Ext)
  /-- ACZ (R207): Claim an accumulator and clear it. -/
  | acz (e : Ext)
  /-- ACLD (R208): Loom command: claim an accumulator and load it from memory. -/
  | acld (e : Ext)
  /-- ACST (R209): Loom command: store an accumulator rounded to FP32, BF16 or FP16. -/
  | acst (t : LaneTy) (e : Ext)
  /-- ACRD (R210): Copy half a row of an accumulator into a vector register. -/
  | acrd (e : Ext)
  /-- XDEF (R224): Write a template record into the process's template table. -/
  | xdef (e : Ext)
  /-- XFER (R225): Start a copy on a channel from a template and argument. -/
  | xfer (e : Ext)
  /-- XWAIT (R234): Wait until a channel is idle, faulted or cancelled. -/
  | xwait (e : Ext)
  /-- XSTAT (R235): Read a channel's status. -/
  | xstat (e : Ext)
  /-- XCAN (R236): Cancel a channel's running and queued copies. -/
  | xcan (e : Ext)
  /-- XPUB (R232): Publish the shadows of a range of 64 KiB granules in one event. -/
  | xpub (e : Ext)
  /-- WSREF_X (R239): Extended form of wsref. -/
  | wsrefX (e : Ext)
  /-- POST (R277): Send an increment to a mailbox counter anywhere in the package. -/
  | post (e : Ext)
  /-- MWAIT (R278): Wait until a counter of the own core reaches a target. -/
  | mwait (e : Ext)
  /-- MRD (R279): Read a counter of the own core. -/
  | mrd (e : Ext)
  /-- MSET (R279): Set a counter of the own core and raise WAKE. -/
  | mset (e : Ext)
  /-- SEND (R288): Send a message to an endpoint and wait until it is accepted. -/
  | send (e : Ext)
  /-- RECV (R289): Take the oldest message of the task, or query the own endpoint word. -/
  | recv (e : Ext)
  /-- SPAWN (R290): Start a task on a named core, or report that the caller runs it inline. -/
  | spawn (e : Ext)
  /-- SPAWN_GRP (R290): As spawn, joining or creating the process's group on the target cluster. -/
  | spawnGrp (e : Ext)
  /-- SUBSCRIBE (R293): Subscribe a local scratchpad region to a source region on another core. -/
  | subscribe (e : Ext)
  /-- UNSUB (R297): Remove a subscription by handle. -/
  | unsub (e : Ext)
  /-- SUBFLUSH (R296): Wait until the context's subscription updates are applied at every subscriber. -/
  | subflush (e : Ext)
  /-- TBIND (R305): Bind the task to a logical process, or unbind it with A = 0. -/
  | tbind (e : Ext)
  /-- TNEXT (R310): Begin the pending event of lowest key, or return 0 when the run is over. -/
  | tnext (e : Ext)
  /-- TSEND (R313): Send a timed message, logging it when in an event. -/
  | tsend (e : Ext)
  /-- TDONE (R312): End the event in progress and perform the deferred items. -/
  | tdone (e : Ext)
  /-- TIRR (R314): Queue an irrevocable action to be performed once GVT passes its time. -/
  | tirr (e : Ext)
  /-- TGVT (R322): Request a GVT computation. -/
  | tgvt (e : Ext)
  /-- FORK (R353): Push a continuation record onto the bottom of the core's spindle. -/
  | fork (e : Ext)
  /-- JOIN_X (R354): Extended form of join. -/
  | joinX (e : Ext)
  /-- NDONE_X (R365): Extended form of ndone. -/
  | ndoneX (e : Ext)
  /-- QSUB (R357): Place an entry in a DEV queue from a device core. -/
  | qsub (e : Ext)
  /-- PTOK_TAKE (R371): Request heavy-unit tokens and read the count held. -/
  | ptokTake (e : Ext)
  /-- PTOK_GIVE (R371): Cancel requests and return heavy-unit tokens. -/
  | ptokGive (e : Ext)
  /-- XLINV_ALL (R402): Drop every translation in every translation cache. -/
  | xlinvAll (e : Ext)
  /-- XLINV_PAGE (R402): Drop a process's translations covering one offset. -/
  | xlinvPage (e : Ext)
  /-- XLINV_PROC (R402): Drop every translation of a process. -/
  | xlinvProc (e : Ext)
  /-- CTRRD_X (R403): Extended form of ctrrd. -/
  | ctrrdX (e : Ext)
  /-- CTRCFG_X (R403): Extended form of ctrcfg. -/
  | ctrcfgX (e : Ext)
  deriving DecidableEq, Repr

end Sys2Proof
end

