-- ==== Sys2Proof/WellFormed.lean ====
section
/-! DEFINITION. Well-formed instructions: the rows of the opcode map (Tables 14 to 17 of 02_encoding)
as data, and the checks of R65 that need no state of the machine. The partition check of R48 depends
on the core's partition and is made when the instruction is executed. -/

namespace Sys2Proof

/-- The cases of R65, by name, and the case of too few words to decode. -/
inductive DecodeError where
  /-- The words end before the instruction does. -/
  | truncated
  /-- An OP of 0 or one that the opcode map does not list. -/
  | reservedOp
  /-- A LEN that the row does not permit. -/
  | badLen
  /-- A SUB that the OP does not assign. -/
  | badSub
  /-- A nonzero field that the row does not list. -/
  | nonzeroField
  /-- A reserved MOD code, an ORD the row does not permit, or a scope with a plain ORD (R44). -/
  | badModifier
  /-- A synchronised-read bit on a field that names no general register read, or on g0. -/
  | badSync
  /-- A register number outside its class (R47). -/
  | badRegister
  /-- An odd pair register, or a spawn quad that is no multiple of 4. -/
  | badAlign
  /-- K = 0, or a CS field that breaks R49. -/
  | badSkip
  /-- An immediate outside its range. -/
  | badImmediate
  /-- A special-register number that is not in Table 22, or `mts` to a read-only one (R63). -/
  | badSpecial
  deriving DecidableEq, Repr

/-- The register classes of Table 6, with the alignment that pairs and quads need (R65). -/
inductive FieldClass where
  | no | g | gEven | gQuad | v | acc | creel | tid | ctr | chan
  deriving DecidableEq, Repr

/-- The O letters of R58. -/
inductive OrdRule where
  | plain | load | store | any | fence
  deriving DecidableEq, Repr

/-- One row of the opcode map for the literal and extended forms: which fields are in use, with their
classes, and which MOD letters the row names (R58). -/
structure Row where
  op : Nat
  sub : Nat := 0
  d : FieldClass := .no
  a : FieldClass := .no
  b : FieldClass := .no
  c : FieldClass := .no
  syn : Bool := false
  ord : OrdRule := .plain
  space : Bool := false
  hint : Bool := false
  ford : Bool := false
  rnd : Bool := false
  sat : Bool := false
  lit01 : Bool := false
  lit11 : Bool := false
  imm : Bool := false
  deriving DecidableEq, Repr

/-- SUB of a lane type (Table 18). -/
def LaneTy.sub : LaneTy → Nat
  | .f32 => 0 | .bf16 => 1 | .f16 => 2 | .i32 => 4 | .i8 => 5 | .ui8 => 6

/-- Is a lane type a floating one? RND is for these only, and SAT of `vred` (R160). -/
def LaneTy.isFloat : LaneTy → Bool
  | .f32 | .bf16 | .f16 => true
  | .i32 | .i8 | .ui8 => false

/-- SUB of an element width (Table 18). -/
def Width.sub : Width → Nat
  | .w32 => 0 | .w16 => 1 | .w8 => 2

/-- SUB of a conversion (Table 20). -/
def Cvt.sub : Cvt → Nat
  | .bf16F32 => 0 | .f16F32 => 1 | .f32Bf16 => 2 | .f32F16 => 3 | .b8F32 => 4 | .f32B8 => 5
  | .i32F32 => 6 | .f32I32 => 7 | .i8F32 => 8 | .f32I8 => 9 | .b8K4 => 10 | .bf16F16 => 11
  | .f16Bf16 => 12 | .i8I32 => 13 | .i32I8 => 14 | .i32Ui8 => 15

/-- Variants 4, 5 and 10 name a tensor identifier in B (R61). -/
def Cvt.needsTid : Cvt → Bool
  | .b8F32 | .f32B8 | .b8K4 => true
  | _ => false


/-- The row of the opcode map that an instruction in literal or extended form belongs to; none for a
base form and for an event (Tables 14 to 21). `pref` in extended form has no hint field: Table 6 of R121 names a `.l2` form, and
its row of the opcode map permits P and S alone, so that HINT must be 0 there (DEDUCED, unsafe, log entry 42). -/
def Instr.row : Instr → Option Row
  | .addX _ => some { op := 0x001, d := .g, a := .g, b := .g, syn := true }
  | .subX _ => some { op := 0x002, d := .g, a := .g, b := .g, syn := true }
  | .mulX _ => some { op := 0x003, d := .g, a := .g, b := .g, syn := true }
  | .mulhX _ => some { op := 0x004, d := .g, a := .g, b := .g, syn := true }
  | .mulhuX _ => some { op := 0x005, d := .g, a := .g, b := .g, syn := true }
  | .divX _ => some { op := 0x006, d := .g, a := .g, b := .g, syn := true }
  | .divuX _ => some { op := 0x007, d := .g, a := .g, b := .g, syn := true }
  | .remX _ => some { op := 0x008, d := .g, a := .g, b := .g, syn := true }
  | .remuX _ => some { op := 0x009, d := .g, a := .g, b := .g, syn := true }
  | .andX _ => some { op := 0x00A, d := .g, a := .g, b := .g, syn := true }
  | .orX _ => some { op := 0x00B, d := .g, a := .g, b := .g, syn := true }
  | .xorX _ => some { op := 0x00C, d := .g, a := .g, b := .g, syn := true }
  | .andnX _ => some { op := 0x00D, d := .g, a := .g, b := .g, syn := true }
  | .ornX _ => some { op := 0x00E, d := .g, a := .g, b := .g, syn := true }
  | .shlX _ => some { op := 0x00F, d := .g, a := .g, b := .g, syn := true }
  | .shrX _ => some { op := 0x010, d := .g, a := .g, b := .g, syn := true }
  | .sraX _ => some { op := 0x011, d := .g, a := .g, b := .g, syn := true }
  | .rotlX _ => some { op := 0x012, d := .g, a := .g, b := .g, syn := true }
  | .minX _ => some { op := 0x013, d := .g, a := .g, b := .g, syn := true }
  | .maxX _ => some { op := 0x014, d := .g, a := .g, b := .g, syn := true }
  | .minuX _ => some { op := 0x015, d := .g, a := .g, b := .g, syn := true }
  | .maxuX _ => some { op := 0x016, d := .g, a := .g, b := .g, syn := true }
  | .addwX _ => some { op := 0x017, d := .g, a := .g, b := .g, syn := true }
  | .subwX _ => some { op := 0x018, d := .g, a := .g, b := .g, syn := true }
  | .mulwX _ => some { op := 0x019, d := .g, a := .g, b := .g, syn := true }
  | .shlwX _ => some { op := 0x01A, d := .g, a := .g, b := .g, syn := true }
  | .shrwX _ => some { op := 0x01B, d := .g, a := .g, b := .g, syn := true }
  | .srawX _ => some { op := 0x01C, d := .g, a := .g, b := .g, syn := true }
  | .bextX _ => some { op := 0x01D, d := .g, a := .g, b := .g, syn := true }
  | .binsX _ => some { op := 0x01E, d := .g, a := .g, b := .g, syn := true }
  | .bsetX _ => some { op := 0x01F, d := .g, a := .g, b := .g, syn := true }
  | .bclrX _ => some { op := 0x020, d := .g, a := .g, b := .g, syn := true }
  | .seqX _ => some { op := 0x021, d := .g, a := .g, b := .g, syn := true }
  | .sneX _ => some { op := 0x022, d := .g, a := .g, b := .g, syn := true }
  | .sltX _ => some { op := 0x023, d := .g, a := .g, b := .g, syn := true }
  | .sltuX _ => some { op := 0x024, d := .g, a := .g, b := .g, syn := true }
  | .sleX _ => some { op := 0x025, d := .g, a := .g, b := .g, syn := true }
  | .sleuX _ => some { op := 0x026, d := .g, a := .g, b := .g, syn := true }
  | .notX _ => some { op := 0x027, d := .g, a := .g, syn := true }
  | .negX _ => some { op := 0x028, d := .g, a := .g, syn := true }
  | .clzX _ => some { op := 0x029, d := .g, a := .g, syn := true }
  | .ctzX _ => some { op := 0x02A, d := .g, a := .g, syn := true }
  | .popcX _ => some { op := 0x02B, d := .g, a := .g, syn := true }
  | .sextbX _ => some { op := 0x02C, d := .g, a := .g, syn := true }
  | .sexthX _ => some { op := 0x02D, d := .g, a := .g, syn := true }
  | .sextwX _ => some { op := 0x02E, d := .g, a := .g, syn := true }
  | .zextbX _ => some { op := 0x02F, d := .g, a := .g, syn := true }
  | .zexthX _ => some { op := 0x030, d := .g, a := .g, syn := true }
  | .zextwX _ => some { op := 0x031, d := .g, a := .g, syn := true }
  | .bswapX _ => some { op := 0x032, d := .g, a := .g, syn := true }
  | .addiX _ => some { op := 0x033, d := .g, a := .g, syn := true, lit01 := true, lit11 := true, imm := true }
  | .andiX _ => some { op := 0x034, d := .g, a := .g, syn := true, lit01 := true, lit11 := true, imm := true }
  | .oriX _ => some { op := 0x035, d := .g, a := .g, syn := true, lit01 := true, lit11 := true, imm := true }
  | .xoriX _ => some { op := 0x036, d := .g, a := .g, syn := true, lit01 := true, lit11 := true, imm := true }
  | .shliX _ => some { op := 0x037, d := .g, a := .g, syn := true, lit01 := true, lit11 := true, imm := true }
  | .shriX _ => some { op := 0x038, d := .g, a := .g, syn := true, lit01 := true, lit11 := true, imm := true }
  | .sraiX _ => some { op := 0x039, d := .g, a := .g, syn := true, lit01 := true, lit11 := true, imm := true }
  | .rotliX _ => some { op := 0x03A, d := .g, a := .g, syn := true, lit01 := true, lit11 := true, imm := true }
  | .muliX _ => some { op := 0x03B, d := .g, a := .g, syn := true, lit01 := true, lit11 := true, imm := true }
  | .liX _ => some { op := 0x03C, d := .g, lit01 := true, lit11 := true, imm := true }
  | .lpcX _ => some { op := 0x03D, d := .g, lit01 := true, lit11 := true, imm := true }
  | .skpX _ _ _ ib _ => some (if ib then { op := 0x03E, a := .g, syn := true } else { op := 0x03E, a := .g, b := .g, syn := true })
  | .jmpX _ => some { op := 0x041, a := .g, syn := true, imm := true }
  | .callrX _ => some { op := 0x042, d := .g, a := .g, syn := true, imm := true }
  | .dbnzX _ => some { op := 0x044, d := .g, imm := true }
  | .mfsX _ => some { op := 0x045, d := .g, imm := true }
  | .fsetX _ => some { op := 0x047, d := .g }
  | .fclrX _ => some { op := 0x048, d := .g }
  | .ldbX _ => some { op := 0x050, d := .g, a := .g, b := .g, syn := true, space := true, hint := true, lit01 := true, lit11 := true, imm := true, ord := .load }
  | .ldbuX _ => some { op := 0x051, d := .g, a := .g, b := .g, syn := true, space := true, hint := true, lit01 := true, lit11 := true, imm := true, ord := .load }
  | .ldhX _ => some { op := 0x052, d := .g, a := .g, b := .g, syn := true, space := true, hint := true, lit01 := true, lit11 := true, imm := true, ord := .load }
  | .ldhuX _ => some { op := 0x053, d := .g, a := .g, b := .g, syn := true, space := true, hint := true, lit01 := true, lit11 := true, imm := true, ord := .load }
  | .ldwX _ => some { op := 0x054, d := .g, a := .g, b := .g, syn := true, space := true, hint := true, lit01 := true, lit11 := true, imm := true, ord := .load }
  | .ldwuX _ => some { op := 0x055, d := .g, a := .g, b := .g, syn := true, space := true, hint := true, lit01 := true, lit11 := true, imm := true, ord := .load }
  | .lddX _ => some { op := 0x056, d := .g, a := .g, b := .g, syn := true, space := true, hint := true, lit01 := true, lit11 := true, imm := true, ord := .load }
  | .stbX _ => some { op := 0x057, a := .g, b := .g, c := .g, syn := true, space := true, hint := true, lit01 := true, lit11 := true, imm := true, ord := .store }
  | .sthX _ => some { op := 0x058, a := .g, b := .g, c := .g, syn := true, space := true, hint := true, lit01 := true, lit11 := true, imm := true, ord := .store }
  | .stwX _ => some { op := 0x059, a := .g, b := .g, c := .g, syn := true, space := true, hint := true, lit01 := true, lit11 := true, imm := true, ord := .store }
  | .stdX _ => some { op := 0x05A, a := .g, b := .g, c := .g, syn := true, space := true, hint := true, lit01 := true, lit11 := true, imm := true, ord := .store }
  | .ldpX _ => some { op := 0x05B, d := .gEven, a := .g, b := .g, syn := true, space := true, hint := true, lit01 := true, lit11 := true, imm := true, ord := .load }
  | .stpX _ => some { op := 0x05C, a := .g, b := .g, c := .gEven, syn := true, space := true, hint := true, lit01 := true, lit11 := true, imm := true, ord := .store }
  | .ldfX _ => some { op := 0x05D, d := .g, a := .g, b := .g, syn := true, space := true, hint := true, lit01 := true, lit11 := true, imm := true }
  | .ldfwX _ => some { op := 0x05E, d := .g, a := .g, b := .g, syn := true, space := true, hint := true, lit01 := true, lit11 := true, imm := true }
  | .aadd _ => some { op := 0x05F, d := .g, a := .g, c := .g, syn := true, space := true, lit11 := true, imm := true, ord := .any }
  | .aand _ => some { op := 0x05F, sub := 1, d := .g, a := .g, c := .g, syn := true, space := true, lit11 := true, imm := true, ord := .any }
  | .aor _ => some { op := 0x05F, sub := 2, d := .g, a := .g, c := .g, syn := true, space := true, lit11 := true, imm := true, ord := .any }
  | .axor _ => some { op := 0x05F, sub := 3, d := .g, a := .g, c := .g, syn := true, space := true, lit11 := true, imm := true, ord := .any }
  | .amin _ => some { op := 0x05F, sub := 4, d := .g, a := .g, c := .g, syn := true, space := true, lit11 := true, imm := true, ord := .any }
  | .amax _ => some { op := 0x05F, sub := 5, d := .g, a := .g, c := .g, syn := true, space := true, lit11 := true, imm := true, ord := .any }
  | .aminu _ => some { op := 0x05F, sub := 6, d := .g, a := .g, c := .g, syn := true, space := true, lit11 := true, imm := true, ord := .any }
  | .amaxu _ => some { op := 0x05F, sub := 7, d := .g, a := .g, c := .g, syn := true, space := true, lit11 := true, imm := true, ord := .any }
  | .aswp _ => some { op := 0x05F, sub := 8, d := .g, a := .g, c := .g, syn := true, space := true, lit11 := true, imm := true, ord := .any }
  | .acas _ => some { op := 0x05F, sub := 9, d := .g, a := .g, b := .g, c := .g, syn := true, space := true, ford := true, lit11 := true, imm := true, ord := .any }
  | .aaddw _ => some { op := 0x05F, sub := 16, d := .g, a := .g, c := .g, syn := true, space := true, lit11 := true, imm := true, ord := .any }
  | .aandw _ => some { op := 0x05F, sub := 17, d := .g, a := .g, c := .g, syn := true, space := true, lit11 := true, imm := true, ord := .any }
  | .aorw _ => some { op := 0x05F, sub := 18, d := .g, a := .g, c := .g, syn := true, space := true, lit11 := true, imm := true, ord := .any }
  | .axorw _ => some { op := 0x05F, sub := 19, d := .g, a := .g, c := .g, syn := true, space := true, lit11 := true, imm := true, ord := .any }
  | .aminw _ => some { op := 0x05F, sub := 20, d := .g, a := .g, c := .g, syn := true, space := true, lit11 := true, imm := true, ord := .any }
  | .amaxw _ => some { op := 0x05F, sub := 21, d := .g, a := .g, c := .g, syn := true, space := true, lit11 := true, imm := true, ord := .any }
  | .aminuw _ => some { op := 0x05F, sub := 22, d := .g, a := .g, c := .g, syn := true, space := true, lit11 := true, imm := true, ord := .any }
  | .amaxuw _ => some { op := 0x05F, sub := 23, d := .g, a := .g, c := .g, syn := true, space := true, lit11 := true, imm := true, ord := .any }
  | .aswpw _ => some { op := 0x05F, sub := 24, d := .g, a := .g, c := .g, syn := true, space := true, lit11 := true, imm := true, ord := .any }
  | .acasw _ => some { op := 0x05F, sub := 25, d := .g, a := .g, b := .g, c := .g, syn := true, space := true, ford := true, lit11 := true, imm := true, ord := .any }
  | .fence _ => some { op := 0x060, ord := .fence }
  | .wtneX _ => some { op := 0x061, a := .g, b := .g, c := .g, syn := true, space := true, lit01 := true, lit11 := true, imm := true, ord := .load }
  | .pinX _ => some { op := 0x062, a := .g, b := .g, syn := true, space := true, lit01 := true, lit11 := true, imm := true }
  | .unpinX _ => some { op := 0x063, a := .g, b := .g, syn := true, space := true, lit01 := true, lit11 := true, imm := true }
  | .flushX _ => some { op := 0x064, a := .g, b := .g, syn := true, space := true, lit01 := true, lit11 := true, imm := true }
  | .prefX _ => some { op := 0x065, a := .g, b := .g, syn := true, space := true, lit01 := true, lit11 := true, imm := true }
  | .allocX _ => some { op := 0x066, d := .g, a := .g, syn := true }
  | .freeX _ => some { op := 0x067, a := .g, syn := true }
  | .goX _ => some { op := 0x068, a := .g, b := .g, syn := true, space := true, lit01 := true, lit11 := true, imm := true }
  | .vadd t _ => some { sub := t.sub, op := 0x080, d := .v, a := .v, b := .v, rnd := t.isFloat, sat := true }
  | .vsub t _ => some { sub := t.sub, op := 0x081, d := .v, a := .v, b := .v, rnd := t.isFloat, sat := true }
  | .vmul t _ => some { sub := t.sub, op := 0x082, d := .v, a := .v, b := .v, rnd := t.isFloat, sat := true }
  | .vfma t _ => some { sub := t.sub, op := 0x083, d := .v, a := .v, b := .v, c := .v, rnd := true, sat := true }
  | .vmin t _ => some { sub := t.sub, op := 0x084, d := .v, a := .v, b := .v }
  | .vmax t _ => some { sub := t.sub, op := 0x085, d := .v, a := .v, b := .v }
  | .vabs t _ => some { sub := t.sub, op := 0x086, d := .v, a := .v, sat := true }
  | .vand _ => some { op := 0x087, d := .v, a := .v, b := .v }
  | .vor _ => some { op := 0x088, d := .v, a := .v, b := .v }
  | .vxor _ => some { op := 0x089, d := .v, a := .v, b := .v }
  | .vnot _ => some { op := 0x08A, d := .v, a := .v }
  | .vshl t _ => some { sub := t.sub, op := 0x08B, d := .v, a := .v, b := .v }
  | .vshr t _ => some { sub := t.sub, op := 0x08C, d := .v, a := .v, b := .v }
  | .vsra t _ => some { sub := t.sub, op := 0x08D, d := .v, a := .v, b := .v }
  | .vcmp t _ _ => some { sub := t.sub, op := 0x08E, d := .v, a := .v, b := .v }
  | .vsel _ => some { op := 0x08F, d := .v, a := .v, b := .v, c := .v }
  | .vperm w _ => some { sub := w.sub, op := 0x090, d := .v, a := .v, b := .v }
  | .vbcast w _ => some { sub := w.sub, op := 0x091, d := .v, a := .g, syn := true }
  | .vext w _ => some { sub := w.sub, op := 0x092, d := .g, a := .v, b := .g, syn := true }
  | .vred t _ _ => some { sub := t.sub, op := 0x093, d := .g, a := .v, rnd := t.isFloat, sat := t.isFloat }
  | .vrcp t _ => some { sub := t.sub, op := 0x094, d := .v, a := .v, rnd := true }
  | .vrsq t _ => some { sub := t.sub, op := 0x095, d := .v, a := .v, rnd := true }
  | .vexp2 t _ => some { sub := t.sub, op := 0x096, d := .v, a := .v, rnd := true }
  | .vlog2 t _ => some { sub := t.sub, op := 0x097, d := .v, a := .v, rnd := true }
  | .vcvt v _ => some { op := 0x098, sub := v.sub, d := .v, a := .v, b := (if v.needsTid then .tid else .no), rnd := true, sat := true }
  | .vrq _ => some { op := 0x099, d := .v, a := .v, b := .tid, c := .tid, rnd := true, sat := true }
  | .vmov _ => some { op := 0x09A, d := .v, a := .v }
  | .vcnt _ => some { op := 0x09B, d := .g, a := .v }
  | .vfirst _ => some { op := 0x09C, d := .g, a := .v }
  | .vld _ => some { op := 0x09D, d := .v, a := .g, b := .g, syn := true, space := true, hint := true, lit11 := true, imm := true, ord := .load }
  | .vst _ => some { op := 0x09E, a := .g, b := .g, c := .v, syn := true, space := true, hint := true, lit11 := true, imm := true, ord := .store }
  | .vlds w _ => some { sub := w.sub, op := 0x09F, d := .v, a := .g, b := .g, syn := true, space := true, hint := true, lit11 := true, imm := true }
  | .vsts w _ => some { sub := w.sub, op := 0x0A0, a := .g, b := .g, c := .v, syn := true, space := true, hint := true, lit11 := true, imm := true }
  | .vgat w _ => some { sub := w.sub, op := 0x0A1, d := .v, a := .g, b := .v, syn := true, space := true, hint := true, lit11 := true, imm := true }
  | .vsca w _ => some { sub := w.sub, op := 0x0A2, a := .g, b := .v, c := .v, syn := true, space := true, hint := true, lit11 := true, imm := true }
  | .vldt _ => some { op := 0x0A3, d := .v, a := .g, b := .tid, syn := true, space := true, hint := true, lit11 := true, imm := true }
  | .vstt _ => some { op := 0x0A4, a := .g, b := .tid, c := .v, syn := true, space := true, hint := true, rnd := true, sat := true, lit11 := true, imm := true }
  | .tdef _ => some { op := 0x0C0, d := .tid, a := .g, syn := true, space := true, lit11 := true, imm := true }
  | .tclaim _ => some { op := 0x0C1, d := .creel, imm := true }
  | .trel _ => some { op := 0x0C2, a := .creel, imm := true }
  | .tld _ => some { op := 0x0C3, d := .creel, a := .g, b := .tid, syn := true, space := true, lit11 := true, imm := true, ord := .load }
  | .mma _ => some { op := 0x0C4, d := .acc, a := .creel, b := .creel }
  | .mmam _ => some { op := 0x0C5, d := .acc, a := .creel, b := .tid, c := .g, syn := true, space := true }
  | .acz _ => some { op := 0x0C6, d := .acc }
  | .acld _ => some { op := 0x0C7, d := .acc, a := .g, syn := true, space := true, lit11 := true, imm := true, ord := .load }
  | .acst t _ => some { sub := t.sub, op := 0x0C8, a := .g, c := .acc, syn := true, space := true, rnd := true, sat := true, lit11 := true, imm := true, ord := .store }
  | .acrd _ => some { op := 0x0C9, d := .v, a := .acc, imm := true }
  | .xdef _ => some { op := 0x0D0, a := .g, c := .g, syn := true, space := true, lit11 := true, imm := true }
  | .xfer _ => some { op := 0x0D1, d := .chan, a := .g, b := .g, syn := true }
  | .xwait _ => some { op := 0x0D2, a := .chan }
  | .xstat _ => some { op := 0x0D3, d := .g, a := .chan }
  | .xcan _ => some { op := 0x0D4, a := .chan }
  | .xpub _ => some { op := 0x0D5, a := .g, b := .g, syn := true, space := true, lit11 := true, imm := true }
  | .wsrefX _ => some { op := 0x1C8, d := .g }
  | .post _ => some { op := 0x0E0, a := .g, b := .g, syn := true }
  | .mwait _ => some { op := 0x0E1, a := .ctr, b := .g, syn := true }
  | .mrd _ => some { op := 0x0E2, d := .g, a := .ctr }
  | .mset _ => some { op := 0x0E3, a := .ctr, b := .g, syn := true }
  | .send _ => some { op := 0x0E4, a := .g, b := .g, c := .g, syn := true, space := true }
  | .recv _ => some { op := 0x0E5, d := .g, a := .g, b := .g, syn := true, space := true }
  | .spawn _ => some { op := 0x0E6, d := .g, a := .g, b := .g, c := .gQuad, syn := true }
  | .spawnGrp _ => some { op := 0x0E6, sub := 1, d := .g, a := .g, b := .g, c := .gQuad, syn := true }
  | .subscribe _ => some { op := 0x0E7, d := .g, a := .g, b := .g, c := .g, syn := true, space := true }
  | .unsub _ => some { op := 0x0E8, a := .g, syn := true }
  | .subflush _ => some { op := 0x0E9 }
  | .tbind _ => some { op := 0x0F0, a := .g, syn := true, space := true }
  | .tnext _ => some { op := 0x0F1, d := .g }
  | .tsend _ => some { op := 0x0F2, a := .g, b := .g, c := .g, syn := true }
  | .tdone _ => some { op := 0x0F3 }
  | .tirr _ => some { op := 0x0F4, a := .g, syn := true, space := true }
  | .tgvt _ => some { op := 0x0F5 }
  | .fork _ => some { op := 0x100, a := .g, b := .g, c := .g, syn := true }
  | .joinX _ => some { op := 0x101, a := .g, syn := true }
  | .ndoneX _ => some { op := 0x104, a := .g, syn := true }
  | .qsub _ => some { op := 0x105, a := .g, b := .g, syn := true }
  | .ptokTake _ => some { op := 0x106, d := .g, a := .g, syn := true }
  | .ptokGive _ => some { op := 0x106, sub := 1, d := .g, a := .g, syn := true }
  | .xlinvAll _ => some { op := 0x1C7 }
  | .xlinvPage _ => some { op := 0x1C7, sub := 1, a := .g, b := .g, syn := true }
  | .xlinvProc _ => some { op := 0x1C7, sub := 2, b := .g, syn := true }
  | .ctrrdX _ => some { op := 0x1C9, d := .g, a := .g, syn := true }
  | .ctrcfgX _ => some { op := 0x1CA, a := .g, b := .g, syn := true }
  | _ => none

/-- The `Ext` of an instruction in literal or extended form. -/
def Instr.ext : Instr → Option Ext
  | .addX e => some e
  | .subX e => some e
  | .mulX e => some e
  | .mulhX e => some e
  | .mulhuX e => some e
  | .divX e => some e
  | .divuX e => some e
  | .remX e => some e
  | .remuX e => some e
  | .andX e => some e
  | .orX e => some e
  | .xorX e => some e
  | .andnX e => some e
  | .ornX e => some e
  | .shlX e => some e
  | .shrX e => some e
  | .sraX e => some e
  | .rotlX e => some e
  | .minX e => some e
  | .maxX e => some e
  | .minuX e => some e
  | .maxuX e => some e
  | .addwX e => some e
  | .subwX e => some e
  | .mulwX e => some e
  | .shlwX e => some e
  | .shrwX e => some e
  | .srawX e => some e
  | .bextX e => some e
  | .binsX e => some e
  | .bsetX e => some e
  | .bclrX e => some e
  | .seqX e => some e
  | .sneX e => some e
  | .sltX e => some e
  | .sltuX e => some e
  | .sleX e => some e
  | .sleuX e => some e
  | .notX e => some e
  | .negX e => some e
  | .clzX e => some e
  | .ctzX e => some e
  | .popcX e => some e
  | .sextbX e => some e
  | .sexthX e => some e
  | .sextwX e => some e
  | .zextbX e => some e
  | .zexthX e => some e
  | .zextwX e => some e
  | .bswapX e => some e
  | .addiX e => some e
  | .andiX e => some e
  | .oriX e => some e
  | .xoriX e => some e
  | .shliX e => some e
  | .shriX e => some e
  | .sraiX e => some e
  | .rotliX e => some e
  | .muliX e => some e
  | .liX e => some e
  | .lpcX e => some e
  | .skpX e _ _ _ _ => some e
  | .jmpX e => some e
  | .callrX e => some e
  | .dbnzX e => some e
  | .mfsX e => some e
  | .fsetX e => some e
  | .fclrX e => some e
  | .ldbX e => some e
  | .ldbuX e => some e
  | .ldhX e => some e
  | .ldhuX e => some e
  | .ldwX e => some e
  | .ldwuX e => some e
  | .lddX e => some e
  | .stbX e => some e
  | .sthX e => some e
  | .stwX e => some e
  | .stdX e => some e
  | .ldpX e => some e
  | .stpX e => some e
  | .ldfX e => some e
  | .ldfwX e => some e
  | .aadd e => some e
  | .aand e => some e
  | .aor e => some e
  | .axor e => some e
  | .amin e => some e
  | .amax e => some e
  | .aminu e => some e
  | .amaxu e => some e
  | .aswp e => some e
  | .acas e => some e
  | .aaddw e => some e
  | .aandw e => some e
  | .aorw e => some e
  | .axorw e => some e
  | .aminw e => some e
  | .amaxw e => some e
  | .aminuw e => some e
  | .amaxuw e => some e
  | .aswpw e => some e
  | .acasw e => some e
  | .fence e => some e
  | .wtneX e => some e
  | .pinX e => some e
  | .unpinX e => some e
  | .flushX e => some e
  | .prefX e => some e
  | .allocX e => some e
  | .freeX e => some e
  | .goX e => some e
  | .vadd _ e => some e
  | .vsub _ e => some e
  | .vmul _ e => some e
  | .vfma _ e => some e
  | .vmin _ e => some e
  | .vmax _ e => some e
  | .vabs _ e => some e
  | .vand e => some e
  | .vor e => some e
  | .vxor e => some e
  | .vnot e => some e
  | .vshl _ e => some e
  | .vshr _ e => some e
  | .vsra _ e => some e
  | .vcmp _ _ e => some e
  | .vsel e => some e
  | .vperm _ e => some e
  | .vbcast _ e => some e
  | .vext _ e => some e
  | .vred _ _ e => some e
  | .vrcp _ e => some e
  | .vrsq _ e => some e
  | .vexp2 _ e => some e
  | .vlog2 _ e => some e
  | .vcvt _ e => some e
  | .vrq e => some e
  | .vmov e => some e
  | .vcnt e => some e
  | .vfirst e => some e
  | .vld e => some e
  | .vst e => some e
  | .vlds _ e => some e
  | .vsts _ e => some e
  | .vgat _ e => some e
  | .vsca _ e => some e
  | .vldt e => some e
  | .vstt e => some e
  | .tdef e => some e
  | .tclaim e => some e
  | .trel e => some e
  | .tld e => some e
  | .mma e => some e
  | .mmam e => some e
  | .acz e => some e
  | .acld e => some e
  | .acst _ e => some e
  | .acrd e => some e
  | .xdef e => some e
  | .xfer e => some e
  | .xwait e => some e
  | .xstat e => some e
  | .xcan e => some e
  | .xpub e => some e
  | .wsrefX e => some e
  | .post e => some e
  | .mwait e => some e
  | .mrd e => some e
  | .mset e => some e
  | .send e => some e
  | .recv e => some e
  | .spawn e => some e
  | .spawnGrp e => some e
  | .subscribe e => some e
  | .unsub e => some e
  | .subflush e => some e
  | .tbind e => some e
  | .tnext e => some e
  | .tsend e => some e
  | .tdone e => some e
  | .tirr e => some e
  | .tgvt e => some e
  | .fork e => some e
  | .joinX e => some e
  | .ndoneX e => some e
  | .qsub e => some e
  | .ptokTake e => some e
  | .ptokGive e => some e
  | .xlinvAll e => some e
  | .xlinvPage e => some e
  | .xlinvProc e => some e
  | .ctrrdX e => some e
  | .ctrcfgX e => some e
  | _ => none

/-- The SUB values that a row with lane-type variants lists (Table 16). -/
def Instr.laneOk : Instr → Bool
  | .vadd t _ => t = .f32 || t = .bf16 || t = .f16 || t = .i32 || t = .i8
  | .vsub t _ => t = .f32 || t = .bf16 || t = .f16 || t = .i32 || t = .i8
  | .vmul t _ => t = .f32 || t = .bf16 || t = .f16 || t = .i32
  | .vfma t _ => t = .f32 || t = .bf16 || t = .f16
  | .vmin t _ => t = .f32 || t = .bf16 || t = .f16 || t = .i32 || t = .i8 || t = .ui8
  | .vmax t _ => t = .f32 || t = .bf16 || t = .f16 || t = .i32 || t = .i8 || t = .ui8
  | .vabs t _ => t = .f32 || t = .bf16 || t = .f16 || t = .i32 || t = .i8
  | .vshl t _ => t = .i32 || t = .i8
  | .vshr t _ => t = .i32 || t = .i8
  | .vsra t _ => t = .i32 || t = .i8
  | .vcmp t _ _ => t = .f32 || t = .bf16 || t = .f16 || t = .i32 || t = .i8 || t = .ui8
  | .vred t _ _ => t = .f32 || t = .bf16 || t = .f16 || t = .i32 || t = .i8
  | .vrcp t _ => t = .f32 || t = .bf16 || t = .f16
  | .vrsq t _ => t = .f32 || t = .bf16 || t = .f16
  | .vexp2 t _ => t = .f32 || t = .bf16 || t = .f16
  | .vlog2 t _ => t = .f32 || t = .bf16 || t = .f16
  | .acst t _ => t = .f32 || t = .bf16 || t = .f16
  | _ => true

/-- Is `r` outside class `k` (R47)? A field that the row does not list must be zero. -/
def FieldClass.check (k : FieldClass) (r : BitVec 8) : Option DecodeError :=
  match k with
  | .no => if r = 0 then none else some .nonzeroField
  | .g => none
  | .gEven => if r.toNat % 2 = 0 then none else some .badAlign
  | .gQuad => if r.toNat % 4 = 0 then none else some .badAlign
  | .v => if r.toNat < 64 then none else some .badRegister
  | .acc => if r.toNat < 4 then none else some .badRegister
  | .creel => if r.toNat < 16 then none else some .badRegister
  | .tid => if r.toNat < 64 then none else some .badRegister
  | .ctr => if r.toNat < 64 then none else some .badRegister
  | .chan => if r.toNat < 8 then none else some .badRegister

/-- A synchronised read is allowed only in a field that names a general register which the
instruction reads, and never on g0 (R44). -/
def FieldClass.syncCheck (k : FieldClass) (allowed syn : Bool) (r : BitVec 8) : Option DecodeError :=
  if syn && !(allowed && (k = .g || k = .gEven) && r ≠ 0) then some .badSync else none

/-- The ORD values of R58's letters, and the rule that a plain ORD has no scope (R44). -/
def OrdRule.check (k : OrdRule) (ord : BitVec 2) (scope : BitVec 3) : Option DecodeError :=
  let allowed : Bool := match k with
    | .plain => ord = 0
    | .load => ord = 0 || ord = 1
    | .store => ord = 0 || ord = 2
    | .any => true
    | .fence => ord ≠ 0
  if !allowed then some .badModifier
  else if scope.toNat > 5 then some .badModifier
  else if ord = 0 && scope ≠ 0 then some .badModifier
  else none

/-- The RND field: a rounding mode, FORD in `acas`, which ORD 0b00 leaves zero (R117), otherwise zero (Table 4). -/
def Row.rndCheck (r : Row) (ord : BitVec 2) (rnd : BitVec 3) : Option DecodeError :=
  if r.rnd then (if rnd.toNat ≤ 4 then none else some .badModifier)
  else if r.ford then (if rnd = 0 || (rnd = 1 && ord ≠ 0) then none else some .badModifier)
  else if rnd = 0 then none else some .nonzeroField

/-- The length and immediate rules of R41 and R45. In LEN 0b01 the fields of the base word alone are
there, so registers are below 128 and no MOD field but SP is set. -/
def Ext.immCheck (r : Row) (e : Ext) : Option DecodeError :=
  match e.imm with
  | .imm10 v => if r.imm || v = 0 then none else some .nonzeroField
  | .lit11 _ => if r.lit11 then none else some .badLen
  | .lit01 _ =>
    if !r.lit01 then some .badLen
    else if e.d.toNat < 128 ∧ e.a.toNat < 128 ∧ e.c.toNat < 128 ∧ e.b = 0 ∧ !e.synA ∧ !e.synB ∧ !e.synC ∧
        e.scope = 0 ∧ e.ord = 0 ∧ e.rnd = 0 ∧ !e.sat ∧ e.hint = 0 then none
    else some .nonzeroField

/-- The first of a list of checks that fails. -/
def firstError : List (Option DecodeError) → Option DecodeError
  | [] => none
  | some x :: _ => some x
  | none :: r => firstError r

/-- Every check of R65 on the fields of a literal or extended form against its row. -/
def Ext.check (r : Row) (e : Ext) : Option DecodeError :=
  firstError [e.immCheck r, r.d.check e.d, r.a.check e.a, r.b.check e.b, r.c.check e.c,
    r.a.syncCheck r.syn e.synA e.a, r.b.syncCheck r.syn e.synB e.b, r.c.syncCheck r.syn e.synC e.c,
    r.ord.check e.ord e.scope, r.rndCheck e.ord e.rnd,
    if e.sat && !r.sat then some .nonzeroField else none,
    if e.sp ≠ 0 && !r.space then some .nonzeroField else none,
    if e.hint ≠ 0 && !r.hint then some .nonzeroField else none,
    if e.hint = 3 then some .badModifier else none]

/-- The value of an immediate form: the literal, or IMM sign-extended (R45). -/
def ImmForm.value : ImmForm → Word
  | .lit01 v => v
  | .imm10 v => v.signExtend 64
  | .lit11 v => v

/-- The numbers of Table 22 (R63). -/
def isSpecial (n : Nat) : Bool :=
  n ≤ 0x009 || (0x010 ≤ n && n ≤ 0x014) || n = 0x020 || (0x030 ≤ n && n ≤ 0x032)

/-- The read/write special registers of Table 22. -/
def isWritableSpecial (n : Nat) : Bool :=
  n = 0x000 || n = 0x007 || (0x010 ≤ n && n ≤ 0x014) || n = 0x020 || n = 0x030

/-- A refusal unless `p`. -/
def need (p : Bool) (x : DecodeError) : Option DecodeError := if p then none else some x

/-- The CS field rules of R49: K is 1 to 3, an immediate bit number lies in 0 to 63, and `full` and
`empty` take no B. `imm` is the immediate when IB is 1. -/
def skipCheck (cc : BitVec 4) (k : BitVec 2) (ib : Bool) (b : Nat) (imm : Int) (synA : Bool) : Option DecodeError :=
  firstError [need (k ≠ 0) .badSkip,
    if cc = 10 ∨ cc = 11 then need (!ib || (0 ≤ imm && imm < 64)) .badSkip else none,
    if cc = 14 ∨ cc = 15 then need (!ib && b = 0 && !synA) .badSkip else none]

/-- The checks beyond the row's classes: immediates, pairs, conditions, special registers. -/
def Instr.special : Instr → Option DecodeError
  | .shli _ _ i | .shri _ _ i | .srai _ _ i | .rotli _ _ i => need (i.toNat < 64) .badImmediate
  | .shliX e | .shriX e | .sraiX e | .rotliX e => need (e.imm.value.toNat < 64) .badImmediate
  | .skp _ b cc k ib => skipCheck cc k ib b.toNat b.toInt false
  | .skpX e cc k ib i =>
    firstError [need (e.imm = .imm10 0) .nonzeroField, need (ib || i = 0) .nonzeroField,
      skipCheck cc k ib e.b.toNat i.toInt e.synA]
  | .mfs _ i => need (isSpecial i.toNat) .badSpecial
  | .mfsX e => need (match e.imm with | .imm10 v => isSpecial v.toNat | _ => false) .badSpecial
  | .mts _ i => need (isWritableSpecial i.toNat) .badSpecial
  | .mtsX (.lit n _) => need (isWritableSpecial n.toNat) .badSpecial
  | .mtsX (.ext _ n) => need (isWritableSpecial n.toNat) .badSpecial
  | .ldp d _ _ _ => need (d.toNat % 2 = 0) .badAlign
  | .stp d _ _ _ => need (d.toNat % 2 = 0) .badAlign
  | .ldf d _ _ _ | .ldfw d _ _ _ => need (d ≠ 0) .badRegister
  | .ldfX e | .ldfwX e => need (e.d ≠ 0) .badRegister
  | .bara i | .barw i => need (i.toNat < 8) .badImmediate
  | .barset _ i => need (i.toNat < 8) .badImmediate
  | .rfpart i => need (i.toNat ≤ 2) .badImmediate
  | .wmask i => need (i = 2 || i = 4 || i = 6 || i = 8) .badImmediate
  | .vcmp _ cc e =>
    firstError [need (cc = 0 || cc = 1 || cc = 2 || cc = 3 || cc = 6 || cc = 7) .badImmediate,
      need (e.imm = .imm10 0) .nonzeroField]
  | .vred _ op e => firstError [need (op ≠ 3) .badImmediate, need (e.imm = .imm10 0) .nonzeroField]
  | .tclaim e => let n := e.imm.value.toNat; need (1 ≤ n && n ≤ 16 && e.d.toNat + n ≤ 16) .badImmediate
  | .trel e => let n := e.imm.value.toNat; need (1 ≤ n && n ≤ 16 && e.a.toNat + n ≤ 16) .badImmediate
  | .acrd e => need (e.imm.value.toNat < 128) .badImmediate
  | _ => none

/-- The first case of R65 that an instruction falls under, as far as the machine's state is not
needed; events have no encoding and are never refused. -/
def Instr.check (i : Instr) : Option DecodeError :=
  firstError [match i.row, i.ext with
    | some r, some e => e.check r
    | _, _ => none,
    need i.laneOk .badSub, i.special]

/-- A well-formed instruction: none of the checks of R65 fails. -/
def Instr.wf (i : Instr) : Bool := i.check = none

end Sys2Proof
end

