-- ==== Sys2Proof/Decode.lean ====
section
/-! DEFINITION. The decoder, total on any words, rejecting by the cases of R65, and the encoder, both
written from Tables 1 to 21 of 02_encoding. -/

namespace Sys2Proof

/-! ### Fields of word 0 (Table 2) -/

/-- LEN, bits [1:0]. -/
def fLen (w : IWord) : BitVec 2 := w.extractLsb' 0 2
/-- OP, bits [10:2]. -/
def fOp (w : IWord) : BitVec 9 := w.extractLsb' 2 9
/-- D of RRR, RRI, RI; D/S of M; A of CS: bits [17:11]. -/
def fD (w : IWord) : BitVec 7 := w.extractLsb' 11 7
/-- A of RRR, RRI and M; B of CS: bits [24:18]. -/
def fA (w : IWord) : BitVec 7 := w.extractLsb' 18 7
/-- B of RRR, I7 of RRI: bits [31:25]. -/
def fB (w : IWord) : BitVec 7 := w.extractLsb' 25 7
/-- I14 of RI: bits [31:18]. -/
def fI14 (w : IWord) : BitVec 14 := w.extractLsb' 18 14
/-- I21 of J: bits [31:11]. -/
def fI21 (w : IWord) : BitVec 21 := w.extractLsb' 11 21
/-- CC of CS: bits [28:25]. -/
def fCC (w : IWord) : BitVec 4 := w.extractLsb' 25 4
/-- K of CS: bits [30:29]. -/
def fK (w : IWord) : BitVec 2 := w.extractLsb' 29 2
/-- IB of CS: bit [31]. -/
def fIB (w : IWord) : Bool := w.getLsbD 31
/-- SP of M: bits [26:25]. -/
def fSP (w : IWord) : BitVec 2 := w.extractLsb' 25 2
/-- I5 of M: bits [31:27]. -/
def fI5 (w : IWord) : BitVec 5 := w.extractLsb' 27 5
/-- SUB of an extended word 0: bits [15:11]. -/
def fSub (w : IWord) : BitVec 5 := w.extractLsb' 11 5

/-- The assigned major opcodes (R58, R65). -/
def assignedOp (op : Nat) : Bool :=
  (0x001 ≤ op && op ≤ 0x048) || (0x050 ≤ op && op ≤ 0x06B) || (0x080 ≤ op && op ≤ 0x0A4) ||
  (0x0C0 ≤ op && op ≤ 0x0C9) || (0x0D0 ≤ op && op ≤ 0x0D5) || (0x0E0 ≤ op && op ≤ 0x0E9) ||
  (0x0F0 ≤ op && op ≤ 0x0F5) || (0x100 ≤ op && op ≤ 0x106) || (0x1C0 ≤ op && op ≤ 0x1CA)

/-- What an OP without a row for the given LEN is: a LEN not permitted, or no instruction at all. -/
def noRow (op : Nat) : DecodeError := if assignedOp op then .badLen else .reservedOp

/-- An instruction, provided a field that its row does not list is zero. -/
def zeroed (zero : Bool) (i : Instr) : Except DecodeError Instr := if zero then .ok i else .error .nonzeroField


/-- LEN 0b00: word 0 in the base format that its OP fixes (R40, Tables 14 to 17). -/
def decodeBase (w : IWord) : Except DecodeError Instr :=
  match (fOp w).toNat with
  | 0x001 => .ok (.add (fD w) (fA w) (fB w))
  | 0x002 => .ok (.sub (fD w) (fA w) (fB w))
  | 0x003 => .ok (.mul (fD w) (fA w) (fB w))
  | 0x004 => .ok (.mulh (fD w) (fA w) (fB w))
  | 0x005 => .ok (.mulhu (fD w) (fA w) (fB w))
  | 0x006 => .ok (.div (fD w) (fA w) (fB w))
  | 0x007 => .ok (.divu (fD w) (fA w) (fB w))
  | 0x008 => .ok (.rem (fD w) (fA w) (fB w))
  | 0x009 => .ok (.remu (fD w) (fA w) (fB w))
  | 0x00A => .ok (.and (fD w) (fA w) (fB w))
  | 0x00B => .ok (.or (fD w) (fA w) (fB w))
  | 0x00C => .ok (.xor (fD w) (fA w) (fB w))
  | 0x00D => .ok (.andn (fD w) (fA w) (fB w))
  | 0x00E => .ok (.orn (fD w) (fA w) (fB w))
  | 0x00F => .ok (.shl (fD w) (fA w) (fB w))
  | 0x010 => .ok (.shr (fD w) (fA w) (fB w))
  | 0x011 => .ok (.sra (fD w) (fA w) (fB w))
  | 0x012 => .ok (.rotl (fD w) (fA w) (fB w))
  | 0x013 => .ok (.min (fD w) (fA w) (fB w))
  | 0x014 => .ok (.max (fD w) (fA w) (fB w))
  | 0x015 => .ok (.minu (fD w) (fA w) (fB w))
  | 0x016 => .ok (.maxu (fD w) (fA w) (fB w))
  | 0x017 => .ok (.addw (fD w) (fA w) (fB w))
  | 0x018 => .ok (.subw (fD w) (fA w) (fB w))
  | 0x019 => .ok (.mulw (fD w) (fA w) (fB w))
  | 0x01A => .ok (.shlw (fD w) (fA w) (fB w))
  | 0x01B => .ok (.shrw (fD w) (fA w) (fB w))
  | 0x01C => .ok (.sraw (fD w) (fA w) (fB w))
  | 0x01D => .ok (.bext (fD w) (fA w) (fB w))
  | 0x01E => .ok (.bins (fD w) (fA w) (fB w))
  | 0x01F => .ok (.bset (fD w) (fA w) (fB w))
  | 0x020 => .ok (.bclr (fD w) (fA w) (fB w))
  | 0x021 => .ok (.seq (fD w) (fA w) (fB w))
  | 0x022 => .ok (.sne (fD w) (fA w) (fB w))
  | 0x023 => .ok (.slt (fD w) (fA w) (fB w))
  | 0x024 => .ok (.sltu (fD w) (fA w) (fB w))
  | 0x025 => .ok (.sle (fD w) (fA w) (fB w))
  | 0x026 => .ok (.sleu (fD w) (fA w) (fB w))
  | 0x027 => zeroed (fB w = 0) (.not (fD w) (fA w))
  | 0x028 => zeroed (fB w = 0) (.neg (fD w) (fA w))
  | 0x029 => zeroed (fB w = 0) (.clz (fD w) (fA w))
  | 0x02A => zeroed (fB w = 0) (.ctz (fD w) (fA w))
  | 0x02B => zeroed (fB w = 0) (.popc (fD w) (fA w))
  | 0x02C => zeroed (fB w = 0) (.sextb (fD w) (fA w))
  | 0x02D => zeroed (fB w = 0) (.sexth (fD w) (fA w))
  | 0x02E => zeroed (fB w = 0) (.sextw (fD w) (fA w))
  | 0x02F => zeroed (fB w = 0) (.zextb (fD w) (fA w))
  | 0x030 => zeroed (fB w = 0) (.zexth (fD w) (fA w))
  | 0x031 => zeroed (fB w = 0) (.zextw (fD w) (fA w))
  | 0x032 => zeroed (fB w = 0) (.bswap (fD w) (fA w))
  | 0x033 => .ok (.addi (fD w) (fA w) (fB w))
  | 0x034 => .ok (.andi (fD w) (fA w) (fB w))
  | 0x035 => .ok (.ori (fD w) (fA w) (fB w))
  | 0x036 => .ok (.xori (fD w) (fA w) (fB w))
  | 0x037 => .ok (.shli (fD w) (fA w) (fB w))
  | 0x038 => .ok (.shri (fD w) (fA w) (fB w))
  | 0x039 => .ok (.srai (fD w) (fA w) (fB w))
  | 0x03A => .ok (.rotli (fD w) (fA w) (fB w))
  | 0x03B => .ok (.muli (fD w) (fA w) (fB w))
  | 0x03C => .ok (.li (fD w) (fI14 w))
  | 0x03D => .ok (.lpc (fD w) (fI14 w))
  | 0x03E => .ok (.skp (fD w) (fA w) (fCC w) (fK w) (fIB w))
  | 0x03F => .ok (.br (fI21 w))
  | 0x040 => .ok (.call (fI21 w))
  | 0x041 => zeroed (fD w = 0) (.jmp (fA w) (fB w))
  | 0x042 => .ok (.callr (fD w) (fA w) (fB w))
  | 0x043 => zeroed (fI21 w = 0) (.ret)
  | 0x044 => .ok (.dbnz (fD w) (fI14 w))
  | 0x045 => .ok (.mfs (fD w) (fI14 w))
  | 0x046 => .ok (.mts (fD w) (fI14 w))
  | 0x047 => zeroed (fB w = 0 ∧ fA w = 0) (.fset (fD w))
  | 0x048 => zeroed (fB w = 0 ∧ fA w = 0) (.fclr (fD w))
  | 0x050 => .ok (.ldb (fD w) (fA w) (fSP w) (fI5 w))
  | 0x051 => .ok (.ldbu (fD w) (fA w) (fSP w) (fI5 w))
  | 0x052 => .ok (.ldh (fD w) (fA w) (fSP w) (fI5 w))
  | 0x053 => .ok (.ldhu (fD w) (fA w) (fSP w) (fI5 w))
  | 0x054 => .ok (.ldw (fD w) (fA w) (fSP w) (fI5 w))
  | 0x055 => .ok (.ldwu (fD w) (fA w) (fSP w) (fI5 w))
  | 0x056 => .ok (.ldd (fD w) (fA w) (fSP w) (fI5 w))
  | 0x057 => .ok (.stb (fD w) (fA w) (fSP w) (fI5 w))
  | 0x058 => .ok (.sth (fD w) (fA w) (fSP w) (fI5 w))
  | 0x059 => .ok (.stw (fD w) (fA w) (fSP w) (fI5 w))
  | 0x05A => .ok (.std (fD w) (fA w) (fSP w) (fI5 w))
  | 0x05B => .ok (.ldp (fD w) (fA w) (fSP w) (fI5 w))
  | 0x05C => .ok (.stp (fD w) (fA w) (fSP w) (fI5 w))
  | 0x05D => .ok (.ldf (fD w) (fA w) (fSP w) (fI5 w))
  | 0x05E => .ok (.ldfw (fD w) (fA w) (fSP w) (fI5 w))
  | 0x061 => .ok (.wtne (fD w) (fA w) (fSP w) (fI5 w))
  | 0x062 => zeroed (fD w = 0) (.pin (fA w) (fSP w) (fI5 w))
  | 0x063 => zeroed (fD w = 0) (.unpin (fA w) (fSP w) (fI5 w))
  | 0x064 => zeroed (fD w = 0) (.flush (fA w) (fSP w) (fI5 w))
  | 0x065 => zeroed (fD w = 0) (.pref (fA w) (fSP w) (fI5 w))
  | 0x066 => zeroed (fB w = 0) (.alloc (fD w) (fA w))
  | 0x067 => zeroed (fB w = 0 ∧ fD w = 0) (.free (fA w))
  | 0x068 => zeroed (fD w = 0) (.go (fA w) (fSP w) (fI5 w))
  | 0x069 => zeroed (fD w = 0) (.bara (fI14 w))
  | 0x06A => zeroed (fD w = 0) (.barw (fI14 w))
  | 0x06B => zeroed (fD w = 0) (.barset (fA w) (fB w))
  | 0x1C8 => zeroed (fB w = 0 ∧ fA w = 0) (.wsref (fD w))
  | 0x101 => zeroed (fB w = 0 ∧ fD w = 0) (.join (fA w))
  | 0x102 => zeroed (fI21 w = 0) (.exit)
  | 0x103 => zeroed (fI21 w = 0) (.yield)
  | 0x104 => zeroed (fB w = 0 ∧ fD w = 0) (.ndone (fA w))
  | 0x1C0 => zeroed (fD w = 0) (.trap (fI14 w))
  | 0x1C1 => zeroed (fD w = 0) (.sys (fI14 w))
  | 0x1C2 => zeroed (fI21 w = 0) (.eret)
  | 0x1C3 => zeroed (fI21 w = 0) (.halt)
  | 0x1C4 => zeroed (fI21 w = 0) (.brk)
  | 0x1C5 => zeroed (fD w = 0) (.rfpart (fI14 w))
  | 0x1C6 => zeroed (fD w = 0) (.wmask (fI14 w))
  | 0x1C9 => zeroed (fB w = 0) (.ctrrd (fD w) (fA w))
  | 0x1CA => zeroed (fD w = 0) (.ctrcfg (fA w) (fB w))
  | op => .error (noRow op)

/-- LEN 0b01: word 0 in base format and the literal `v`; the immediate field of word 0 is zero, but
for `mts`, whose I14 keeps the special-register number (R41, R101). -/
noncomputable def decodeLit (w : IWord) (v : BitVec 64) : Except DecodeError Instr :=
  let d := (fD w).zeroExtend 8
  let a := (fA w).zeroExtend 8
  match (fOp w).toNat with
  | 0x033 => zeroed (fB w = 0) (.addiX { d := d, a := a, imm := .lit01 v })
  | 0x034 => zeroed (fB w = 0) (.andiX { d := d, a := a, imm := .lit01 v })
  | 0x035 => zeroed (fB w = 0) (.oriX { d := d, a := a, imm := .lit01 v })
  | 0x036 => zeroed (fB w = 0) (.xoriX { d := d, a := a, imm := .lit01 v })
  | 0x037 => zeroed (fB w = 0) (.shliX { d := d, a := a, imm := .lit01 v })
  | 0x038 => zeroed (fB w = 0) (.shriX { d := d, a := a, imm := .lit01 v })
  | 0x039 => zeroed (fB w = 0) (.sraiX { d := d, a := a, imm := .lit01 v })
  | 0x03A => zeroed (fB w = 0) (.rotliX { d := d, a := a, imm := .lit01 v })
  | 0x03B => zeroed (fB w = 0) (.muliX { d := d, a := a, imm := .lit01 v })
  | 0x03C => zeroed (fI14 w = 0) (.liX { d := d, imm := .lit01 v })
  | 0x03D => zeroed (fI14 w = 0) (.lpcX { d := d, imm := .lit01 v })
  | 0x046 => zeroed (fD w = 0) (.mtsX (.lit (fI14 w) v))
  | 0x050 => zeroed (fI5 w = 0) (.ldbX { d := d, a := a, sp := fSP w, imm := .lit01 v })
  | 0x051 => zeroed (fI5 w = 0) (.ldbuX { d := d, a := a, sp := fSP w, imm := .lit01 v })
  | 0x052 => zeroed (fI5 w = 0) (.ldhX { d := d, a := a, sp := fSP w, imm := .lit01 v })
  | 0x053 => zeroed (fI5 w = 0) (.ldhuX { d := d, a := a, sp := fSP w, imm := .lit01 v })
  | 0x054 => zeroed (fI5 w = 0) (.ldwX { d := d, a := a, sp := fSP w, imm := .lit01 v })
  | 0x055 => zeroed (fI5 w = 0) (.ldwuX { d := d, a := a, sp := fSP w, imm := .lit01 v })
  | 0x056 => zeroed (fI5 w = 0) (.lddX { d := d, a := a, sp := fSP w, imm := .lit01 v })
  | 0x057 => zeroed (fI5 w = 0) (.stbX { c := d, a := a, sp := fSP w, imm := .lit01 v })
  | 0x058 => zeroed (fI5 w = 0) (.sthX { c := d, a := a, sp := fSP w, imm := .lit01 v })
  | 0x059 => zeroed (fI5 w = 0) (.stwX { c := d, a := a, sp := fSP w, imm := .lit01 v })
  | 0x05A => zeroed (fI5 w = 0) (.stdX { c := d, a := a, sp := fSP w, imm := .lit01 v })
  | 0x05B => zeroed (fI5 w = 0) (.ldpX { d := d, a := a, sp := fSP w, imm := .lit01 v })
  | 0x05C => zeroed (fI5 w = 0) (.stpX { c := d, a := a, sp := fSP w, imm := .lit01 v })
  | 0x05D => zeroed (fI5 w = 0) (.ldfX { d := d, a := a, sp := fSP w, imm := .lit01 v })
  | 0x05E => zeroed (fI5 w = 0) (.ldfwX { d := d, a := a, sp := fSP w, imm := .lit01 v })
  | 0x061 => zeroed (fI5 w = 0) (.wtneX { c := d, a := a, sp := fSP w, imm := .lit01 v })
  | 0x062 => zeroed (fI5 w = 0 ∧ fD w = 0) (.pinX { a := a, sp := fSP w, imm := .lit01 v })
  | 0x063 => zeroed (fI5 w = 0 ∧ fD w = 0) (.unpinX { a := a, sp := fSP w, imm := .lit01 v })
  | 0x064 => zeroed (fI5 w = 0 ∧ fD w = 0) (.flushX { a := a, sp := fSP w, imm := .lit01 v })
  | 0x065 => zeroed (fI5 w = 0 ∧ fD w = 0) (.prefX { a := a, sp := fSP w, imm := .lit01 v })
  | 0x068 => zeroed (fI5 w = 0 ∧ fD w = 0) (.goX { a := a, sp := fSP w, imm := .lit01 v })
  | op => .error (noRow op)

/-- The fields of an extended instruction (Tables 3 and 4). -/
def decodeFields (w0 w1 : IWord) (imm : ImmForm) : Ext :=
  { d := w1.extractLsb' 0 8, a := w1.extractLsb' 8 8, b := w1.extractLsb' 16 8, c := w1.extractLsb' 24 8
    synA := w0.getLsbD 31, synB := w0.getLsbD 30, synC := w0.getLsbD 29
    scope := w0.extractLsb' 26 3, ord := w0.extractLsb' 24 2, rnd := w0.extractLsb' 21 3
    sat := w0.getLsbD 20, sp := w0.extractLsb' 18 2, hint := w0.extractLsb' 16 2, imm := imm }

/-- The lane type of a SUB (Table 18). -/
def laneOf (sub : BitVec 5) : Except DecodeError LaneTy :=
  match sub.toNat with
  | 0 => .ok .f32 | 1 => .ok .bf16 | 2 => .ok .f16 | 4 => .ok .i32 | 5 => .ok .i8 | 6 => .ok .ui8
  | _ => .error .badSub

/-- The element width of a SUB (Table 18). -/
def widthOf (sub : BitVec 5) : Except DecodeError Width :=
  match sub.toNat with
  | 0 => .ok .w32 | 1 => .ok .w16 | 2 => .ok .w8
  | _ => .error .badSub

/-- The conversion of a SUB (Table 20). -/
def cvtOf (sub : BitVec 5) : Except DecodeError Cvt :=
  match sub.toNat with
  | 0 => .ok .bf16F32 | 1 => .ok .f16F32 | 2 => .ok .f32Bf16 | 3 => .ok .f32F16 | 4 => .ok .b8F32
  | 5 => .ok .f32B8 | 6 => .ok .i32F32 | 7 => .ok .f32I32 | 8 => .ok .i8F32 | 9 => .ok .f32I8
  | 10 => .ok .b8K4 | 11 => .ok .bf16F16 | 12 => .ok .f16Bf16 | 13 => .ok .i8I32 | 14 => .ok .i32I8
  | 15 => .ok .i32Ui8
  | _ => .error .badSub

/-- An instruction whose SUB is the lane type. -/
def withLane (sub : BitVec 5) (f : LaneTy → Instr) : Except DecodeError Instr :=
  match laneOf sub with
  | .ok t => .ok (f t)
  | .error x => .error x

/-- An instruction whose SUB is the element width. -/
def withWidth (sub : BitVec 5) (f : Width → Instr) : Except DecodeError Instr :=
  match widthOf sub with
  | .ok t => .ok (f t)
  | .error x => .error x

/-- An instruction whose SUB is the conversion. -/
def withCvt (sub : BitVec 5) (f : Cvt → Instr) : Except DecodeError Instr :=
  match cvtOf sub with
  | .ok t => .ok (f t)
  | .error x => .error x

/-- An instruction whose OP assigns SUB 0 alone (R43). -/
def subZero (sub : BitVec 5) (i : Instr) : Except DecodeError Instr := if sub = 0 then .ok i else .error .badSub

/-- An instruction that packs small fields into IMM: LEN 0b10 only. -/
def withImm (e : Ext) (f : BitVec 32 → Ext → Except DecodeError Instr) : Except DecodeError Instr :=
  match e.imm with
  | .imm10 v => f v { e with imm := .imm10 0 }
  | _ => .error .badLen

/-- LEN 0b10 and 0b11: the extended instruction of an OP and a SUB (Tables 14 to 21). -/
noncomputable def decodeExt (op : Nat) (sub : BitVec 5) (e : Ext) : Except DecodeError Instr :=
  match op with
  | 0x001 => subZero sub (.addX e)
  | 0x002 => subZero sub (.subX e)
  | 0x003 => subZero sub (.mulX e)
  | 0x004 => subZero sub (.mulhX e)
  | 0x005 => subZero sub (.mulhuX e)
  | 0x006 => subZero sub (.divX e)
  | 0x007 => subZero sub (.divuX e)
  | 0x008 => subZero sub (.remX e)
  | 0x009 => subZero sub (.remuX e)
  | 0x00A => subZero sub (.andX e)
  | 0x00B => subZero sub (.orX e)
  | 0x00C => subZero sub (.xorX e)
  | 0x00D => subZero sub (.andnX e)
  | 0x00E => subZero sub (.ornX e)
  | 0x00F => subZero sub (.shlX e)
  | 0x010 => subZero sub (.shrX e)
  | 0x011 => subZero sub (.sraX e)
  | 0x012 => subZero sub (.rotlX e)
  | 0x013 => subZero sub (.minX e)
  | 0x014 => subZero sub (.maxX e)
  | 0x015 => subZero sub (.minuX e)
  | 0x016 => subZero sub (.maxuX e)
  | 0x017 => subZero sub (.addwX e)
  | 0x018 => subZero sub (.subwX e)
  | 0x019 => subZero sub (.mulwX e)
  | 0x01A => subZero sub (.shlwX e)
  | 0x01B => subZero sub (.shrwX e)
  | 0x01C => subZero sub (.srawX e)
  | 0x01D => subZero sub (.bextX e)
  | 0x01E => subZero sub (.binsX e)
  | 0x01F => subZero sub (.bsetX e)
  | 0x020 => subZero sub (.bclrX e)
  | 0x021 => subZero sub (.seqX e)
  | 0x022 => subZero sub (.sneX e)
  | 0x023 => subZero sub (.sltX e)
  | 0x024 => subZero sub (.sltuX e)
  | 0x025 => subZero sub (.sleX e)
  | 0x026 => subZero sub (.sleuX e)
  | 0x027 => subZero sub (.notX e)
  | 0x028 => subZero sub (.negX e)
  | 0x029 => subZero sub (.clzX e)
  | 0x02A => subZero sub (.ctzX e)
  | 0x02B => subZero sub (.popcX e)
  | 0x02C => subZero sub (.sextbX e)
  | 0x02D => subZero sub (.sexthX e)
  | 0x02E => subZero sub (.sextwX e)
  | 0x02F => subZero sub (.zextbX e)
  | 0x030 => subZero sub (.zexthX e)
  | 0x031 => subZero sub (.zextwX e)
  | 0x032 => subZero sub (.bswapX e)
  | 0x033 => subZero sub (.addiX e)
  | 0x034 => subZero sub (.andiX e)
  | 0x035 => subZero sub (.oriX e)
  | 0x036 => subZero sub (.xoriX e)
  | 0x037 => subZero sub (.shliX e)
  | 0x038 => subZero sub (.shriX e)
  | 0x039 => subZero sub (.sraiX e)
  | 0x03A => subZero sub (.rotliX e)
  | 0x03B => subZero sub (.muliX e)
  | 0x03C => subZero sub (.liX e)
  | 0x03D => subZero sub (.lpcX e)
  | 0x03E => withImm e fun v e =>
      if v.getLsbD 7 then .error .nonzeroField
      else subZero sub (.skpX e (v.extractLsb' 0 4) (v.extractLsb' 4 2) (v.getLsbD 6) (v.extractLsb' 8 24))
  | 0x041 => subZero sub (.jmpX e)
  | 0x042 => subZero sub (.callrX e)
  | 0x044 => subZero sub (.dbnzX e)
  | 0x045 => subZero sub (.mfsX e)
  | 0x046 => withImm e fun v e =>
      if e = { d := e.d } then subZero sub (.mtsX (.ext e.d v)) else .error .nonzeroField
  | 0x047 => subZero sub (.fsetX e)
  | 0x048 => subZero sub (.fclrX e)
  | 0x050 => subZero sub (.ldbX e)
  | 0x051 => subZero sub (.ldbuX e)
  | 0x052 => subZero sub (.ldhX e)
  | 0x053 => subZero sub (.ldhuX e)
  | 0x054 => subZero sub (.ldwX e)
  | 0x055 => subZero sub (.ldwuX e)
  | 0x056 => subZero sub (.lddX e)
  | 0x057 => subZero sub (.stbX e)
  | 0x058 => subZero sub (.sthX e)
  | 0x059 => subZero sub (.stwX e)
  | 0x05A => subZero sub (.stdX e)
  | 0x05B => subZero sub (.ldpX e)
  | 0x05C => subZero sub (.stpX e)
  | 0x05D => subZero sub (.ldfX e)
  | 0x05E => subZero sub (.ldfwX e)
  | 0x05F =>
    match sub.toNat with
    | 0 => .ok (.aadd e)
    | 1 => .ok (.aand e)
    | 2 => .ok (.aor e)
    | 3 => .ok (.axor e)
    | 4 => .ok (.amin e)
    | 5 => .ok (.amax e)
    | 6 => .ok (.aminu e)
    | 7 => .ok (.amaxu e)
    | 8 => .ok (.aswp e)
    | 9 => .ok (.acas e)
    | 16 => .ok (.aaddw e)
    | 17 => .ok (.aandw e)
    | 18 => .ok (.aorw e)
    | 19 => .ok (.axorw e)
    | 20 => .ok (.aminw e)
    | 21 => .ok (.amaxw e)
    | 22 => .ok (.aminuw e)
    | 23 => .ok (.amaxuw e)
    | 24 => .ok (.aswpw e)
    | 25 => .ok (.acasw e)
    | _ => .error .badSub
  | 0x060 => subZero sub (.fence e)
  | 0x061 => subZero sub (.wtneX e)
  | 0x062 => subZero sub (.pinX e)
  | 0x063 => subZero sub (.unpinX e)
  | 0x064 => subZero sub (.flushX e)
  | 0x065 => subZero sub (.prefX e)
  | 0x066 => subZero sub (.allocX e)
  | 0x067 => subZero sub (.freeX e)
  | 0x068 => subZero sub (.goX e)
  | 0x080 => withLane sub (.vadd · e)
  | 0x081 => withLane sub (.vsub · e)
  | 0x082 => withLane sub (.vmul · e)
  | 0x083 => withLane sub (.vfma · e)
  | 0x084 => withLane sub (.vmin · e)
  | 0x085 => withLane sub (.vmax · e)
  | 0x086 => withLane sub (.vabs · e)
  | 0x087 => subZero sub (.vand e)
  | 0x088 => subZero sub (.vor e)
  | 0x089 => subZero sub (.vxor e)
  | 0x08A => subZero sub (.vnot e)
  | 0x08B => withLane sub (.vshl · e)
  | 0x08C => withLane sub (.vshr · e)
  | 0x08D => withLane sub (.vsra · e)
  | 0x08E => withImm e fun v e =>
      if v.extractLsb' 4 28 = 0 then withLane sub (.vcmp · (v.extractLsb' 0 4) e) else .error .nonzeroField
  | 0x08F => subZero sub (.vsel e)
  | 0x090 => withWidth sub (.vperm · e)
  | 0x091 => withWidth sub (.vbcast · e)
  | 0x092 => withWidth sub (.vext · e)
  | 0x093 => withImm e fun v e =>
      if v.extractLsb' 2 30 = 0 then withLane sub (.vred · (v.extractLsb' 0 2) e) else .error .badImmediate
  | 0x094 => withLane sub (.vrcp · e)
  | 0x095 => withLane sub (.vrsq · e)
  | 0x096 => withLane sub (.vexp2 · e)
  | 0x097 => withLane sub (.vlog2 · e)
  | 0x098 => withCvt sub (.vcvt · e)
  | 0x099 => subZero sub (.vrq e)
  | 0x09A => subZero sub (.vmov e)
  | 0x09B => subZero sub (.vcnt e)
  | 0x09C => subZero sub (.vfirst e)
  | 0x09D => subZero sub (.vld e)
  | 0x09E => subZero sub (.vst e)
  | 0x09F => withWidth sub (.vlds · e)
  | 0x0A0 => withWidth sub (.vsts · e)
  | 0x0A1 => withWidth sub (.vgat · e)
  | 0x0A2 => withWidth sub (.vsca · e)
  | 0x0A3 => subZero sub (.vldt e)
  | 0x0A4 => subZero sub (.vstt e)
  | 0x0C0 => subZero sub (.tdef e)
  | 0x0C1 => subZero sub (.tclaim e)
  | 0x0C2 => subZero sub (.trel e)
  | 0x0C3 => subZero sub (.tld e)
  | 0x0C4 => subZero sub (.mma e)
  | 0x0C5 => subZero sub (.mmam e)
  | 0x0C6 => subZero sub (.acz e)
  | 0x0C7 => subZero sub (.acld e)
  | 0x0C8 => withLane sub (.acst · e)
  | 0x0C9 => subZero sub (.acrd e)
  | 0x0D0 => subZero sub (.xdef e)
  | 0x0D1 => subZero sub (.xfer e)
  | 0x0D2 => subZero sub (.xwait e)
  | 0x0D3 => subZero sub (.xstat e)
  | 0x0D4 => subZero sub (.xcan e)
  | 0x0D5 => subZero sub (.xpub e)
  | 0x1C8 => subZero sub (.wsrefX e)
  | 0x0E0 => subZero sub (.post e)
  | 0x0E1 => subZero sub (.mwait e)
  | 0x0E2 => subZero sub (.mrd e)
  | 0x0E3 => subZero sub (.mset e)
  | 0x0E4 => subZero sub (.send e)
  | 0x0E5 => subZero sub (.recv e)
  | 0x0E6 =>
    match sub.toNat with
    | 0 => .ok (.spawn e)
    | 1 => .ok (.spawnGrp e)
    | _ => .error .badSub
  | 0x0E7 => subZero sub (.subscribe e)
  | 0x0E8 => subZero sub (.unsub e)
  | 0x0E9 => subZero sub (.subflush e)
  | 0x0F0 => subZero sub (.tbind e)
  | 0x0F1 => subZero sub (.tnext e)
  | 0x0F2 => subZero sub (.tsend e)
  | 0x0F3 => subZero sub (.tdone e)
  | 0x0F4 => subZero sub (.tirr e)
  | 0x0F5 => subZero sub (.tgvt e)
  | 0x100 => subZero sub (.fork e)
  | 0x101 => subZero sub (.joinX e)
  | 0x104 => subZero sub (.ndoneX e)
  | 0x105 => subZero sub (.qsub e)
  | 0x106 =>
    match sub.toNat with
    | 0 => .ok (.ptokTake e)
    | 1 => .ok (.ptokGive e)
    | _ => .error .badSub
  | 0x1C7 =>
    match sub.toNat with
    | 0 => .ok (.xlinvAll e)
    | 1 => .ok (.xlinvPage e)
    | 2 => .ok (.xlinvProc e)
    | _ => .error .badSub
  | 0x1C9 => subZero sub (.ctrrdX e)
  | 0x1CA => subZero sub (.ctrcfgX e)
  | op => .error (noRow op)

/-- How many words an instruction has, from LEN (Table 1). -/
def lenWords (w0 : IWord) : Nat :=
  match (fLen w0).toNat with
  | 0 => 1
  | 3 => 5
  | _ => 3

/-- The fields of an instruction, before the checks of R65 on their values. -/
noncomputable def decodeRaw : List IWord → Except DecodeError (Instr × List IWord)
  | [] => .error .truncated
  | w0 :: rest =>
    match (fLen w0).toNat, rest with
    | 0, rest => (decodeBase w0).map (·, rest)
    | 1, w1 :: w2 :: rest => (decodeLit w0 (w2 ++ w1)).map (·, rest)
    | 2, w1 :: w2 :: rest => (decodeExt (fOp w0).toNat (fSub w0) (decodeFields w0 w1 (.imm10 w2))).map (·, rest)
    | 3, w1 :: w2 :: w3 :: w4 :: rest =>
      if w2 ≠ 0 then .error .nonzeroField
      else (decodeExt (fOp w0).toNat (fSub w0) (decodeFields w0 w1 (.lit11 (w4 ++ w3)))).map (·, rest)
    | _, _ => .error .truncated

/-- The decoder on instruction words: the first instruction with the words after it, or the case of
R65 that the words fall under. -/
noncomputable def decode (ws : List IWord) : Except DecodeError (Instr × List IWord) :=
  match decodeRaw ws with
  | .error x => .error x
  | .ok (i, rest) =>
    match i.check with
    | none => .ok (i, rest)
    | some x => .error x

/-- The words in a list of bytes, each little-endian (R38); bytes short of a word are dropped. -/
def wordsOfBytes : List Byte → List IWord
  | b0 :: b1 :: b2 :: b3 :: rest => (b3 ++ b2 ++ b1 ++ b0 : BitVec 32) :: wordsOfBytes rest
  | _ => []

/-- The bytes of a word, the lowest first (R38). -/
def bytesOfWord (w : IWord) : List Byte :=
  [w.extractLsb' 0 8, w.extractLsb' 8 8, w.extractLsb' 16 8, w.extractLsb' 24 8]

/-- The decoder on bytes in memory order. -/
noncomputable def decodeBytes (bs : List Byte) : Except DecodeError (Instr × List IWord) := decode (wordsOfBytes bs)

/-- The words of an instruction given as one number: bit 0 is bit 0 of word 0, and each later word
counts on from the one before; five words cover the longest instruction. -/
def tableWords (w : Nat) : List IWord :=
  [BitVec.ofNat 32 w, BitVec.ofNat 32 (w >>> 32), BitVec.ofNat 32 (w >>> 64), BitVec.ofNat 32 (w >>> 96),
    BitVec.ofNat 32 (w >>> 128)]

/-- The instruction that the decoder reads from the bits `w`, numbered as the opcode table numbers
them, every bit above `nbits` zero. -/
noncomputable def decodeTableWord (nbits w : Nat) : Option Instr :=
  match decodeBytes ((tableWords (w % 2 ^ nbits)).flatMap bytesOfWord) with
  | .ok (i, _) => some i
  | .error _ => none

/-- The registers that an extended form reads synchronised (R44, R84). -/
def Ext.syn (e : Ext) : List Nat :=
  (if e.synA then [e.a.toNat] else []) ++ (if e.synB then [e.b.toNat] else []) ++ (if e.synC then [e.c.toNat] else [])

/-- Words of a literal or extended form (Table 1). -/
def ImmForm.words : ImmForm → Nat
  | .lit01 _ => 3 | .imm10 _ => 3 | .lit11 _ => 5

/-- Words of a literal or extended form. -/
def Ext.words (e : Ext) : Nat := e.imm.words

/-! ### The encoder -/

/-- RRR and RRI: B or I7, A, D, OP, LEN (Table 2). -/
def encRRR (len : BitVec 2) (op : Nat) (b a d : BitVec 7) : IWord := b ++ a ++ d ++ BitVec.ofNat 9 op ++ len
/-- RI: I14, D, OP, LEN. -/
def encRI (len : BitVec 2) (op : Nat) (i : BitVec 14) (d : BitVec 7) : IWord := i ++ d ++ BitVec.ofNat 9 op ++ len
/-- J: I21, OP, LEN. -/
def encJ (op : Nat) (i : BitVec 21) : IWord := i ++ BitVec.ofNat 9 op ++ 0#2
/-- CS: IB, K, CC, B, A, OP, LEN. -/
def encCS (op : Nat) (ib : Bool) (k : BitVec 2) (cc : BitVec 4) (b a : BitVec 7) : IWord :=
  BitVec.ofBool ib ++ k ++ cc ++ b ++ a ++ BitVec.ofNat 9 op ++ 0#2
/-- M: I5, SP, A, D/S, OP, LEN. -/
def encM (len : BitVec 2) (op : Nat) (i : BitVec 5) (sp : BitVec 2) (a d : BitVec 7) : IWord :=
  i ++ sp ++ a ++ d ++ BitVec.ofNat 9 op ++ len

/-- The two words of a 64-bit literal, the lower first (R38). -/
def encLit (v : BitVec 64) : List IWord := [v.extractLsb' 0 32, v.extractLsb' 32 32]

/-- Word 0 of an extended form: MOD, SUB, OP, LEN (Tables 3 and 4). -/
def encExt0 (len : BitVec 2) (op sub : Nat) (e : Ext) : IWord :=
  BitVec.ofBool e.synA ++ BitVec.ofBool e.synB ++ BitVec.ofBool e.synC ++ e.scope ++ e.ord ++ e.rnd ++
    BitVec.ofBool e.sat ++ e.sp ++ e.hint ++ BitVec.ofNat 5 sub ++ BitVec.ofNat 9 op ++ len

/-- Word 1 of an extended form: C, B, A, D. -/
def encExt1 (e : Ext) : IWord := e.c ++ e.b ++ e.a ++ e.d

/-- The words of a literal or extended form. `fmt` is the base word 0 with a zero immediate and LEN
0b01, used when the form is the literal one. -/
def encExt (op sub : Nat) (fmt : IWord) (e : Ext) : List IWord :=
  match e.imm with
  | .lit01 v => fmt :: encLit v
  | .imm10 v => [encExt0 2#2 op sub e, encExt1 e, v]
  | .lit11 v => encExt0 3#2 op sub e :: encExt1 e :: 0#32 :: encLit v

/-- Base word 0 of a literal form in RRI or RI format. -/
def litRRI (op : Nat) (e : Ext) : IWord := encRRR 1#2 op 0 (e.a.setWidth 7) (e.d.setWidth 7)
/-- Base word 0 of a literal load. -/
def litLoad (op : Nat) (e : Ext) : IWord := encM 1#2 op 0 e.sp (e.a.setWidth 7) (e.d.setWidth 7)
/-- Base word 0 of a literal store, `wtne` or line operation. -/
def litStore (op : Nat) (e : Ext) : IWord := encM 1#2 op 0 e.sp (e.a.setWidth 7) (e.c.setWidth 7)

/-- The words of an instruction, from the formats of Table 2 to Table 5; an event has none. -/
def encode : Instr → List IWord
  | .add d a b => [encRRR 0#2 0x001 b a d]
  | .addX e => encExt 0x001 0 0 e
  | .sub d a b => [encRRR 0#2 0x002 b a d]
  | .subX e => encExt 0x002 0 0 e
  | .mul d a b => [encRRR 0#2 0x003 b a d]
  | .mulX e => encExt 0x003 0 0 e
  | .mulh d a b => [encRRR 0#2 0x004 b a d]
  | .mulhX e => encExt 0x004 0 0 e
  | .mulhu d a b => [encRRR 0#2 0x005 b a d]
  | .mulhuX e => encExt 0x005 0 0 e
  | .div d a b => [encRRR 0#2 0x006 b a d]
  | .divX e => encExt 0x006 0 0 e
  | .divu d a b => [encRRR 0#2 0x007 b a d]
  | .divuX e => encExt 0x007 0 0 e
  | .rem d a b => [encRRR 0#2 0x008 b a d]
  | .remX e => encExt 0x008 0 0 e
  | .remu d a b => [encRRR 0#2 0x009 b a d]
  | .remuX e => encExt 0x009 0 0 e
  | .and d a b => [encRRR 0#2 0x00A b a d]
  | .andX e => encExt 0x00A 0 0 e
  | .or d a b => [encRRR 0#2 0x00B b a d]
  | .orX e => encExt 0x00B 0 0 e
  | .xor d a b => [encRRR 0#2 0x00C b a d]
  | .xorX e => encExt 0x00C 0 0 e
  | .andn d a b => [encRRR 0#2 0x00D b a d]
  | .andnX e => encExt 0x00D 0 0 e
  | .orn d a b => [encRRR 0#2 0x00E b a d]
  | .ornX e => encExt 0x00E 0 0 e
  | .shl d a b => [encRRR 0#2 0x00F b a d]
  | .shlX e => encExt 0x00F 0 0 e
  | .shr d a b => [encRRR 0#2 0x010 b a d]
  | .shrX e => encExt 0x010 0 0 e
  | .sra d a b => [encRRR 0#2 0x011 b a d]
  | .sraX e => encExt 0x011 0 0 e
  | .rotl d a b => [encRRR 0#2 0x012 b a d]
  | .rotlX e => encExt 0x012 0 0 e
  | .min d a b => [encRRR 0#2 0x013 b a d]
  | .minX e => encExt 0x013 0 0 e
  | .max d a b => [encRRR 0#2 0x014 b a d]
  | .maxX e => encExt 0x014 0 0 e
  | .minu d a b => [encRRR 0#2 0x015 b a d]
  | .minuX e => encExt 0x015 0 0 e
  | .maxu d a b => [encRRR 0#2 0x016 b a d]
  | .maxuX e => encExt 0x016 0 0 e
  | .addw d a b => [encRRR 0#2 0x017 b a d]
  | .addwX e => encExt 0x017 0 0 e
  | .subw d a b => [encRRR 0#2 0x018 b a d]
  | .subwX e => encExt 0x018 0 0 e
  | .mulw d a b => [encRRR 0#2 0x019 b a d]
  | .mulwX e => encExt 0x019 0 0 e
  | .shlw d a b => [encRRR 0#2 0x01A b a d]
  | .shlwX e => encExt 0x01A 0 0 e
  | .shrw d a b => [encRRR 0#2 0x01B b a d]
  | .shrwX e => encExt 0x01B 0 0 e
  | .sraw d a b => [encRRR 0#2 0x01C b a d]
  | .srawX e => encExt 0x01C 0 0 e
  | .bext d a b => [encRRR 0#2 0x01D b a d]
  | .bextX e => encExt 0x01D 0 0 e
  | .bins d a b => [encRRR 0#2 0x01E b a d]
  | .binsX e => encExt 0x01E 0 0 e
  | .bset d a b => [encRRR 0#2 0x01F b a d]
  | .bsetX e => encExt 0x01F 0 0 e
  | .bclr d a b => [encRRR 0#2 0x020 b a d]
  | .bclrX e => encExt 0x020 0 0 e
  | .seq d a b => [encRRR 0#2 0x021 b a d]
  | .seqX e => encExt 0x021 0 0 e
  | .sne d a b => [encRRR 0#2 0x022 b a d]
  | .sneX e => encExt 0x022 0 0 e
  | .slt d a b => [encRRR 0#2 0x023 b a d]
  | .sltX e => encExt 0x023 0 0 e
  | .sltu d a b => [encRRR 0#2 0x024 b a d]
  | .sltuX e => encExt 0x024 0 0 e
  | .sle d a b => [encRRR 0#2 0x025 b a d]
  | .sleX e => encExt 0x025 0 0 e
  | .sleu d a b => [encRRR 0#2 0x026 b a d]
  | .sleuX e => encExt 0x026 0 0 e
  | .not d a => [encRRR 0#2 0x027 0 a d]
  | .notX e => encExt 0x027 0 0 e
  | .neg d a => [encRRR 0#2 0x028 0 a d]
  | .negX e => encExt 0x028 0 0 e
  | .clz d a => [encRRR 0#2 0x029 0 a d]
  | .clzX e => encExt 0x029 0 0 e
  | .ctz d a => [encRRR 0#2 0x02A 0 a d]
  | .ctzX e => encExt 0x02A 0 0 e
  | .popc d a => [encRRR 0#2 0x02B 0 a d]
  | .popcX e => encExt 0x02B 0 0 e
  | .sextb d a => [encRRR 0#2 0x02C 0 a d]
  | .sextbX e => encExt 0x02C 0 0 e
  | .sexth d a => [encRRR 0#2 0x02D 0 a d]
  | .sexthX e => encExt 0x02D 0 0 e
  | .sextw d a => [encRRR 0#2 0x02E 0 a d]
  | .sextwX e => encExt 0x02E 0 0 e
  | .zextb d a => [encRRR 0#2 0x02F 0 a d]
  | .zextbX e => encExt 0x02F 0 0 e
  | .zexth d a => [encRRR 0#2 0x030 0 a d]
  | .zexthX e => encExt 0x030 0 0 e
  | .zextw d a => [encRRR 0#2 0x031 0 a d]
  | .zextwX e => encExt 0x031 0 0 e
  | .bswap d a => [encRRR 0#2 0x032 0 a d]
  | .bswapX e => encExt 0x032 0 0 e
  | .addi d a i => [encRRR 0#2 0x033 i a d]
  | .addiX e => encExt 0x033 0 (litRRI 0x033 e) e
  | .andi d a i => [encRRR 0#2 0x034 i a d]
  | .andiX e => encExt 0x034 0 (litRRI 0x034 e) e
  | .ori d a i => [encRRR 0#2 0x035 i a d]
  | .oriX e => encExt 0x035 0 (litRRI 0x035 e) e
  | .xori d a i => [encRRR 0#2 0x036 i a d]
  | .xoriX e => encExt 0x036 0 (litRRI 0x036 e) e
  | .shli d a i => [encRRR 0#2 0x037 i a d]
  | .shliX e => encExt 0x037 0 (litRRI 0x037 e) e
  | .shri d a i => [encRRR 0#2 0x038 i a d]
  | .shriX e => encExt 0x038 0 (litRRI 0x038 e) e
  | .srai d a i => [encRRR 0#2 0x039 i a d]
  | .sraiX e => encExt 0x039 0 (litRRI 0x039 e) e
  | .rotli d a i => [encRRR 0#2 0x03A i a d]
  | .rotliX e => encExt 0x03A 0 (litRRI 0x03A e) e
  | .muli d a i => [encRRR 0#2 0x03B i a d]
  | .muliX e => encExt 0x03B 0 (litRRI 0x03B e) e
  | .li d i => [encRI 0#2 0x03C i d]
  | .liX e => encExt 0x03C 0 (litRRI 0x03C e) e
  | .lpc d i => [encRI 0#2 0x03D i d]
  | .lpcX e => encExt 0x03D 0 (litRRI 0x03D e) e
  | .skp a b cc k ib => [encCS 0x03E ib k cc b a]
  | .skpX e cc k ib i => encExt 0x03E 0 0 { e with imm := .imm10 (i ++ 0#1 ++ BitVec.ofBool ib ++ k ++ cc) }
  | .br i => [encJ 0x03F i]
  | .call i => [encJ 0x040 i]
  | .jmp a i => [encRRR 0#2 0x041 i a 0]
  | .jmpX e => encExt 0x041 0 0 e
  | .callr d a i => [encRRR 0#2 0x042 i a d]
  | .callrX e => encExt 0x042 0 0 e
  | .ret => [encRRR 0#2 0x043 0 0 0]
  | .dbnz d i => [encRI 0#2 0x044 i d]
  | .dbnzX e => encExt 0x044 0 0 e
  | .mfs d i => [encRI 0#2 0x045 i d]
  | .mfsX e => encExt 0x045 0 0 e
  | .mts d i => [encRI 0#2 0x046 i d]
  | .mtsX (.lit n v) => encRI 1#2 0x046 n 0 :: encLit v
  | .mtsX (.ext d n) => encExt 0x046 0 0 { d := d, imm := .imm10 n }
  | .fset d => [encRRR 0#2 0x047 0 0 d]
  | .fsetX e => encExt 0x047 0 0 e
  | .fclr d => [encRRR 0#2 0x048 0 0 d]
  | .fclrX e => encExt 0x048 0 0 e
  | .ldb d a sp i => [encM 0#2 0x050 i sp a d]
  | .ldbX e => encExt 0x050 0 (litLoad 0x050 e) e
  | .ldbu d a sp i => [encM 0#2 0x051 i sp a d]
  | .ldbuX e => encExt 0x051 0 (litLoad 0x051 e) e
  | .ldh d a sp i => [encM 0#2 0x052 i sp a d]
  | .ldhX e => encExt 0x052 0 (litLoad 0x052 e) e
  | .ldhu d a sp i => [encM 0#2 0x053 i sp a d]
  | .ldhuX e => encExt 0x053 0 (litLoad 0x053 e) e
  | .ldw d a sp i => [encM 0#2 0x054 i sp a d]
  | .ldwX e => encExt 0x054 0 (litLoad 0x054 e) e
  | .ldwu d a sp i => [encM 0#2 0x055 i sp a d]
  | .ldwuX e => encExt 0x055 0 (litLoad 0x055 e) e
  | .ldd d a sp i => [encM 0#2 0x056 i sp a d]
  | .lddX e => encExt 0x056 0 (litLoad 0x056 e) e
  | .stb d a sp i => [encM 0#2 0x057 i sp a d]
  | .stbX e => encExt 0x057 0 (litStore 0x057 e) e
  | .sth d a sp i => [encM 0#2 0x058 i sp a d]
  | .sthX e => encExt 0x058 0 (litStore 0x058 e) e
  | .stw d a sp i => [encM 0#2 0x059 i sp a d]
  | .stwX e => encExt 0x059 0 (litStore 0x059 e) e
  | .std d a sp i => [encM 0#2 0x05A i sp a d]
  | .stdX e => encExt 0x05A 0 (litStore 0x05A e) e
  | .ldp d a sp i => [encM 0#2 0x05B i sp a d]
  | .ldpX e => encExt 0x05B 0 (litLoad 0x05B e) e
  | .stp d a sp i => [encM 0#2 0x05C i sp a d]
  | .stpX e => encExt 0x05C 0 (litStore 0x05C e) e
  | .ldf d a sp i => [encM 0#2 0x05D i sp a d]
  | .ldfX e => encExt 0x05D 0 (litLoad 0x05D e) e
  | .ldfw d a sp i => [encM 0#2 0x05E i sp a d]
  | .ldfwX e => encExt 0x05E 0 (litLoad 0x05E e) e
  | .aadd e => encExt 0x05F 0 0 e
  | .aand e => encExt 0x05F 1 0 e
  | .aor e => encExt 0x05F 2 0 e
  | .axor e => encExt 0x05F 3 0 e
  | .amin e => encExt 0x05F 4 0 e
  | .amax e => encExt 0x05F 5 0 e
  | .aminu e => encExt 0x05F 6 0 e
  | .amaxu e => encExt 0x05F 7 0 e
  | .aswp e => encExt 0x05F 8 0 e
  | .acas e => encExt 0x05F 9 0 e
  | .aaddw e => encExt 0x05F 16 0 e
  | .aandw e => encExt 0x05F 17 0 e
  | .aorw e => encExt 0x05F 18 0 e
  | .axorw e => encExt 0x05F 19 0 e
  | .aminw e => encExt 0x05F 20 0 e
  | .amaxw e => encExt 0x05F 21 0 e
  | .aminuw e => encExt 0x05F 22 0 e
  | .amaxuw e => encExt 0x05F 23 0 e
  | .aswpw e => encExt 0x05F 24 0 e
  | .acasw e => encExt 0x05F 25 0 e
  | .fence e => encExt 0x060 0 0 e
  | .wtne d a sp i => [encM 0#2 0x061 i sp a d]
  | .wtneX e => encExt 0x061 0 (litStore 0x061 e) e
  | .pin a sp i => [encM 0#2 0x062 i sp a 0]
  | .pinX e => encExt 0x062 0 (litStore 0x062 e) e
  | .unpin a sp i => [encM 0#2 0x063 i sp a 0]
  | .unpinX e => encExt 0x063 0 (litStore 0x063 e) e
  | .flush a sp i => [encM 0#2 0x064 i sp a 0]
  | .flushX e => encExt 0x064 0 (litStore 0x064 e) e
  | .pref a sp i => [encM 0#2 0x065 i sp a 0]
  | .prefX e => encExt 0x065 0 (litStore 0x065 e) e
  | .alloc d a => [encRRR 0#2 0x066 0 a d]
  | .allocX e => encExt 0x066 0 0 e
  | .free a => [encRRR 0#2 0x067 0 a 0]
  | .freeX e => encExt 0x067 0 0 e
  | .go a sp i => [encM 0#2 0x068 i sp a 0]
  | .goX e => encExt 0x068 0 (litStore 0x068 e) e
  | .bara i => [encRI 0#2 0x069 i 0]
  | .barw i => [encRI 0#2 0x06A i 0]
  | .barset a i => [encRRR 0#2 0x06B i a 0]
  | .vadd t e => encExt 0x080 t.sub 0 e
  | .vsub t e => encExt 0x081 t.sub 0 e
  | .vmul t e => encExt 0x082 t.sub 0 e
  | .vfma t e => encExt 0x083 t.sub 0 e
  | .vmin t e => encExt 0x084 t.sub 0 e
  | .vmax t e => encExt 0x085 t.sub 0 e
  | .vabs t e => encExt 0x086 t.sub 0 e
  | .vand e => encExt 0x087 0 0 e
  | .vor e => encExt 0x088 0 0 e
  | .vxor e => encExt 0x089 0 0 e
  | .vnot e => encExt 0x08A 0 0 e
  | .vshl t e => encExt 0x08B t.sub 0 e
  | .vshr t e => encExt 0x08C t.sub 0 e
  | .vsra t e => encExt 0x08D t.sub 0 e
  | .vcmp t cc e => encExt 0x08E t.sub 0 { e with imm := .imm10 (0#28 ++ cc) }
  | .vsel e => encExt 0x08F 0 0 e
  | .vperm w e => encExt 0x090 w.sub 0 e
  | .vbcast w e => encExt 0x091 w.sub 0 e
  | .vext w e => encExt 0x092 w.sub 0 e
  | .vred t op e => encExt 0x093 t.sub 0 { e with imm := .imm10 (0#30 ++ op) }
  | .vrcp t e => encExt 0x094 t.sub 0 e
  | .vrsq t e => encExt 0x095 t.sub 0 e
  | .vexp2 t e => encExt 0x096 t.sub 0 e
  | .vlog2 t e => encExt 0x097 t.sub 0 e
  | .vcvt v e => encExt 0x098 v.sub 0 e
  | .vrq e => encExt 0x099 0 0 e
  | .vmov e => encExt 0x09A 0 0 e
  | .vcnt e => encExt 0x09B 0 0 e
  | .vfirst e => encExt 0x09C 0 0 e
  | .vld e => encExt 0x09D 0 0 e
  | .vst e => encExt 0x09E 0 0 e
  | .vlds w e => encExt 0x09F w.sub 0 e
  | .vsts w e => encExt 0x0A0 w.sub 0 e
  | .vgat w e => encExt 0x0A1 w.sub 0 e
  | .vsca w e => encExt 0x0A2 w.sub 0 e
  | .vldt e => encExt 0x0A3 0 0 e
  | .vstt e => encExt 0x0A4 0 0 e
  | .tdef e => encExt 0x0C0 0 0 e
  | .tclaim e => encExt 0x0C1 0 0 e
  | .trel e => encExt 0x0C2 0 0 e
  | .tld e => encExt 0x0C3 0 0 e
  | .mma e => encExt 0x0C4 0 0 e
  | .mmam e => encExt 0x0C5 0 0 e
  | .acz e => encExt 0x0C6 0 0 e
  | .acld e => encExt 0x0C7 0 0 e
  | .acst t e => encExt 0x0C8 t.sub 0 e
  | .acrd e => encExt 0x0C9 0 0 e
  | .xdef e => encExt 0x0D0 0 0 e
  | .xfer e => encExt 0x0D1 0 0 e
  | .xwait e => encExt 0x0D2 0 0 e
  | .xstat e => encExt 0x0D3 0 0 e
  | .xcan e => encExt 0x0D4 0 0 e
  | .xpub e => encExt 0x0D5 0 0 e
  | .wsref d => [encRRR 0#2 0x1C8 0 0 d]
  | .wsrefX e => encExt 0x1C8 0 0 e
  | .post e => encExt 0x0E0 0 0 e
  | .mwait e => encExt 0x0E1 0 0 e
  | .mrd e => encExt 0x0E2 0 0 e
  | .mset e => encExt 0x0E3 0 0 e
  | .send e => encExt 0x0E4 0 0 e
  | .recv e => encExt 0x0E5 0 0 e
  | .spawn e => encExt 0x0E6 0 0 e
  | .spawnGrp e => encExt 0x0E6 1 0 e
  | .subscribe e => encExt 0x0E7 0 0 e
  | .unsub e => encExt 0x0E8 0 0 e
  | .subflush e => encExt 0x0E9 0 0 e
  | .tbind e => encExt 0x0F0 0 0 e
  | .tnext e => encExt 0x0F1 0 0 e
  | .tsend e => encExt 0x0F2 0 0 e
  | .tdone e => encExt 0x0F3 0 0 e
  | .tirr e => encExt 0x0F4 0 0 e
  | .tgvt e => encExt 0x0F5 0 0 e
  | .fork e => encExt 0x100 0 0 e
  | .join a => [encRRR 0#2 0x101 0 a 0]
  | .joinX e => encExt 0x101 0 0 e
  | .exit => [encRRR 0#2 0x102 0 0 0]
  | .yield => [encRRR 0#2 0x103 0 0 0]
  | .ndone a => [encRRR 0#2 0x104 0 a 0]
  | .ndoneX e => encExt 0x104 0 0 e
  | .qsub e => encExt 0x105 0 0 e
  | .ptokTake e => encExt 0x106 0 0 e
  | .ptokGive e => encExt 0x106 1 0 e
  | .trap i => [encRI 0#2 0x1C0 i 0]
  | .sys i => [encRI 0#2 0x1C1 i 0]
  | .eret => [encRRR 0#2 0x1C2 0 0 0]
  | .halt => [encRRR 0#2 0x1C3 0 0 0]
  | .brk => [encRRR 0#2 0x1C4 0 0 0]
  | .rfpart i => [encRI 0#2 0x1C5 i 0]
  | .wmask i => [encRI 0#2 0x1C6 i 0]
  | .xlinvAll e => encExt 0x1C7 0 0 e
  | .xlinvPage e => encExt 0x1C7 1 0 e
  | .xlinvProc e => encExt 0x1C7 2 0 e
  | .ctrrd d a => [encRRR 0#2 0x1C9 0 a d]
  | .ctrrdX e => encExt 0x1C9 0 0 e
  | .ctrcfg a b => [encRRR 0#2 0x1CA b a 0]
  | .ctrcfgX e => encExt 0x1CA 0 0 e
  | _ => []

end Sys2Proof
end

