-- ==== Sys2Proof/Machine/Alu.lean ====
section
/-! DEFINITION. The integer functions of the scalar instructions, Tables 7 to 12 of 03_core_issue. -/

namespace Sys2Proof.Machine

/-- High 64 bits of the signed product (R89). -/
def mulHigh (a b : Word) : Word := ((a.signExtend 128 * b.signExtend 128) >>> 64).setWidth 64

/-- High 64 bits of the unsigned product (R89). -/
def mulHighU (a b : Word) : Word := ((a.zeroExtend 128 * b.zeroExtend 128) >>> 64).setWidth 64

/-- The shift count of B: its bits [5:0] (R89). -/
def shiftOf (b : Word) : Nat := b.toNat % 64

/-- Left shift by B[5:0]. -/
def shl (a b : Word) : Word := a <<< shiftOf b

/-- Logical right shift by B[5:0]. -/
def shr (a b : Word) : Word := a >>> shiftOf b

/-- Arithmetic right shift by B[5:0]. -/
def sra (a b : Word) : Word := a.sshiftRight (shiftOf b)

/-- Rotate left by B[5:0] (R89). -/
def rotl (a b : Word) : Word := (a <<< shiftOf b) ||| (a >>> ((64 - shiftOf b) % 64))

/-- Signed minimum. -/
def minS (a b : Word) : Word := if a.toInt ≤ b.toInt then a else b

/-- Signed maximum. -/
def maxS (a b : Word) : Word := if a.toInt ≤ b.toInt then b else a

/-- Unsigned minimum. -/
def minU (a b : Word) : Word := if a.toNat ≤ b.toNat then a else b

/-- Unsigned maximum. -/
def maxU (a b : Word) : Word := if a.toNat ≤ b.toNat then b else a

/-- `div`, Table 8 (R90). -/
def divS (a b : Word) : Word := if b = 0 then BitVec.allOnes 64 else BitVec.ofInt 64 (a.toInt.tdiv b.toInt)

/-- `divu`, Table 8. -/
def divU (a b : Word) : Word := if b = 0 then BitVec.allOnes 64 else BitVec.ofNat 64 (a.toNat / b.toNat)

/-- `rem`, Table 8: the sign of A. -/
def remS (a b : Word) : Word := if b = 0 then a else BitVec.ofInt 64 (a.toInt.tmod b.toInt)

/-- `remu`, Table 8. -/
def remU (a b : Word) : Word := if b = 0 then a else BitVec.ofNat 64 (a.toNat % b.toNat)

/-- The low 32 bits, sign-extended (R91). -/
def sextW (a : Word) : Word := (a.setWidth 32).signExtend 64

/-- `shlw` (R91). -/
def shlW (a b : Word) : Word := ((a.setWidth 32 : BitVec 32) <<< (b.toNat % 32)).signExtend 64

/-- `shrw` (R91). -/
def shrW (a b : Word) : Word := ((a.setWidth 32 : BitVec 32) >>> (b.toNat % 32)).signExtend 64

/-- `sraw` (R91). -/
def sraW (a b : Word) : Word := ((a.setWidth 32 : BitVec 32).sshiftRight (b.toNat % 32)).signExtend 64

/-- pos = B[5:0] of a bit field (R92). -/
def fieldPos (b : Word) : Nat := b.toNat % 64

/-- mask = 2^w − 1 with w = B[11:6] + 1 (R92). -/
def fieldMask (b : Word) : Word := BitVec.ofNat 64 (2 ^ (b.toNat / 64 % 64 + 1) - 1)

/-- `bext` (R92). -/
def bext (a b : Word) : Word := (a >>> fieldPos b) &&& fieldMask b

/-- `bins` on the old D (R92). -/
def bins (d a b : Word) : Word := (d &&& ~~~(fieldMask b <<< fieldPos b)) ||| ((a &&& fieldMask b) <<< fieldPos b)

/-- `bset` (R92). -/
def bset (a b : Word) : Word := a ||| (1#64 <<< shiftOf b)

/-- `bclr` (R92). -/
def bclr (a b : Word) : Word := a &&& ~~~(1#64 <<< shiftOf b)

/-- 1 or 0. -/
def ofCond (p : Bool) : Word := if p then 1 else 0

/-- Number of leading zero bits; 64 for 0 (R93). -/
def clz (a : Word) : Word := if a = 0 then 64 else BitVec.ofNat 64 (63 - a.toNat.log2)

/-- The lowest set bit of a number below 2^`n`, counted from `i`. -/
def lowBit (v i : Nat) : Nat → Nat
  | 0 => i
  | n + 1 => if v % 2 = 1 then i else lowBit (v / 2) (i + 1) n

/-- Number of trailing zero bits; 64 for 0 (R93). -/
def ctz (a : Word) : Word := BitVec.ofNat 64 (lowBit a.toNat 0 64)

/-- The number of one bits among the low `n`. -/
def popBits (v : Nat) : Nat → Nat
  | 0 => 0
  | n + 1 => v % 2 + popBits (v / 2) n

/-- Number of one bits (R93). -/
def popc (a : Word) : Word := BitVec.ofNat 64 (popBits a.toNat 64)

/-- The low `w` bits sign-extended (R93). -/
def sextLow (w : Nat) (a : Word) : Word := (a.setWidth w).signExtend 64

/-- The low `w` bits zero-extended (R93). -/
def zextLow (w : Nat) (a : Word) : Word := (a.setWidth w).setWidth 64

/-- The bytes in reverse order (R93). -/
def bswap (a : Word) : Word :=
  a.extractLsb' 0 8 ++ a.extractLsb' 8 8 ++ a.extractLsb' 16 8 ++ a.extractLsb' 24 8 ++
    a.extractLsb' 32 8 ++ a.extractLsb' 40 8 ++ a.extractLsb' 48 8 ++ a.extractLsb' 56 8

/-- Conditions 0 to 13 of Table 8 (R49); `full` and `empty` are tested on the full bit. -/
def condition (cc : Nat) (a b : Word) : Bool :=
  match cc with
  | 0 => a = b
  | 1 => a ≠ b
  | 2 => a.toInt < b.toInt
  | 3 => b.toInt ≤ a.toInt
  | 4 => a.toNat < b.toNat
  | 5 => b.toNat ≤ a.toNat
  | 6 => b.toInt < a.toInt
  | 7 => a.toInt ≤ b.toInt
  | 8 => b.toNat < a.toNat
  | 9 => a.toNat ≤ b.toNat
  | 10 => a.getLsbD (shiftOf b)
  | 11 => !a.getLsbD (shiftOf b)
  | 12 => (a &&& b) ≠ 0
  | 13 => (a &&& b) = 0
  | _ => false

end Sys2Proof.Machine
end

