-- ==== Sys2Proof/Config.lean ====
section
/-! DEFINITION. What the spec leaves open: free values, each an opaque constant applied to a counter
of the state, so that no proof can know one (log entry 2), and what a device is made with (log entry 48). -/

namespace Sys2Proof.Config

/-- A free number: a choice that the spec leaves to the implementation. -/
opaque freeNat : Nat → Nat

/-- A free word: a value that the spec does not state. -/
opaque freeWord : Nat → Word

/-- The SHA-384 digests of the vendor's public keys in the mask ROM (R434). -/
opaque ecdsaDigest : BitVec 384

/-- The same for the LMS key. -/
opaque lmsDigest : BitVec 384

/-- The fuzzy extractor of the boot controller: from the helper data and the uninitialised SRAM, the device secret, if the data belong to
the device (R436). -/
opaque fuzzyExtract : List (BitVec 8) → BitVec 16384 → Option (BitVec 256)

/-- The identity's private key that the boot controller derives from the secret (R436). -/
opaque identityKey : BitVec 256 → BitVec 384

end Sys2Proof.Config
end

