-- ==== Sys2Proof/Machine/Store.lean ====
section
/-! DEFINITION. Finite maps as lists of key and value in one canonical form (keys strictly rising),
used for register files, tables and memory. A map with a default lists no entry equal to it, so that
equal maps are equal lists. -/

namespace Sys2Proof.Machine

/-- A finite map from numbers, as a list with strictly rising keys. -/
abbrev Store (α : Type) := List (Nat × α)

/-- The entry at a key. -/
def Store.find {α : Type} : Store α → Nat → Option α
  | [], _ => none
  | (k, v) :: r, a => if k = a then some v else Store.find r a

/-- The entry at a key, or the default. -/
def Store.get {α : Type} (m : Store α) (a : Nat) (dflt : α) : α := (m.find a).getD dflt

/-- The map with the entry at `a` made `v`. -/
def Store.put {α : Type} : Store α → Nat → α → Store α
  | [], a, v => [(a, v)]
  | (k, w) :: r, a, v => if a < k then (a, v) :: (k, w) :: r else if a = k then (a, v) :: r else (k, w) :: Store.put r a v

/-- The map without an entry at `a`. -/
def Store.drop {α : Type} : Store α → Nat → Store α
  | [], _ => []
  | (k, w) :: r, a => if k = a then Store.drop r a else (k, w) :: Store.drop r a

/-- The map with default `dflt` and the entry at `a` made `v`: an entry equal to the default is not
listed. -/
def Store.set {α : Type} [DecidableEq α] (m : Store α) (a : Nat) (v dflt : α) : Store α :=
  if v = dflt then m.drop a else m.put a v

/-- Keys strictly rise. -/
def Store.sorted {α : Type} : Store α → Bool
  | [] => true
  | [_] => true
  | (k, _) :: (k', v') :: r => k < k' && Store.sorted ((k', v') :: r)

/-- No entry equals the default. -/
def Store.lean {α : Type} [DecidableEq α] (m : Store α) (dflt : α) : Bool := m.all fun x => x.2 ≠ dflt

/-- The canonical form of a map with a default. -/
def Store.wf {α : Type} [DecidableEq α] (m : Store α) (dflt : α) : Bool := Store.sorted m && Store.lean m dflt

/-- The first `n` natural numbers for which nothing is listed, from `a` up. -/
def Store.firstFree {α : Type} (m : Store α) (a : Nat) : Nat → Option Nat
  | 0 => none
  | n + 1 => if (m.find a).isNone then some a else Store.firstFree m (a + 1) n

/-- Memory in its canonical form: addresses strictly rising, and no byte listed that is 0, which an unlisted byte reads. -/
def Memory.wf (m : Store Byte) : Bool := Store.wf m 0

/-- Reads `n` bytes at `a`, the lowest address least significant (R38, R105) (DESIGN CHOICE, unsafe, log entry 3). -/
def readBytes (m : Store Byte) (a : Nat) : Nat → Nat
  | 0 => 0
  | n + 1 => (m.get a 0).toNat + 256 * readBytes m (a + 1) n

/-- Writes the low `n` bytes of `v` at `a`, the least significant at the lowest address (DESIGN CHOICE, unsafe, log entry 3). -/
def writeBytes (m : Store Byte) (a : Nat) : Nat → Nat → Store Byte
  | 0, _ => m
  | n + 1, v => writeBytes (m.set a (BitVec.ofNat 8 v) 0) (a + 1) n (v / 256)

end Sys2Proof.Machine
end

