-- ==== Sys2Proof/Machine/State.lean ====
section
/-! DEFINITION. The state of the package as plain data: contexts with their tasks, cores, dies, the
I/O die, and one memory; the free-value counter and the bookkeeping of the step. Every piece of state
that the spec gives the machine stands here; INVENTORY.md lists it with the rules. -/

namespace Sys2Proof.Machine

/-! ### Cores, contexts, tasks -/

/-- The register-file partitions of Table 5 (R76). -/
inductive Part where
  /-- 16 contexts, `rfpart` code 0. -/
  | p16
  /-- 8 contexts, code 1. -/
  | p8
  /-- 4 contexts, code 2. -/
  | p4
  deriving DecidableEq, Repr

/-- Context states of Table 2 (R70). -/
inductive CtxState where
  | free | ready | parked | stopped
  deriving DecidableEq, Repr

/-- Where an access is performed, once its address has passed the checks of R106. -/
inductive Place where
  /-- Space 0x0000 or 0x0001: a device physical address (Table 2 of 16_host_peer). -/
  | mem (pa : Nat)
  /-- Byte `off` of the scratchpad of a core (R21), as an offset in its core SRAM. -/
  | scratch (core : Nat) (off : Nat)
  /-- A byte of a die's weight store (R20). -/
  | weight (die : Nat) (off : Nat)
  /-- Mailbox counter `index` of a core (R23). -/
  | counter (core : Nat) (index : Nat)
  /-- The register space, at an offset (R408). -/
  | signal (off : Nat)
  deriving DecidableEq, Repr

/-- One element of an access: a place and a size in bytes. -/
structure Acc where
  place : Place
  size : Nat
  deriving DecidableEq, Repr

/-- The arithmetic of the atomics, Table 5 (R116). -/
inductive AtomOp where
  | add | and | or | xor | min | max | minu | maxu | swp | cas
  /-- The decrement of `join` and of a token: it writes only when the old value is at least 1, signed (R354,
  R363). -/
  | dec
  deriving DecidableEq, Repr

/-- What the reply of a load is used for when it arrives (R107, R111, R178). -/
inductive Sink where
  /-- General register `d`, sign- or zero-extended from `size` bytes. -/
  | reg (d size : Nat) (signed : Bool)
  /-- Registers `d` and `d + 1` of `ldp`. -/
  | pair (d : Nat)
  /-- Vector register `d`, element i of the access into bits [w·i + w − 1 : w·i]. -/
  | vec (d : Nat) (w : Nat)
  /-- `vldt`: `n` elements by the descriptor record `data` into the FP32 lanes of `d`; the last element of
  the access is the block's exponent if `plane` (R182). -/
  | vecTensor (d : Nat) (data : BitVec 512) (n : Nat) (plane : Bool)
  /-- `vstt`: the block's exponent; the instruction then stores its elements (R182). -/
  | exponent (e : Ext)
  /-- `wtne`: compare with `s` the doubleword at `place`; complete when it differs (R120). -/
  | watch (s : Word) (place : Place)
  /-- The old value of an atomic into `d` (R116). -/
  | atomic (d : Nat)
  /-- `tdef`: the 64-byte descriptor for a tensor identifier (R194). -/
  | tensor (t : Nat)
  /-- `xdef`: the template record for an index (R224). -/
  | template (index : Nat)
  /-- `tbind`: the descriptor, in eight doublewords (R305). -/
  | bind
  /-- `tirr`: the action record, in three doublewords (R314). -/
  | action
  /-- `join`: the old value of the counter (R354). -/
  | join
  /-- `qsub`: the entry, in sixteen doublewords (R357). -/
  | entry (q : Nat)
  /-- `recv`: the message of `len` bytes is stored; its record is freed, and `d` is written (R289). -/
  | recv (d len : Nat)
  /-- The line is brought in and pinned (R121). -/
  | pin (line : Nat)
  /-- Nothing is kept: a prefetch. -/
  | drop
  deriving DecidableEq, Repr

/-- A request of a parked context: the elements it reads, the values already returned, what becomes of
them, and what the completion asks of the consistency model (R107, R110). -/
structure Req where
  /-- Elements still to be served, in order. -/
  todo : List Acc
  /-- Elements served, in order, with their values. -/
  done : List Nat
  /-- The values to be stored to the elements still to be served; empty for a read. -/
  vals : List Nat := []
  sink : Sink
  /-- The access is an acquire (R110). -/
  acq : Bool
  scope : Nat
  /-- The cache hint (R109). -/
  hint : Nat
  /-- Words of the instruction; PC moves past it at completion. -/
  words : Nat
  /-- An atomic's operation, expected value and operand (R116). -/
  atom : Option (AtomOp × Word × Word)
  /-- Whether the atomic has been performed, and as a success. -/
  performed : Bool
  /-- The largest write time among the bytes returned by a slice of this die (R246). -/
  wts : Nat
  /-- A cross-die reply not yet delivered: its stamp and the line (R255). -/
  reply : Option (List Nat × BitVec 512)
  /-- An error in the reply (R113, R420). -/
  error : Bool
  /-- Selector and effective address, for a data-error trap. -/
  sel : BitVec 16
  ea : Word
  /-- The watched line has been written since the watch was armed (R120). -/
  hit : Bool := false
  /-- An event of R252 has overtaken the reply: its line is used once and not installed. -/
  once : Bool := false
  /-- Effective addresses of the elements still to be served; empty for a scalar access, whose address is `ea` (R178). -/
  eas : List Word := []
  /-- The access is a release too: an atomic of kind acquire-release (R266). -/
  rel : Bool := false
  /-- Flags that the instruction merges when it completes (R154). -/
  flags : Word := 0
  /-- Bytes of the die's copy that an atomic's reply may still update: none that a later reply or write has brought
  up to date (R254). -/
  live : BitVec 64 := BitVec.allOnes 64
  deriving DecidableEq, Repr

/-- What a parked context waits for (Table 3 of R71). A `retry` wait ends with the instruction issued
again from its start; an operation in flight ends with its completion. -/
inductive Wait where
  | none
  /-- A request whose reply completes the instruction. -/
  | req (r : Req)
  /-- STORECNT is 0, and the context's part in the engines is drained (R110, R119, R399). -/
  | drained
  /-- Room in the store path: fewer than 255 unacknowledged stores (R108). -/
  | storeRoom
  /-- The request has been accepted: the instruction completes in the cycle after its issue (R107). -/
  | accepted (words : Nat)
  /-- No split load of the context is outstanding (R119, R310). -/
  | loads
  /-- The context's stores to a line are acknowledged (R121). -/
  | flushLine (line : Nat)
  /-- The slot of the bound logical process goes on (R438). -/
  | slotFree
  /-- PEND of a register is clear (R114). -/
  | pendClear (r : Nat)
  /-- Every synchronised register of the instruction is full (R84). -/
  | full (regs : List Nat)
  /-- No copy guard covers the bytes (R230). -/
  | guard (core : Nat) (off size : Nat)
  /-- The divide unit writes D (R90). -/
  | divide (d : Nat) (v : Word) (words : Nat)
  /-- A vector long operation writes D and merges its flags (R159). -/
  | vlong (d : Nat) (v : Vec) (flags : Word) (words : Nat)
  /-- A fill of the instruction (R72). -/
  | fill
  /-- Fills of register lines (R72, R81). -/
  | lines (ls : List Nat)
  /-- The image's holder has written back and dropped the task's lines (R81). -/
  | recall (core ctx : Nat)
  /-- A release store's own acknowledgement (R107). -/
  | relStore (words : Nat)
  /-- A counter of the own core reaches the target (R278). -/
  | counter (m : Nat) (target : BitVec 32)
  /-- The end of the cycle, when arrivals at barrier counter `k` take effect, and the drain; is the counter's owner checked (R135)? -/
  | arrive (k : Nat) (checked : Bool)
  /-- The cluster barrier's phase moves past the one recorded (R135). -/
  | barrier (k : Nat)
  /-- The watched line is written; the read is then made again (R120). -/
  | watch (r : Req)
  /-- System software's response (R113, R389). -/
  | response
  /-- The drain of `rfpart` for the target partition (R77). -/
  | rfpart (p : Part)
  /-- Departure to a core; PC is where the thread goes on there (R128). -/
  | depart (dest : Nat)
  /-- A copy channel is idle, faulted or cancelled (R234). -/
  | channel (ch : Nat) (words : Nat)
  /-- A pending event of the bound logical process (R310). -/
  | event
  /-- A record is delivered to the task (R289). -/
  | message
  /-- Room in the own send queue (R280). -/
  | sendRoom
  /-- The reply to an offered message (R288). -/
  | sendReply (words : Nat)
  /-- The answer of a spawn (R290). -/
  | spawnReply (d : Nat) (words : Nat)
  /-- The source core's answer to a subscription request (R293). -/
  | subReply (d : Nat) (words : Nat)
  /-- Updates applied at every subscriber (R296). -/
  | subsApplied
  /-- Every update sent to a subscriber entry is applied (R297). -/
  | unsub (entry words : Nat)
  /-- A loom resource held by the task with this key (R187). -/
  | claim (holder : Nat)
  /-- The recall of the task's holdings by the loom of its holding core (R190). -/
  | loomRecall
  /-- The restore of what lies in the task's save area (R190). -/
  | loomRestore
  /-- System software's answer to a fault in the save area of the task with this key (R190). -/
  | saved (owner : Nat)
  /-- The loom has completed the command at this queue position (R199). -/
  | loomCmd (serial : Nat) (words : Nat)
  /-- The granary's reply to an `alloc` into `d`, or to a `free` (R122, R123). -/
  | granary (d : Nat) (size : Nat) (isFree : Bool) (addr : Word) (words : Nat)
  /-- The scratchpad grow is done (R125). -/
  | grow (n words : Nat)
  /-- The writes of a copy withdrawn by `xcan`, or of `xdef`, are acknowledged (R224, R236). -/
  | xcan (owner : Nat) (words : Nat)
  /-- A host returns a line that it owns (R257). -/
  | hostLine (line : Nat)
  /-- A read that the instruction makes through an engine waits, and is made again at the next turn (R250, R255, R257). -/
  | engineRead
  /-- The publication event of `n` granules from `base` (R232). -/
  | publish (priv : Bool) (base n serial words : Nat)
  /-- Room in a DEV queue's ring (R357). -/
  | queueRoom (q : Nat)
  /-- The service core's reply to call n (R399). -/
  | syscall (n : Nat)
  /-- The drain at the end of a task (R355). -/
  | exit
  deriving DecidableEq, Repr

/-- A record of a ring or save buffer (Table 3 of R283); a pad fills the end of a ring (R284). -/
structure MsgRec where
  pad : Bool := false
  size : Nat
  len : Nat
  sender : Word := 0
  data : List Byte := []
  deriving DecidableEq, Repr

/-- A ring or save buffer: its byte counters and its records, oldest first (R284). -/
structure Ring where
  head : Nat := 0
  tail : Nat := 0
  recs : List MsgRec := []
  deriving DecidableEq, Repr

/-- A post that waits in a send queue, or a 32-bit store to the mailbox space (R280). -/
structure PostEntry where
  core : Nat
  index : Nat
  inc : BitVec 32
  /-- A release at system scope: waits until STORECNT of the earlier stores is 0 (R277). -/
  release : Bool
  /-- Earlier stores of the context, by number, whose acknowledgements a release waits for. -/
  after : List Nat := []
  /-- Counted in STORECNT when it was accepted, as a store is (R276). -/
  counted : Bool
  deriving DecidableEq, Repr

/-- An entry of a context's send queue (R280, R313). -/
inductive QEntry where
  | post (p : PostEntry)
  | timed (m : TMsg)
  /-- A `send` or a `spawn`: the destination, the packets still to be sent, and what the last one causes (R16, R280). -/
  | packets (dest n : Nat) (e : Instr)
  deriving DecidableEq, Repr

/-- A task: the content of its context image (R79, Table 6), with the engine state of the other
chapters and its place in the scheduler. -/
structure Task where
  /-- Address of the next instruction (R38, R79). -/
  pc : Word := 0
  /-- Space registers (R19). -/
  s0 : BitVec 16 := 0
  s1 : BitVec 16 := 1
  s2 : BitVec 16 := 0x1000
  s3 : BitVec 16 := 0
  /-- 1 for privileged (R79). -/
  mode : Bool := false
  /-- The partition code of STATUS (R79, R104). -/
  part : Part := .p16
  procid : BitVec 10 := 0
  /-- Instructions still to be annulled (R72). -/
  annul : BitVec 2 := 0
  flags : Word := 0
  skey : Word := 0
  taskidx : Word := 0
  /-- Accepted and unacknowledged stores (R108). -/
  storecnt : Nat := 0
  /-- HOLDER: core and context whose register file may hold dirty lines (R79, R81). -/
  holder : Option (Nat × Nat) := none
  /-- Offset of the image in space 0x0001 (R79). -/
  image : Word := 0
  /-- LIVEG3 to LIVEG0 as one mask (R79). -/
  liveg : BitVec 256 := 0
  livev : BitVec 64 := 0
  vtime : Word := 0
  full : BitVec 256 := BitVec.allOnes 256
  pend : BitVec 256 := 0
  /-- The operand log: entry to register and value, valid entries only (R79). -/
  oplog : Store (BitVec 8 × Word) := []
  logptr : BitVec 3 := 0
  g : Store Word := []
  v : Store Vec := []
  epc : Word := 0
  ecause : Word := 0
  einfo : Word := 0
  /-- BARPH words (R133). -/
  barph : Store (BitVec 16) := []
  /-- The save area's address, with V (R188). -/
  lsave : Word := 0
  /-- Slots, accumulators, HCORE and HV of LHELD (R188). -/
  lheldSlots : BitVec 16 := 0
  lheldAccs : BitVec 4 := 0
  lheldCore : BitVec 8 := 0
  lheldV : Bool := false
  /-- Tensor identifiers held (R188). -/
  theld : BitVec 64 := 0
  /-- Slice progress of an interrupted `mmam`: NEXT, V, and the command's PC (R188, R205). -/
  progNext : BitVec 4 := 0
  progV : Bool := false
  progPc : Word := 0
  /-- The message ring of the context that holds the task (R282, R284). -/
  ring : Ring := {}
  /-- The save buffer with SHEAD and STAIL (R284, R287). -/
  saveBuf : Ring := {}
  /-- MSTAT: the task is not resident; otherwise its core and context (R285). -/
  msgOpen : Bool := false
  rcore : Nat := 0
  rctx : Nat := 0
  /-- Posts and timed messages in the send queue, oldest first (R280). -/
  sendq : List QEntry := []
  /-- The message being offered: endpoint word and record (R288). -/
  sendOut : Option (Word × MsgRec) := none
  /-- The offered message has been refused for space and waits to be offered again (R288). -/
  sendRefused : Bool := false
  /-- The bound logical process: core and slot (R307). -/
  tlp : Option (Nat × Nat) := none
  /-- Address of the event in progress, its presence in E (R307). -/
  evaddr : Word := 0
  inEvent : Bool := false
  /-- The task waits in `tnext`, or runs it again on resumption (R310, R320). -/
  atTnext : Bool := false
  /-- The group's cluster, for a member (R346). -/
  group : Option Nat := none
  /-- Launch number; 0 for none (R348). -/
  launch : Nat := 0
  ls : Bool := false
  /-- The graph node the task works for, by address, if any (R364). -/
  node : Option Word := none
  /-- The task belongs to a bounded entry (R344). -/
  bounded : Bool := false
  /-- A pre-empted task waits for system software's response, which names the context where it parked (R389). -/
  waits : Bool := false
  waitUnit : Nat := 0
  /-- System software has terminated the task (R389). -/
  killed : Bool := false
  /-- Cycle of the first instruction, for COST (R343). -/
  started : Option Nat := none
  tokHeld : Nat := 0
  tokReq : Nat := 0
  /-- Pinned lines (R121). -/
  pins : List Nat := []
  /-- Unacknowledged subscription updates (R294, R296). -/
  subUnacked : Nat := 0
  /-- The task's number in the order of task arrivals (R114). -/
  tid : Nat := 0
  /-- Lines of the image, of those that hold general and vector registers, which no register file holds (R81). -/
  absent : List Nat := []
  /-- Of these, the lines that hold free values when they come, since a program has stored to the image (R82). -/
  wild : List Nat := []
  /-- The reserved context of a task of a bounded entry: core, and distance from its highest context (R341, R359). -/
  home : Option (Nat × Nat) := none
  /-- FWD of the shuttle (Table 9 of R129). -/
  fwd : Nat := 0
  /-- The offset of the element of the shuttle spill area that holds the shuttle's record (R130). -/
  spillAt : Option Nat := none
  /-- A data error of a split load or store to be delivered at the next issue (R115, R420). -/
  pendingError : Option (BitVec 16 × Word) := none
  /-- The trap class of that error: 6, or 4 where the access met a scratchpad whose allocation had been released (R126). -/
  pendingClass : Nat := 6
  /-- Registers and vectors whose stored copy has an uncorrected parity error (R391). -/
  badRegs : List Nat := []
  badVecs : List Nat := []
  /-- The time of `Core.sread` that the task has left a core with, for the core that it arrives at (R248, R269). -/
  saw : Nat := 0
  deriving DecidableEq, Repr

/-- A context of a core (R69 to R72). -/
structure Context where
  state : CtxState := .free
  /-- STATUS.PARKWHY (R71). -/
  parkwhy : Nat := 0
  wait : Wait := .none
  /-- LAST: the cycle of the latest issue; none after a task arrives (R72, R104). -/
  last : Option Nat := none
  /-- The state before a gang stop, and whether the park was met during it (R394, R395). -/
  prior : CtxState := .free
  met : Bool := false
  /-- A pre-emption has been decided and waits for the park (R392). -/
  preempt : Bool := false
  /-- Registers that the instruction in flight has emptied by synchronised reads; they are full again if it
  does not complete (R66, R84). -/
  syn : List Nat := []
  task : Task := {}
  deriving DecidableEq, Repr

/-- A store accepted by the store path and not yet performed (R108, R244). -/
structure Pending where
  ctx : Nat
  tid : Nat
  place : Place
  size : Nat
  value : Nat
  /-- A release store: performed only at its home (R254). -/
  release : Bool
  scope : Nat
  /-- The store's number (R108). -/
  id : Nat
  /-- Selector and effective address of the store, for a data-error trap (R420). -/
  sel : BitVec 16 := 0
  ea : Word := 0
  /-- Sent to the peer package while the link was down: it will be answered with an error (R420). -/
  dead : Bool := false
  deriving DecidableEq, Repr

/-- An acknowledgement on its way to a core (R108, R246): context, task, store number, the write time on the core's die,
and the line written. -/
structure Ack where
  ctx : Nat
  tid : Nat
  id : Nat
  wts : Nat
  line : Option Nat := none
  deriving DecidableEq, Repr

/-- An L1 line under a lease (R244, R245). -/
structure L1Line where
  data : BitVec 512
  wts : Nat
  rts : Nat
  /-- Filled from a visitor copy of the die (R252). -/
  visitor : Bool
  deriving DecidableEq, Repr

/-- A split load in flight (R114); one to register 0 is a prefetch (R121). -/
structure Split where
  ctx : Nat
  tid : Nat
  reg : Nat
  place : Place
  size : Nat
  /-- The number of the next store: earlier stores come before the load, later ones after it (R263). -/
  before : Nat
  /-- Selector and effective address, for a data-error trap (R115). -/
  sel : BitVec 16
  ea : Word
  /-- The cache hint (R109). -/
  hint : Nat := 0
  deriving DecidableEq, Repr

/-- A forwarding entry (R131). -/
structure Forward where
  ctx : Nat
  tid : Nat
  mask : BitVec 256
  dest : Nat
  deriving DecidableEq, Repr

/-- A continuation record (R348). -/
structure Rec where
  code : Word := 0
  frame : Word := 0
  taskidx : BitVec 48 := 0
  grp : Option Nat := none
  mode : Bool := false
  ls : Bool := false
  pin : Bool := false
  launch : Nat := 0
  /-- g4 of the task: JOINP of a forked record, and with g5 the values of a compute node's task (R348, R350). -/
  g4 : Word := 0
  g5 : Word := 0
  node : Option Word := none
  /-- The forking task and its next store number, where accesses issued before the fork were still to be performed (R353). -/
  owner : Option (Nat × Nat) := none
  /-- The record has been in spindle memory (R349). -/
  spilled : Bool := false
  /-- The reference cycle of the `fork` that made the record (R374). -/
  born : Option Nat := none
  deriving DecidableEq, Repr

/-- A scratchpad allocation (R22, R346). -/
structure Alloc where
  base : Nat
  size : Nat
  deriving DecidableEq, Repr

/-- A mailbox counter (R274, R410). -/
structure Counter where
  count : BitVec 32 := 0
  owner : BitVec 10 := 0
  v : Bool := false
  wake : Bool := false
  /-- CIRQ (R415). -/
  target : BitVec 32 := 0
  vector : BitVec 11 := 0
  en : Bool := false
  deriving DecidableEq, Repr

/-- Event counters of a core (R403). -/
structure EvCounter where
  value : Word := 0
  event : Nat := 0
  enable : Bool := false
  deriving DecidableEq, Repr

/-- One creel slot (R185, R195): the tag of Table 6 and the tile's codes, element (i, k) at 64·i + k;
the second slot of a 16-bit tile holds no codes of its own. -/
structure Slot where
  /-- The key of the holding task. -/
  holder : Option Nat := none
  fmt : Nat := 0
  vr : Nat := 0
  vc : Nat := 0
  /-- 0 empty, 1 tile, 2 second slot of a 16-bit tile. -/
  state : Nat := 0
  sb : BitVec 16 := 0
  cb : BitVec 128 := 0
  /-- Byte i is the block exponent of row i. -/
  exp : BitVec 512 := 0
  data : Store (BitVec 16) := []
  deriving DecidableEq, Repr

/-- An accumulator: 64 × 64 FP32 elements, row-major (R185). -/
structure Accum where
  holder : Option Nat := none
  data : Store (BitVec 32) := []
  deriving DecidableEq, Repr

/-- A tensor identifier's entry (R185, R191): its holder and the 64-byte record. -/
structure Tensor where
  holder : Option Nat := none
  data : BitVec 512 := 0
  deriving DecidableEq, Repr

/-- A task's loom save area (Table 3 of R189), with the process and LSAVE it belongs to; a listed
resource is one whose SAVED bit is set. -/
structure Saved where
  procid : Nat
  lsave : Word
  slots : Store Slot := []
  accs : Store Accum := []
  tensors : Store Tensor := []
  deriving DecidableEq, Repr

/-- The loom commands (R199). -/
inductive LoomOp where
  | tld | mma | mmam | acld | acst
  deriving DecidableEq, Repr

/-- A command of the loom command queue (R199, R200). -/
structure LoomCmd where
  serial : Nat
  ctx : Nat
  op : LoomOp
  /-- Resource numbers as the instruction names them. -/
  d : Nat
  a : Nat
  b : Nat
  sel : BitVec 16
  ea : Word
  /-- Acquire (`tld`, `acld`) or release (`acst`), with its scope. -/
  ord : Bool
  scope : Nat
  /-- `acst`: destination format (0 f32, 1 bf16, 2 f16), rounding mode, saturation. -/
  ty : Nat
  rnd : Nat
  sat : Bool
  words : Nat
  started : Bool := false
  /-- `mmam`: the next slice; `acst`: how many of its writes are made. -/
  next : Nat := 0
  /-- The accesses checked when the loader started the command (R198, R208, R209). -/
  accs : List Acc := []
  deriving DecidableEq, Repr

/-- A copy channel's registers (Table 1 of R217). -/
structure Channel where
  procid : Nat := 0
  v : Bool := false
  pin : Bool := false
  /-- Table 2 of R218. -/
  state : Nat := 0
  cause : Nat := 0
  tindex : Nat := 0
  done : BitVec 32 := 0
  /-- CSCOPE of the last completed copy (R234). -/
  cscope : Nat := 0
  deriving DecidableEq, Repr

/-- A copy command, queued or running, resolved from its template and argument (R221, R228). -/
structure Copy where
  serial : Nat
  ch : Nat
  procid : Nat
  tindex : Nat
  ssel : BitVec 16
  dsel : BitVec 16
  shadow : Bool
  post : Bool
  token : Bool
  cscope : Nat
  src : Word
  dst : Word
  rowbytes : Nat
  rows : Nat
  sstride : Word
  dstride : Word
  mbox : Word
  minc : BitVec 32
  node : Word
  /-- The graph node whose copy this is: launch and node address (R227). -/
  walker : Option (Nat × Word) := none
  /-- Stores that the issuing context had accepted and that are not yet acknowledged (R229). -/
  after : List Nat := []
  /-- The guard: [lo, hi) of the core SRAM, with its watermark; lo = hi for none (R230). -/
  lo : Nat := 0
  hi : Nat := 0
  wm : Nat := 0
  running : Bool := false
  /-- The running copy waits on a recoverable fault (R240). -/
  tfault : Bool := false
  /-- Bytes written so far, in row order. -/
  pos : Nat := 0
  deriving DecidableEq, Repr

/-! ### Streams and subscriptions (01 R17, 11 R280 to R299) -/

/-- A send stream of a core (R17): its destination, the next sequence number, and how many packets are
unacknowledged. -/
structure Stream where
  dest : Nat
  seq : Nat := 0
  unacked : Nat := 0
  deriving DecidableEq, Repr

/-- A packet on a streamed network (R16, R17), with the event that its release causes. -/
structure Packet where
  net : Nat
  src : Nat
  stream : Nat
  seq : Nat
  dest : Nat
  release : Instr
  /-- Other packets of the message follow: the last one causes the event (R16). -/
  part : Bool := false
  deriving DecidableEq, Repr

/-- A subscriber entry (Table 6 of R292). -/
structure Subscriber where
  /-- 0 ACTIVE, 1 PARKED, 2 ENDED. -/
  state : Nat
  procid : Nat
  loff : Nat
  len : Nat
  score : Nat
  sent : Nat
  /-- Updates sent to the entry and not yet applied (R297). -/
  onWay : Nat := 0
  /-- Lines of the region's copy that are still to be applied (R293). -/
  copyLeft : Nat := 0
  deriving DecidableEq, Repr

/-- A line of a coalescing buffer: line offset in the region, bytes, mask (R292), and the contexts whose
writes it holds, for R295. -/
structure CoLine where
  off : Nat
  data : BitVec 512
  mask : BitVec 64
  writers : List Nat
  deriving DecidableEq, Repr

/-- A source entry (Table 6 of R292). -/
structure Source where
  procid : Nat
  soff : Nat
  len : Nat
  /-- Subscribers: core and subscriber entry. -/
  subs : List (Nat × Nat)
  buf : List CoLine := []
  deriving DecidableEq, Repr

/-- The halt record of a core (R395). -/
structure HaltRec where
  stopcyc : Nat
  cause : Nat
  origin : Nat
  isOrigin : Bool
  procid : Nat
  msent : Word
  mrecv : Word
  states : Word
  einfo : Word
  deriving DecidableEq, Repr

/-! ### Logical processes (12 R303 to R326) -/

/-- A key: receive time, sender core, serial number (R308). -/
structure Key where
  time : Word
  core : Nat
  serial : Nat
  deriving DecidableEq, Repr

/-- An input-queue entry (Table 4 of R308): STATE 1 pending, 2 in progress, 3 processed. -/
structure TEntry where
  index : Nat
  key : Key
  slot : Nat
  payload : Word
  state : Nat
  deriving DecidableEq, Repr

/-- An output-log entry (Table 5 of R309). -/
structure TOut where
  index : Nat
  rtime : Word
  core : Nat
  slot : Nat
  serial : Nat
  event : Nat
  payload : Word
  deriving DecidableEq, Repr

/-- An undo-log entry: the event, the window-relative line, its former contents (R309). -/
structure TUndo where
  index : Nat
  event : Nat
  loff : Nat
  data : BitVec 512
  deriving DecidableEq, Repr

/-- An action (R309, Table 7). -/
structure TAct where
  index : Nat
  kind : Nat
  event : Nat
  addr : Word
  value : Word
  time : Word
  /-- The key of the queuing event. -/
  key : Key
  deriving DecidableEq, Repr

/-- A slot that holds a logical process (Table 2 of R307). -/
structure Lp where
  procid : Nat
  /-- The bound task's number and image. -/
  tid : Nat
  image : Word
  /-- Descriptor copy (R304): window, bases, capacities, and where it was read. -/
  woff : Nat
  wlen : Nat
  iqbase : Word
  olbase : Word
  ulbase : Word
  iabase : Word
  iqcap : Nat
  olcap : Nat
  ulcap : Nat
  iacap : Nat
  sel : BitVec 16
  off : Word
  /-- VTIME at the binding, and LVT. -/
  bound : Word
  lvt : Key
  inev : Bool := false
  evidx : Nat := 0
  /-- Stragglers (true) and anti-messages (false) that arrived during the event, in order (R318). -/
  defer : List (Bool × Key) := []
  /-- Rollbacks (true: to a key, exclusive) and annihilations still to be performed, in order (R316, R317). -/
  work : List (Bool × Key) := []
  rolls : BitVec 32 := 0
  inputs : List TEntry := []
  outputs : List TOut := []
  undos : List TUndo := []
  actions : List TAct := []
  /-- Messages and anti-messages sent for the process and not yet entered or discarded: receive time, serial number, whether it is an
  anti-message (R320). -/
  inTransit : List (Word × Nat × Bool) := []
  /-- The slot waits for system software after an engine access faulted (R438). -/
  waiting : Bool := false
  /-- What faulted was an action, not an area access (R389). -/
  actionFault : Bool := false
  /-- The logical process has ended, and its ROLLS store waits (R306, R438). -/
  ending : Bool := false
  /-- The first of the work is a rollback that has begun (R316). -/
  rolling : Bool := false
  /-- The action that is being performed: the number of its store, post or call, 0 for none; and the index of its entry (R321). -/
  acting : Nat := 0
  actIdx : Nat := 0
  deriving DecidableEq, Repr

/-! ### Core -/

/-- A cached translation: one leaf (R437). -/
structure Trans where
  procid : Nat
  /-- Space 0x0001. -/
  priv : Bool
  /-- The page's first offset and log2 of its size. -/
  base : Nat
  log2 : Nat
  /-- The page's address: a device physical address if `dpa`, else a host physical address. -/
  pa : Nat
  dpa : Bool
  r : Bool
  w : Bool
  x : Bool
  p : Bool
  deriving DecidableEq, Repr

/-- A core: what its contexts share (R69 to R77, R108, R125, R244, R403). -/
structure Core where
  /-- The partition in force (R76). -/
  part : Part := .p16
  /-- The drain for `rfpart` (R77). -/
  drain : Bool := false
  /-- Event counters 0 to 15 (R403). -/
  evs : Store EvCounter := []
  /-- WAYMASK: CUR, REQ, PENDING (R125). -/
  wayCur : Nat := 4
  wayReq : Nat := 4
  wayPending : Bool := false
  /-- LCLK (R245). -/
  lclk : Nat := 0
  /-- The largest write time on the die when a context of the core last read bytes that carry no time of the die: of a scratchpad, a
  counter, or a line homed on another die (R265). -/
  sread : Nat := 0
  /-- The core's translation cache, at most 256 leaves (R35, R437). -/
  tlb : List Trans := []
  /-- The contention predictor: for each of 64 entries, whether an atomic is sent to the core (R118). -/
  predict : BitVec 64 := 0
  /-- L1 lines by line number, PA / 64 (R244). -/
  l1 : Store L1Line := []
  /-- Instruction-cache lines by line number (R100, R244). -/
  icache : Store L1Line := []
  /-- Accepted stores, oldest first (R108, R244). -/
  wbuf : List Pending := []
  /-- Writes performed whose acknowledgements are on their way (R108, R246); task 0 is an engine of the core. -/
  acks : List Ack := []
  /-- Split loads in flight, oldest first (R114). -/
  splits : List Split := []
  /-- Forwarding entries (R131). -/
  forwards : Store Forward := []
  /-- Shuttles in the migration inbound queue and spilled, in arrival order (R130). -/
  inbound : List Task := []
  /-- Pre-empted tasks held on the core, oldest first, with the cycle of pre-emption (R359). -/
  held : List (Nat × Task) := []
  /-- Spindles by process, the bottom record first (R349). -/
  spindles : Store (List Rec) := []
  /-- Scratchpad allocations by process (R22). -/
  allocs : Store Alloc := []
  /-- TOP of each spindle; BOT is as many records further (R349). -/
  tops : Store Nat := []
  /-- Roots placed on the core that its full spindle of their process has no room for yet, lowest first (R345, R349). -/
  roots : Store (List Rec) := []
  /-- Contexts reserved for bounded queues: the distance of each from the highest number, and its queue (R341). -/
  reserved : Store Nat := []
  /-- The contexts, numbered so too, that the entries already taken in of a queue's earlier records still have (R331). -/
  claims : List (Nat × Nat) := []
  /-- Identifiers of accepted stores that are not yet acknowledged: context, task, number (R108). -/
  unacked : List (Nat × Nat × Nat) := []
  /-- The number of the next accepted store. -/
  storeSerial : Nat := 0
  /-- Contexts of the vector long-operation queue, oldest first (R159). -/
  vlongs : List Nat := []
  /-- Creel slots, accumulators, tensor identifiers (R185). -/
  slots : Store Slot := []
  accs : Store Accum := []
  tensors : Store Tensor := []
  /-- The loom command queue, head first (R199). -/
  loomq : List LoomCmd := []
  /-- Copy channels, and the commands queued and running in order of entry (R217, R220). -/
  chans : Store Channel := []
  copies : List Copy := []
  /-- Mailbox counters m0 to m63 (R274). -/
  counters : Store Counter := []
  /-- Send streams: network × 16 + stream (R17). -/
  streams : Store Stream := []
  /-- Packets that wait for a stream, oldest first: network, destination, release event, and whether others of their message
  follow (R16, R280). -/
  waiting : List (Nat × Nat × Instr × Bool) := []
  /-- Reorder buffers: expected sequence number by (network × 256 + source) × 16 + stream, and the
  packets held out of order (R17). -/
  expected : Store Nat := []
  reorder : List Packet := []
  /-- Packets sent on networks 2, 3 and 5, and released here, since reset (R395). -/
  msent : Word := 0
  mrecv : Word := 0
  halt : Option HaltRec := none
  /-- Subscription tables (R292). -/
  subscribers : Store Subscriber := []
  sources : Store Source := []
  /-- Logical-process slots 0 to 3 (R303, R307). -/
  lps : Store Lp := []
  /-- TSERIAL (R307). -/
  tserial : Nat := 0
  /-- Anti-messages whose positives have not left their send queue yet: each follows its positive (R317). -/
  antis : List TMsg := []
  /-- Timed messages refused for space or by a waiting slot, in order; offered again (R315). -/
  refused : List (Bool × TMsg) := []
  deriving DecidableEq, Repr

/-! ### Die -/

/-- A line at a home slice (R245, R257). -/
structure HomeLine where
  wts : Nat := 0
  rts : Nat := 0
  /-- Package state: 0 I, 1 S, 2 E, 3 O, 4 M (Table 4 of R257). -/
  pkg : Nat := 0
  deriving DecidableEq, Repr

/-- A visitor copy (R254). -/
structure Visitor where
  data : BitVec 512
  wts : Nat
  rts : Nat
  /-- Bytes of outbound writes not yet acknowledged. -/
  pending : BitVec 64 := 0
  /-- Bytes to be taken from the home at the next read. -/
  stale : BitVec 64 := 0
  /-- CYCLE of the installation. -/
  born : Nat
  deriving DecidableEq, Repr

/-- An outbound write on its way to its home (R255). -/
structure Outbound where
  core : Nat
  ctx : Nat
  tid : Nat
  id : Nat
  pa : Nat
  size : Nat
  value : Nat
  stamp : List Nat
  epoch : Nat
  /-- A release at device or system scope: the die's copy takes it with the acknowledgement (R254). -/
  release : Bool := false
  /-- Bytes that the copy still takes from a release: none that a later write or reply has brought up to date. -/
  live : BitVec 64 := BitVec.allOnes 64
  /-- The engine command that wrote, of a core's engine; 0 for a context's store. -/
  owner : Nat := 0
  /-- Applied at its home, its acknowledgement on the way. -/
  applied : Bool := false
  deriving DecidableEq, Repr

/-- A write by an engine of a core that a clock wrap holds (R250): the engine command or the context that it is made for, and the
bytes. -/
structure HeldWrite where
  core : Nat
  owner : Nat := 0
  ctx : Nat := 0
  tid : Nat := 0
  pa : Nat
  size : Nat
  value : Nat
  deriving DecidableEq, Repr

/-- A write queued at a home slice (R258): the line, who writes, the store's number, none for an atomic, and the reference cycle of its
arrival. -/
structure SliceWrite where
  line : Nat
  core : Nat
  ctx : Nat
  tid : Nat
  id : Option Nat
  cycle : Nat
  deriving DecidableEq, Repr

/-- A cluster barrier counter (R133). -/
structure Barrier where
  /-- The process of the owning group; the group is the process's live group on the cluster. -/
  owner : Option Nat := none
  p : Nat := 0
  count : Nat := 0
  phase : BitVec 15 := 0
  deriving DecidableEq, Repr

/-- A die's service core (R398): the integer registers and the pc of RV64IMAC, the word that a load-reserved holds, and the ninth barrier
counter of its cluster. Its 256 KiB of private SRAM lie in `State.mem`. -/
structure Service where
  pc : Word := 0
  x : Store Word := []
  reserved : Option Word := none
  barrier : Barrier := {}
  deriving DecidableEq, Repr

/-- A compute die. -/
structure Die where
  /-- CYCLE (R34), and by how much it has been set forward at the ends of thermal holds (R430). -/
  cycle : Nat := 0
  skipped : Nat := 0
  /-- Full-rate cycles since reset, which time the refresh windows (R36). -/
  real : Nat := 0
  xwts : Nat := 0
  dwts : Nat := 0
  /-- VISMAX by slice (R245). -/
  vismax : Store Nat := []
  /-- Lines homed on the die, by line number. -/
  home : Store HomeLine := []
  /-- Visitor copies, by line number. -/
  visitors : Store Visitor := []
  /-- VCLK and DONEEP (R255), one entry for each die. -/
  vclk : Store Nat := []
  doneep : Store Nat := []
  /-- Outbound writes of the die not yet applied, oldest first. -/
  outbound : List Outbound := []
  /-- The die's translation cache, at most 16,384 leaves, and its walks in flight, at most 512: core, process, whether the
  space is 0x0001, offset (R35, R437). -/
  tlb : List Trans := []
  walks : List (Nat × Nat × Bool × Nat) := []
  /-- Clock wrap: new requests are held (R250). -/
  wrapHold : Bool := false
  /-- Writes by engines of the die's cores that a clock wrap holds, oldest first (R250). -/
  heldWrites : List HeldWrite := []
  /-- Writes queued at the die's slices until the package has taken the line from the hosts, in order of arrival (R258). -/
  sliceq : List SliceWrite := []
  /-- TVEC, DEBUG, HDOM (R382). -/
  tvec : Word := 0
  dbg : Word := 0
  hdom : Word := 0
  /-- The preferred process (R358). -/
  preferred : Nat := 0
  /-- The weight-store gate is open (R237). -/
  gateOpen : Bool := false
  /-- The front-end starts no task on the die (R369). -/
  noStarts : Bool := false
  /-- Granary free lists: process × 16 + class to block offsets (R122). -/
  granary : Store (List Nat) := []
  /-- The limit of heavy-unit tokens and the requests in order of arrival, by task number (R370). -/
  limit : Nat := 40
  tokQueue : List Nat := []
  /-- Thermal hold: held, and the phase of the halved clock (R430). -/
  hold : Bool := false
  halfTick : Bool := false
  /-- The die's hottest sensor in °C, and for how many reference cycles every sensor has read below 95 °C (R430). -/
  temp : Nat := 0
  cool : Nat := 0
  /-- Calls waiting for the service core, in order of arrival, and the call being run (R398). -/
  calls : List (Nat × Nat × Nat) := []
  running : Option (Nat × Nat × Nat) := none
  svc : Service := {}
  deriving DecidableEq, Repr

/-- A live group of a process on a cluster (R22, R346). -/
structure Group where
  /-- Tasks and records of the group. -/
  tasks : Nat
  /-- Allocation size in bytes on each core. -/
  size : Nat
  /-- The allocations are in their backing images (R347). -/
  swapped : Bool := false
  /-- Position in the cluster to the backing image of the allocation there, while swapped out (R347). -/
  backing : Store Word := []
  /-- The group has ended; its allocations wait for copies to finish (R355). -/
  ended : Bool := false
  deriving DecidableEq, Repr

/-! ### I/O die and package -/

/-- A fault record (R387). -/
structure FaultRec where
  kind : Nat
  cls : Nat := 0
  cause : Nat := 0
  w : Bool := false
  x : Bool := false
  pmode : Bool := false
  procid : Nat := 0
  core : Nat := 0
  unit : Nat := 0
  pc : Word := 0
  info : Word := 0
  sel : BitVec 16 := 0
  image : Word := 0
  deriving DecidableEq, Repr

/-- A pool of a process descriptor (R329). -/
structure Pool where
  base : Word := 0
  count : Nat := 0
  /-- Elements in use, by address. -/
  used : List Nat := []
  deriving DecidableEq, Repr

/-- A process descriptor taken in (R329). -/
structure Process where
  valid : Bool := false
  sroot : Word := 0
  proot : Word := 0
  pools : Store Pool := []
  /-- Live granary blocks: offset to class (R122). -/
  blocks : Store Nat := []
  /-- Shadow frames by space and granule: priv × 2^64 + offset to frame address (R231). -/
  shadows : Store Nat := []
  /-- Frames returned to the shadow pool by publications (R232), by address. -/
  frames : List Nat := []
  /-- Pools reported empty, by number (R350). -/
  reported : List Nat := []
  deriving DecidableEq, Repr

/-- Queue states of Table 4 (R332). -/
inductive QState where
  | idle | active | stalled | error | disabled
  deriving DecidableEq, Repr

/-- A queue (R331, R332). -/
structure Queue where
  state : QState := .disabled
  cause : Nat := 0
  rdidx : BitVec 32 := 0
  wridx : BitVec 32 := 0
  erridx : BitVec 32 := 0
  dev : Bool := false
  mode : Bool := false
  cls : Nat := 0
  log2 : Nat := 4
  procid : Nat := 0
  resv : Nat := 0
  base : Word := 0
  period : Nat := 0
  budget : Nat := 0
  cmask : BitVec 256 := 0
  /-- Header polls so far, and the reference cycle before which the header is not read again (R335). -/
  polls : Nat := 0
  pollAt : Nat := 0
  /-- Bounded class: cycle of the QSYNC, budget left in the period, and whether the oldest unadmitted
  entry has been written DEFERRED (R342). -/
  since : Nat := 0
  remaining : Nat := 0
  deferred : Bool := false
  deriving DecidableEq, Repr

/-- An accepted queue entry with its launch (R333, R337, R338). -/
structure Entry where
  /-- The entry's place in the acceptance order. -/
  id : Nat
  queue : Nat
  index : BitVec 32
  procid : Nat
  mode : Bool
  cls : Nat
  kind : Nat
  grp : Bool
  ls : Bool
  cm : Bool
  place : Nat
  cost : Nat
  code : Word
  frame : Word
  spread : Nat
  tokpt : Nat
  target : Nat
  alloc : Nat
  graph : Word
  compl : Word
  skey : Word
  /-- Ranges: base, length, written (R338). -/
  ranges : List (Nat × Nat × Bool)
  /-- 0 waiting; otherwise its launch number. -/
  launch : Nat := 0
  /-- Tasks, records and spawned descendants still counted (R337). -/
  live : Nat := 0
  /-- Roots not yet placed: the next index of a bounded entry (R343). -/
  nextRoot : Nat := 0
  faulted : Bool := false
  rejected : Bool := false
  late : Bool := false
  /-- Period number at admission (R343). -/
  admitted : Option Nat := none
  /-- A weight graph waits for its dies (R369). -/
  gateWait : Bool := false
  /-- A WEIGHT entry that has stopped the starting of tasks on its dies (R369). -/
  gates : Bool := false
  deriving DecidableEq, Repr

/-- One atomic access that a walker still owes for an event of a node: one add to STATUS (R360), a token to a node (R363), the visit of
a node of a cone (R367), the start of the node's work (R362), the end of its record here. -/
inductive GraphOp
  | status (plus minus : Nat)
  | token (idx : Nat)
  | visit (idx : Nat)
  | start
  | drop
  deriving DecidableEq, Repr

/-- Live tasks of a graph node (R364). -/
structure NodeWork where
  launch : Nat
  addr : Word
  index : Nat
  procid : Nat
  live : Nat
  faulted : Bool := false
  /-- The node fires again once its tasks have ended (R366). -/
  retry : Bool := false
  /-- What its walker still performs for the last change of NCTL, in order (R360 to R367). -/
  todo : List GraphOp := []
  deriving DecidableEq, Repr

/-- The boot configuration of R435. -/
structure Boot where
  /-- POINT: extended power point (R4). -/
  point : Bool := false
  part : Part := .p16
  port : Bool := false
  side : Bool := false
  memGib : Nat := 128
  deriving DecidableEq, Repr

/-- A link reduction command held by a channel (R424, R426): its number on the channel, its address, and how it
has ended: 0 not yet, otherwise STATUS's CODE and CAUSE; the elements that overflowed. -/
structure LrCmd where
  index : Nat
  addr : Word
  code : Nat := 0
  cause : Nat := 0
  ovf : Nat := 0
  /-- Its record of 64 bytes, once the engine has read it (R424). -/
  record : Nat := 0
  /-- Steps of the completion performed: publication, STATUS (R427). -/
  stage : Nat := 0
  deriving DecidableEq, Repr

/-- A link reduction channel (R424 to R427). -/
structure LrChan where
  procid : Nat := 0
  v : Bool := false
  cmds : List LrCmd := []
  /-- Commands started on the channel so far (R426). -/
  started : Nat := 0
  deriving DecidableEq, Repr

/-- A PAMAP entry (R406). -/
structure Pamap where
  hbase : Nat := 0
  size : Nat := 0
  dbase : Nat := 0
  deriving DecidableEq, Repr


/-- The I/O die and what belongs to the package as a whole. -/
structure Package where
  /-- Reference cycles since the start (R429). -/
  refCycle : Nat := 0
  /-- Front-end registers (R330). -/
  pdbase : Word := 0
  qtbase : Word := 0
  quantum : Nat := 28000
  procs : Store Process := []
  queues : Store Queue := []
  /-- Accepted entries not yet complete, in acceptance order (R338). -/
  entries : List Entry := []
  nextLaunch : Nat := 1
  nodes : List NodeWork := []
  /-- The queue whose turn comes next (R335). -/
  queueTurn : Nat := 0
  /-- Fault queue (R386). -/
  fqbase : Word := 0
  fqlog2 : Nat := 8
  fqhead : BitVec 32 := 0
  fqtail : BitVec 32 := 0
  fqvec : BitVec 16 := 0
  fqlost : BitVec 32 := 0
  xrespa : Word := 0
  records : List FaultRec := []
  /-- The translation cache of the I/O die, for agents that belong to no die (R28, R437). -/
  trans : List Trans := []
  /-- Halt domains that are stopped (R393). -/
  halted : BitVec 8 := 0
  /-- Tasks that held the erroneous state of a stop with cause 4, by number (R396). -/
  badTasks : List Nat := []
  /-- Lines of memory whose bytes have an uncorrectable error (R113, R211). -/
  badLines : List Nat := []
  /-- LEASE and its timer (R411). -/
  epoch : BitVec 32 := 0
  port : Bool := false
  expired : Bool := false
  leaseTimer : Nat := 1200000
  leaseTo : Nat := 1200000
  leaseBad : Word := 0
  stbyDrop : Word := 0
  /-- Interrupt tables (R413). -/
  ivtbase0 : Word := 0
  ivtbase1 : Word := 0
  ivtcount : Nat := 0
  idrop : Word := 0
  /-- Interrupts sent: port, address, data (R413). -/
  sent : List (Bool × Word × BitVec 32) := []
  /-- Peer link (R416). -/
  linkUp : Bool := false
  plerr : Word := 0
  pamap : Store Pamap := []
  /-- Link reduction channels (R426). -/
  lr : Store LrChan := []
  /-- Remap table: a visible page of 4 KiB to the page that backs it; a granule has 16 entries (R423) (DESIGN CHOICE, safe, log entry 7). -/
  remap : Store Nat := []
  /-- System cache: peer lines held, with the cycle of the fetch and the data (R260). -/
  peerLines : Store (Nat × BitVec 512) := []
  /-- Host states of lines: line × 2 + port to 1 S, 2 E, 3 O, 4 M (R257). -/
  hostLines : Store Nat := []
  /-- Back-invalidations outstanding: line × 2 + port (R258). -/
  backInv : List Nat := []
  /-- Lines whose data a host has been asked for, for a read: line × 2 + port (R257). -/
  snoops : List Nat := []
  /-- ARBEPOCH and THOLDS (R431). -/
  arbEpoch : Nat := 0
  tholds : Word := 0
  /-- BOOTSTAT (R433). -/
  phase : Nat := 6
  bootErr : Nat := 0
  boot : Boot := {}
  /-- The identity's public key, readable at I/O-die offsets 0x940 to 0x99F (R436). -/
  idKey : BitVec 768 := 0
  /-- The device secret and the identity's private key, which stay in the boot controller and in service-core firmware (R436). -/
  secret : BitVec 256 := 0
  idPriv : BitVec 384 := 0
  /-- Cluster barrier counters: cluster × 8 + k (R133). -/
  barriers : Store Barrier := []
  /-- Live groups: process × 64 + cluster (R22). -/
  groups : Store Group := []
  /-- Loom save areas by task key (R189). -/
  saves : Store Saved := []
  /-- The number of the next engine command. -/
  serial : Nat := 0
  /-- Register-space base of each port, by its CXL.io configuration (R407). -/
  regBase : Store Nat := []
  /-- Packets in flight on the streamed networks (R17), by number. -/
  packets : Store Packet := []
  nextPacket : Nat := 0
  /-- Shuttles on their way: the task, the destination core, and the carried LCLK with its die (R128, R248). -/
  shuttles : List (Task × Nat × Nat × Nat) := []
  /-- GVT by process; all ones when nothing is bound (R320). -/
  gvt : Store Word := []
  /-- Processes whose computation is under way (R320, R322). -/
  gvtRun : List Nat := []
  deriving DecidableEq, Repr

/-! ### The whole state -/

/-- What the next step performs. -/
inductive Phase where
  /-- An event of the agenda, or the issue turn of the core `turn`. -/
  | event
  /-- The instruction that the issue turn chose, of the context `cur`. -/
  | run
  deriving DecidableEq, Repr

/-- Reasons a step stops: none. Every trap, fault and stop of this hardware that the spec describes is a
next state (R380 to R397), and no instruction is without an effect. -/
inductive Fault where
  deriving DecidableEq, Repr

/-- Reasons for which the model gives an instruction no meaning. -/
inductive Refusal where
  /-- Raised by `exec` for a row that has no meaning yet. Safe. -/
  | notModelled (mnemonic : String)
  deriving DecidableEq, Repr

/-- The state of the machine. -/
structure State where
  /-- Contexts: core × 16 + context; an absent one is as after reset. -/
  ctxs : Store Context := []
  cores : Store Core := []
  dies : Store Die := []
  pkg : Package := {}
  /-- One memory: device physical addresses below 2^48, core SRAM at 2^48 + core × 2^21, weight stores
  at 2^49 + die × 2^31, service cores' SRAM at 2^50 + die × 2^18. A byte that is not listed reads 0. -/
  mem : List Host.Cell := []
  /-- The context whose instruction is executed, as in `ctxs`. -/
  cur : Nat := 0
  /-- Word 0 of the instruction being executed. -/
  ir : IWord := 0
  /-- The core whose issue turn comes next. -/
  turn : Nat := 0
  phase : Phase := .event
  /-- Contexts passed over in the turn before the one chosen (R72). -/
  passed : Nat := 0
  /-- The turn goes on after the context `passed` (R72). -/
  resume : Bool := false
  /-- LAST of the context chosen, and the cycle of its task's first instruction, before this turn. -/
  before : Option Nat × Option Nat := (none, none)
  /-- Events to be performed, oldest first: the engines' own, and what the outside does. -/
  agenda : List Instr := []
  /-- How many free values have been taken. -/
  free : Nat := 0
  /-- The number of the next task to arrive in a context. -/
  nextTid : Nat := 1
  deriving DecidableEq, Repr

/-- The machine right after reset (R433, READY): every context FREE, CYCLE 0, no memory written (DESIGN CHOICE, unsafe, log entry 1). -/
def State.reset : State := {}

end Sys2Proof.Machine
end

