-- ==== Sys2Proof/Machine/Ops.lean ====
section
/-! DEFINITION. The named operations over the state: reading and writing contexts, cores, dies and
registers; free values; the agenda; parking; taking a trap (R383) and a recoverable fault (R113);
and how an instruction ends. -/

namespace Sys2Proof.Machine

/-! ### Partitions -/

/-- Contexts of a partition (Table 5 of R76). -/
def Part.contexts : Part → Nat
  | .p16 => 16 | .p8 => 8 | .p4 => 4

/-- The `rfpart` code (R76). -/
def Part.code : Part → Nat
  | .p16 => 0 | .p8 => 1 | .p4 => 2

/-- The partition of a code. -/
def Part.ofCode (n : Nat) : Part := if n = 0 then .p16 else if n = 1 then .p8 else .p4

/-- General registers of a partition (Table 7 of R48). -/
def Part.gCount : Part → Nat
  | .p16 => 64 | .p8 => 128 | .p4 => 256

/-- Vector registers of a partition (Table 7 of R48). -/
def Part.vCount : Part → Nat
  | .p16 => 16 | .p8 => 32 | .p4 => 64

/-- Size of a context image (R76). -/
def Part.imageSize : Part → Nat
  | .p16 => 4096 | .p8 => 8192 | .p4 => 16384

/-! ### Contexts, cores, dies -/

/-- The key of a context: core × 16 + context. -/
def ctxKey (core ctx : Nat) : Nat := core * 16 + ctx

/-- A context by key. -/
def State.ctxAt (s : State) (k : Nat) : Context := s.ctxs.get k {}

/-- The state with a context replaced. -/
def State.setCtxAt (s : State) (k : Nat) (x : Context) : State := { s with ctxs := s.ctxs.put k x }

/-- A core; one never touched is as after reset, in the configured partition (R433). -/
def State.coreAt (s : State) (c : Nat) : Core := s.cores.get c { part := s.pkg.boot.part }

/-- The state with a core replaced. -/
def State.setCoreAt (s : State) (c : Nat) (x : Core) : State := { s with cores := s.cores.put c x }

/-- B of R370 at the configured power point. -/
def Boot.budget (b : Boot) : Nat := if b.point then 256 else 160

/-- A die; one never touched is as after reset: VCLK[d] = 1 (R255), L = B / 4 (R370). -/
def State.dieAt (s : State) (d : Nat) : Die :=
  s.dies.get d { vclk := [(d, 1)], limit := s.pkg.boot.budget / 4 }

/-- The state with a die replaced. -/
def State.setDieAt (s : State) (d : Nat) (x : Die) : State := { s with dies := s.dies.put d x }

/-- The state with the package record replaced. -/
def State.setPkg (s : State) (x : Package) : State := { s with pkg := x }

/-- The core of the context being executed. -/
def State.curCore (s : State) : Nat := s.cur / 16

/-- The context number being executed. -/
def State.curCtx (s : State) : Nat := s.cur % 16

/-- The die of a core (R12). -/
def dieOf (core : Nat) : Nat := core / 64

/-- Mesh column of a core (R12). -/
def coreX (core : Nat) : Nat := core % 8

/-- Mesh row of a core (R12). -/
def coreY (core : Nat) : Nat := core / 8 % 8

/-- The package-wide cluster number, die × 16 + cluster index (R12). -/
def clusterOf (core : Nat) : Nat := dieOf core * 16 + coreY core / 2 * 4 + coreX core / 2

/-- Position within the cluster (R12). -/
def positionOf (core : Nat) : Nat := coreY core % 2 * 2 + coreX core % 2

/-- The core at a position of a cluster (R12). -/
def coreOf (cluster pos : Nat) : Nat :=
  cluster / 16 * 64 + (cluster % 16 / 4 * 2 + pos / 2) * 8 + (cluster % 4 * 2 + pos % 2)

/-- The context being executed. -/
def State.me (s : State) : Context := s.ctxAt s.cur

/-- The state with the executing context replaced. -/
def State.setMe (s : State) (x : Context) : State := s.setCtxAt s.cur x

/-- The task being executed. -/
def State.task (s : State) : Task := s.me.task

/-- The state with the executing task replaced. -/
def State.setTask (s : State) (t : Task) : State := s.setMe { s.me with task := t }

/-- The state with the task in context `k` replaced. -/
def State.setTaskAt (s : State) (k : Nat) (t : Task) : State := s.setCtxAt k { s.ctxAt k with task := t }

/-- The partition of the executing core. -/
def State.part (s : State) : Part := (s.coreAt s.curCore).part

/-- CYCLE of the executing core's die (R34). -/
def State.cycle (s : State) : Nat := (s.dieAt (dieOf s.curCore)).cycle

/-- The cycles that a die has lived through: what a distance in cycles counts (R430). -/
def Die.elapsed (d : Die) : Nat := d.cycle - d.skipped

/-- The halt domain of a core (R382, R393). -/
def State.domainOf (s : State) (core : Nat) : Nat := ((s.dieAt (dieOf core)).hdom >>> (3 * (clusterOf core % 16))).toNat % 8

/-- Is the core's halt domain stopped? -/
def State.coreHalted (s : State) (core : Nat) : Bool := s.pkg.halted.getLsbD (s.domainOf core)

/-! ### Registers -/

/-- What names a task: its image and process. -/
def Task.key (t : Task) : Nat := t.image.toNat * 1024 + t.procid.toNat

/-- One bit of a 256-bit mask. -/
def bit256 (r : Nat) : BitVec 256 := 1#256 <<< r

/-- A general register; g0 reads as zero (R47). -/
def Task.gr (t : Task) (r : Nat) : Word := if r = 0 then 0 else t.g.get r 0

/-- Is a register full? g0 is always full (R83). -/
def Task.isFull (t : Task) (r : Nat) : Bool := r = 0 || t.full.getLsbD r

/-- Is a split load to the register outstanding (R83)? -/
def Task.isPend (t : Task) (r : Nat) : Bool := r ≠ 0 && t.pend.getLsbD r

/-- A write of a general register: the value, its full bit (R83), and the operand log (R79). A write
to g0 is discarded (R47). -/
def Task.setG (t : Task) (r : Nat) (v : Word) : Task :=
  if r = 0 then t
  else { t with g := t.g.set r v 0, full := t.full ||| bit256 r,
                oplog := t.oplog.put t.logptr.toNat (BitVec.ofNat 8 r, v), logptr := t.logptr + 1,
                badRegs := t.badRegs.filter (· ≠ r) }

/-- The full bits with a list of registers cleared (R84). -/
def Task.clearFull (t : Task) (rs : List Nat) : Task :=
  { t with full := rs.foldl (fun m r => m &&& ~~~bit256 r) t.full }

/-- A vector register (R156). -/
def Task.vr (t : Task) (r : Nat) : Vec := t.v.get r 0

/-- A write of a vector register. -/
def Task.setV (t : Task) (r : Nat) (x : Vec) : Task := { t with v := t.v.set r x 0, badVecs := t.badVecs.filter (· ≠ r) }

/-- A general register of the executing task. -/
def State.g (s : State) (r : Nat) : Word := s.task.gr r

/-- A vector register of the executing task. -/
def State.vreg (s : State) (r : Nat) : Vec := s.task.vr r

/-- Writes a general register of the executing task. -/
def State.setG (s : State) (r : Nat) (v : Word) : State := s.setTask (s.task.setG r v)

/-- Writes a vector register of the executing task. -/
def State.setV (s : State) (r : Nat) (v : Vec) : State := s.setTask (s.task.setV r v)

/-- Space register `n` (R19). -/
def Task.space (t : Task) (n : Nat) : BitVec 16 :=
  if n = 0 then t.s0 else if n = 1 then t.s1 else if n = 2 then t.s2 else t.s3

/-- PC moved past an instruction of `n` words (R66). -/
def State.advance (s : State) (n : Nat) : State := s.setTask { s.task with pc := s.task.pc + BitVec.ofNat 64 (4 * n) }

/-- ORs flags into FLAGS (R153). -/
def State.mergeFlags (s : State) (f : Word) : State := s.setTask { s.task with flags := s.task.flags ||| f }

/-! ### Free values, agenda, counters -/

/-- Takes a free number below `n` (0 when `n` is 0) (DESIGN CHOICE, unsafe, log entry 2). -/
def State.pick (s : State) (n : Nat) : Nat × State := (Config.freeNat s.free % n, { s with free := s.free + 1 })

/-- Takes a free word (DESIGN CHOICE, unsafe, log entry 2). -/
def State.freshWord (s : State) : Word × State := (Config.freeWord s.free, { s with free := s.free + 1 })

/-- Adds an event to be performed after those already there. -/
def State.push (s : State) (e : Instr) : State := { s with agenda := s.agenda ++ [e] }

/-- Adds an event unless it is there already. -/
def State.pushOnce (s : State) (e : Instr) : State := if e ∈ s.agenda then s else { s with agenda := s.agenda ++ [e] }

/-- An event that must be performed again before any later one of its stream. -/
def State.pushFront (s : State) (e : Instr) : State := { s with agenda := e :: s.agenda }

/-- The core number of an event's argument. -/
def coreId (c : Nat) : CoreId := BitVec.ofNat 8 c

/-- The context number of an event's argument. -/
def ctxId (c : Nat) : CtxId := BitVec.ofNat 4 c

/-- The die number of an event's argument. -/
def dieId (d : Nat) : DieId := BitVec.ofNat 2 d

/-- Adds `n` to every enabled counter of the core that counts `ev` (R403, Table 11). -/
def Core.bump (c : Core) (ev n : Nat) : Core :=
  { c with evs := c.evs.map fun x => (x.1, if x.2.enable && x.2.event = ev then { x.2 with value := x.2.value + BitVec.ofNat 64 n } else x.2) }

/-- Counts an event on a core. -/
def State.bump (s : State) (core ev n : Nat) : State := s.setCoreAt core ((s.coreAt core).bump ev n)

/-! ### Records, parks, traps -/

/-- A record for the fault queue waits to be written (R386). Of records of KIND 8 at most 64 wait; any
beyond are dropped and counted in FQLOST (DEDUCED, unsafe, log entry 26). -/
def State.report (s : State) (r : FaultRec) : State :=
  if r.kind = 8 ∧ 64 ≤ (s.pkg.records.filter fun x => x.kind = 8).length then
    s.setPkg { s.pkg with fqlost := s.pkg.fqlost + 1 }
  else (s.setPkg { s.pkg with records := s.pkg.records ++ [r] }).push .faultRecordWrite

/-- A record of KIND 1 is raised, and counted on its core (R403). -/
def State.reportMiss (s : State) (r : FaultRec) : State := (s.bump r.core 11 1).report r

/-- The context parks, PC unchanged (R71); in a stopped domain it is parked when the domain restarts
(R394). -/
def State.park (s : State) (why : Nat) (w : Wait) : State :=
  if s.me.state = .stopped then s.setMe { s.me with prior := .parked, met := false, parkwhy := why, wait := w }
  else s.setMe { s.me with state := .parked, parkwhy := why, wait := w }

/-- A memory instruction whose request is accepted, or that has nothing to wait for: it parks, and completes in the cycle after
its issue (R74, R107). -/
def State.accepted (s : State) (words : Nat) : State := s.park 1 (.accepted words)

/-- A context is made READY, its park over (R71): what the instruction emptied stays empty (R84). -/
def Context.wake (x : Context) : Context := { x with state := .ready, parkwhy := 0, wait := .none, syn := [] }

/-- A park's reason is satisfied: the context becomes READY; in a stopped domain it is marked met
(R71, R394). -/
def Context.satisfy (x : Context) : Context :=
  match x.state with
  | .parked => x.wake
  | .stopped => if x.prior = .parked then { x with met := true, parkwhy := 0, wait := .none, syn := [] } else x
  | _ => x

/-- The part of a fault record that names the executing context (R387). -/
def State.ownRecord (s : State) (kind : Nat) : FaultRec :=
  { kind, pmode := s.task.mode, procid := s.task.procid.toNat, core := s.curCore, unit := s.curCtx
    pc := s.task.pc, image := s.task.image }

/-- ECAUSE of a trap (Table 2 of R381). -/
def ecauseOf (cls cause : Nat) (mode : Bool) (sel : BitVec 16) : Word :=
  (sel.zeroExtend 64 <<< 32) ||| ((BitVec.ofBool mode).zeroExtend 64 <<< 16) |||
    (BitVec.ofNat 64 (cause % 256) <<< 8) ||| BitVec.ofNat 64 (cls % 256)

/-- The handler's address of TVEC: ADDR || 0b00 (R382, R383). -/
def tvecTarget (tvec : Word) : Word := tvec &&& 0x01FFFFFFFFFFFFFC#64

/-- Takes a trap (R383): EPC, ECAUSE and EINFO are written; a trap from user mode with TVEC.V set on
the core's die enters the handler in privileged mode; any other is reported and parks the context. -/
def State.trap (s : State) (cls cause : Nat) (sel : BitVec 16) (info : Word) : State :=
  let t := s.task
  let s := s.setTask { t with epc := t.pc &&& ~~~3#64, ecause := ecauseOf cls cause t.mode sel, einfo := info }
  let die := s.dieAt (dieOf s.curCore)
  if t.mode = false ∧ die.tvec.getLsbD 0 then
    s.setTask { s.task with mode := true, pc := tvecTarget die.tvec }
  else
    (s.report { s.ownRecord 2 with cls, cause, info, sel }).park 8 .response

/-- Raises a recoverable fault of the executing context (R113, R390): one record of KIND 1, and the
context parks with PARKWHY 8; the instruction has changed nothing. -/
def State.recoverable (s : State) (sel : BitVec 16) (off : Word) (w x : Bool) : State :=
  (s.reportMiss { s.ownRecord 1 with w, x, info := off, sel }).park 8 .response

/-! ### How an instruction ends -/

/-- Why an instruction does not go through; none of these changes architectural state (R66). -/
inductive Stop where
  /-- A precise trap: class, engine cause, selector, EINFO (R380). -/
  | trap (cls cause : Nat) (sel : BitVec 16) (info : Word)
  /-- The context parks and the instruction issues again from its start. -/
  | retry (why : Nat) (w : Wait)
  /-- A recoverable fault at a selector and offset (R113). -/
  | miss (sel : BitVec 16) (off : Word) (w x : Bool)
  /-- The thread migrates to a core; the access issues first there (R106, R127). -/
  | migrate (dest : Nat)
  /-- The task's loom holdings are recalled from another core, or restored from its save area, first
  (R190). -/
  | recall
  | restore
  /-- A save-area access faults: the record for the area's owner, and the holder waited for (R190). -/
  | saveFault (r : FaultRec) (holder : Nat)
  /-- An access of the slot's engine to its areas faults (R438): core, slot, offset. -/
  | slotFault (core slot : Nat) (off : Word)
  deriving DecidableEq, Repr

/-- What an instruction computes: the state after it, or why it does not go through. -/
abbrev Result := Except Stop State

/-- Asks for a condition, or stops. -/
def require (p : Bool) (e : Stop) (k : Result) : Result := if p then k else .error e

/-- The illegal-instruction trap at decode (R65): EINFO is word 0. -/
def State.illegal (s : State) : Stop := .trap 1 0 0 (s.ir.zeroExtend 64)

/-- The privilege trap (R63, R64): EINFO is word 0. -/
def State.privilege (s : State) : Stop := .trap 2 0 0 (s.ir.zeroExtend 64)

/-- The state of a line at a port: 0 I, 1 S, 2 E, 3 O, 4 M (R257). -/
def State.hostState (s : State) (line : Nat) (port : Bool) : Nat := s.pkg.hostLines.get (line * 2 + port.toNat) 0

/-- The state with a line's state at a port replaced. -/
def State.setHostState (s : State) (line : Nat) (port : Bool) (v : Nat) : State :=
  s.setPkg { s.pkg with hostLines := s.pkg.hostLines.set (line * 2 + port.toNat) v 0 }

/-- Does a host hold the line? -/
def State.hostHolds (s : State) (line : Nat) : Bool := s.hostState line false ≠ 0 || s.hostState line true ≠ 0

/-- Does a host hold the line in E or M, so that its data must come from there? -/
def State.hostOwns (s : State) (line : Nat) : Bool :=
  [false, true].any fun p => s.hostState line p = 2 || s.hostState line p = 4

/-- A host that holds a line in E or M is asked for its data, for a read: the state with the snoops sent (R257) (DEDUCED, unsafe, log entry 11). -/
def State.askHost (s : State) (line : Nat) : State :=
  [false, true].foldl (fun s p =>
    let key := line * 2 + p.toNat
    if (s.hostState line p = 2 ∨ s.hostState line p = 4) ∧ key ∉ s.pkg.snoops then
      s.setPkg { s.pkg with snoops := s.pkg.snoops ++ [key] }
    else s) s

/-- What a retry's park asks for: a holder that parks in a claim wait counts as not present for other processes (R187), so that
their claims are decided again; the host that owns a line is asked for its data (R257). -/
def State.noteWait (s : State) (w : Wait) : State :=
  match w with
  | .claim _ | .saved _ | .loomRestore => if s.task.lheldV then s.push (.loomClaimRetry s.curCore s.task.key) else s
  | .hostLine l => s.askHost l
  | _ => s

/-- A slot's engine meets an absent translation or a lacking permission (R438): a record of KIND 6, and the
slot waits for system software. -/
def State.slotFaulted (s : State) (core slot : Nat) (off : Word) (sel : BitVec 16 := 1) (w : Bool := true) : State :=
  let c := s.coreAt core
  match c.lps.find slot with
  | none => s
  | some lp =>
    (s.setCoreAt core { c with lps := c.lps.put slot { lp with waiting := true } }).report
      { kind := 6, w, procid := lp.procid, core, unit := slot, info := off, sel }

/-- The state after an instruction: its effect, or its stop applied to the state before it, so that
every trap is precise (R66). -/
def State.settle (s : State) : Result → State
  | .ok s' => s'
  | .error (.trap cls cause sel info) => s.trap cls cause sel info
  | .error (.retry why w) => (s.park why w).noteWait w
  | .error (.miss sel off w x) => s.recoverable sel off w x
  | .error (.migrate dest) => (s.park 10 (.depart dest)).push (.shuttleDepart (coreId s.curCore) (ctxId s.curCtx))
  | .error (.saveFault r h) => ((s.reportMiss r).park 3 (.saved h)).noteWait (.saved h)
  | .error (.slotFault c k off) => (s.slotFaulted c k off).park 1 .slotFree
  | .error .recall => (s.park 3 .loomRecall).push (.loomRecallDone (coreId s.curCore) (ctxId s.curCtx))
  | .error .restore => ((s.park 3 .loomRestore).noteWait .loomRestore).push (.loomRestoreDone (coreId s.curCore) (ctxId s.curCtx))

/-- The registers named lie within the partition (R48). -/
def Part.holds (p : Part) (gs vs : List Nat) : Bool :=
  gs.all (· < p.gCount) && vs.all (· < p.vCount)

/-- The synchronised-read rule of R84 on the registers read synchronised. -/
def syncRule (t : Task) (syn : List Nat) : Option Stop :=
  let empty := syn.filter fun r => !t.isFull r
  match empty.find? fun r => !t.isPend r with
  | some r => some (.trap 5 0 0 (BitVec.ofNat 64 r))
  | none => if empty.isEmpty then none else some (.retry 5 (.full syn))

/-- The registers of the synchronised reads become empty (R84). -/
def State.empty (s : State) (syn : List Nat) : State :=
  if syn.isEmpty then s else s.setMe { s.me with syn, task := s.task.clearFull syn }

/-- The instruction in flight does not complete: what it emptied is full again, so that it is precise (R66) (DEDUCED, unsafe, log entry 6). -/
def State.refull (s : State) : State :=
  s.setMe { s.me with syn := [], task := { s.task with full := s.me.syn.foldl (fun m r => m ||| bit256 r) s.task.full } }

/-- The instruction in flight of the executing context ends in a stop after its park (DEDUCED, unsafe, log entry 6). -/
def State.late (s : State) (e : Stop) : State := (s.refull.setMe s.refull.me.satisfy).settle (.error e)

/-- The instruction in flight parks to be issued again from its start, with the state that it has reached (DEDUCED, unsafe, log entry 6). -/
def State.again (s : State) (why : Nat) (w : Wait) : Result := .ok (s.refull.park why w)

/-- The instruction in flight does not take the turn, which goes on to the next context (R72): the context has not
issued. -/
def State.passOn (s : State) : State :=
  match s.phase with
  | .event => s
  | .run => { s.setMe { s.me with last := s.before.1, task := { s.task with started := s.before.2 } } with phase := .event, resume := true }

/-- The newest entry of the operand log for a register (R391). -/
def Task.logged (t : Task) (r : Nat) : Option Word :=
  (List.range 8).findSome? fun i => match t.oplog.find ((t.logptr.toNat + 7 - i) % 8) with
    | some (q, v) => if q.toNat = r then some v else none
    | none => none

/-- A register's stored copy is repaired: nothing but the value changes (R391). -/
def Task.repair (t : Task) (r : Nat) (v : Word) : Task := { t with g := t.g.set r v 0, badRegs := t.badRegs.filter (· ≠ r) }

/-- Parity errors in the registers that an instruction reads (R391): repaired from the operand log, or a trap (DESIGN CHOICE, unsafe, log entry 10). -/
def State.parity (s : State) (gs vs : List Nat) (k : State → State) : State :=
  let bad := gs.eraseDups.filter fun r => r ≠ 0 && r ∈ s.task.badRegs
  match bad.find? fun r => (s.task.logged r).isNone with
  | some r => s.trap 7 0 0 (BitVec.ofNat 64 r)
  | none =>
    let s := bad.foldl (fun s r => (s.setTask (s.task.repair r ((s.task.logged r).getD 0))).bump s.curCore 6 1) s
    match vs.find? fun r => r ∈ s.task.badVecs with
    | some r => s.trap 7 0 0 (BitVec.ofNat 64 (0x100 + r))
    | none => k s

/-- The register lines, of 8 words of the image, that hold the registers named (R79, R81). -/
def Part.linesOf (p : Part) (gs vs : List Nat) : List Nat :=
  gs.map (fun r => 8 + r / 8) ++ vs.flatMap fun r => [8 + p.gCount / 8 + 2 * r, 9 + p.gCount / 8 + 2 * r]

/-- The lines of the registers named that the register file does not hold (R81). -/
def Task.missing (t : Task) (gs vs : List Nat) : List Nat :=
  if t.absent.isEmpty then [] else (t.part.linesOf gs vs).filter (· ∈ t.absent)

/-- The fills of register lines start, the context parks, and the turn goes on (R72, R81). -/
def State.missLines (s : State) (ls : List Nat) : State :=
  ((s.park 4 (.lines ls)).push (.fillArrive (coreId s.curCore) (ctxId s.curCtx))).passOn

/-- An instruction that reads the registers `gs` and `vs` and writes `wr` and `vwr` besides: the partition check of R48,
the privilege check of R64, the register lines it names (R81), the engine queue that may hold it (R72), parity (R391), and behind a
repair the synchronised-read rule of R84 (R404), then its effect `k` on the state with the synchronised registers empty. -/
def State.instr (s : State) (gs vs syn : List Nat) (priv : Bool) (k : State → Result) (wr vwr : List Nat := [])
    (held : Bool := false) : State :=
  if !s.part.holds (gs ++ wr) (vs ++ vwr) then s.settle (.error s.illegal)
  else if priv && !s.task.mode then s.settle (.error s.privilege)
  else if !(s.task.missing (gs ++ wr) (vs ++ vwr)).isEmpty then s.missLines (s.task.missing (gs ++ wr) (vs ++ vwr))
  else if held then s.passOn
  else s.parity gs vs fun s => match syncRule s.task syn with
    | some e => (s.settle (.error e)).passOn
    | none => s.settle (k (s.empty syn))

/-- Runs an operation in the context `k`: what an engine does for a context is written as what the
context does. -/
def State.within (s : State) (k : Nat) (f : State → State) : State :=
  let old := s.cur
  let t := f { s with cur := k }
  { t with cur := old }

/-- A park's reason is satisfied in the executing context. -/
def State.wakeMe (s : State) : State := s.setMe s.me.satisfy

/-- Refused between `tnext` and `tdone` (R311): timed fault, cause 9 (DEDUCED, unsafe, log entry 32). -/
def State.notTimed (s : State) (k : Result) : Result := if s.task.inEvent then .error (.trap 12 9 0 0) else k

/-- A state as the outcome of a meaning. -/
def done (s : State) : Host.Outcome State Fault Refusal := .next s

end Sys2Proof.Machine
end

