-- ==== Sys2Proof/Machine/Scalar.lean ====
section
/-! DEFINITION. The scalar instructions of 03_core_issue, Tables 7 to 13: three-operand, word, bit-field
and set-on-compare, one-operand, immediate, constants, divides, full bits, compare and skip. -/

namespace Sys2Proof.Machine

/-- A three-operand operation (R89, R91, R92): D = f(A, B), in an instruction of `n` words. -/
def alu3 (f : Word → Word → Word) (n d a b : Nat) (syn : List Nat) (s : State) : State :=
  s.instr [a, b] [] syn false (wr := [d]) fun s => .ok ((s.setG d (f (s.g a) (s.g b))).advance n)

/-- A one-operand operation (R93): D = f(A). -/
def alu1 (f : Word → Word) (n d a : Nat) (syn : List Nat) (s : State) : State :=
  s.instr [a] [] syn false (wr := [d]) fun s => .ok ((s.setG d (f (s.g a))).advance n)

/-- An immediate operation (R94): D = f(A, imm). -/
def aluImm (f : Word → Word → Word) (n d a : Nat) (imm : Word) (syn : List Nat) (s : State) : State :=
  s.instr [a] [] syn false (wr := [d]) fun s => .ok ((s.setG d (f (s.g a) imm)).advance n)

/-- A division (R90): the context parks with PARKWHY 2 until the divide unit writes D. -/
def divide (f : Word → Word → Word) (n d a b : Nat) (syn : List Nat) (s : State) : State :=
  s.instr [a, b] [] syn false (wr := [d]) fun s =>
    .ok ((s.park 2 (.divide d (f (s.g a) (s.g b)) n)).push (.divideDone (coreId s.curCore) (ctxId s.curCtx)))

/-- `bins`, which also reads D (R92). -/
def insertField (n d a b : Nat) (syn : List Nat) (s : State) : State :=
  s.instr [d, a, b] [] syn false fun s => .ok ((s.setG d (bins (s.g d) (s.g a) (s.g b))).advance n)

/-- `add` (R89). -/
def execAdd (d a b : BitVec 7) (s : State) : Host.Outcome State Fault Refusal :=
  done (alu3 (· + ·) 1 d.toNat a.toNat b.toNat [] s)

/-- `add` (R89). -/
def execAddX (e : Ext) (s : State) : Host.Outcome State Fault Refusal :=
  done (alu3 (· + ·) e.words e.d.toNat e.a.toNat e.b.toNat e.syn s)

/-- `sub` (R89). -/
def execSub (d a b : BitVec 7) (s : State) : Host.Outcome State Fault Refusal :=
  done (alu3 (· - ·) 1 d.toNat a.toNat b.toNat [] s)

/-- `sub` (R89). -/
def execSubX (e : Ext) (s : State) : Host.Outcome State Fault Refusal :=
  done (alu3 (· - ·) e.words e.d.toNat e.a.toNat e.b.toNat e.syn s)

/-- `mul` (R89). -/
def execMul (d a b : BitVec 7) (s : State) : Host.Outcome State Fault Refusal :=
  done (alu3 (· * ·) 1 d.toNat a.toNat b.toNat [] s)

/-- `mul` (R89). -/
def execMulX (e : Ext) (s : State) : Host.Outcome State Fault Refusal :=
  done (alu3 (· * ·) e.words e.d.toNat e.a.toNat e.b.toNat e.syn s)

/-- `mulh` (R89). -/
def execMulh (d a b : BitVec 7) (s : State) : Host.Outcome State Fault Refusal :=
  done (alu3 mulHigh 1 d.toNat a.toNat b.toNat [] s)

/-- `mulh` (R89). -/
def execMulhX (e : Ext) (s : State) : Host.Outcome State Fault Refusal :=
  done (alu3 mulHigh e.words e.d.toNat e.a.toNat e.b.toNat e.syn s)

/-- `mulhu` (R89). -/
def execMulhu (d a b : BitVec 7) (s : State) : Host.Outcome State Fault Refusal :=
  done (alu3 mulHighU 1 d.toNat a.toNat b.toNat [] s)

/-- `mulhu` (R89). -/
def execMulhuX (e : Ext) (s : State) : Host.Outcome State Fault Refusal :=
  done (alu3 mulHighU e.words e.d.toNat e.a.toNat e.b.toNat e.syn s)

/-- `div` (R90). -/
def execDiv (d a b : BitVec 7) (s : State) : Host.Outcome State Fault Refusal :=
  done (divide divS 1 d.toNat a.toNat b.toNat [] s)

/-- `div` (R90). -/
def execDivX (e : Ext) (s : State) : Host.Outcome State Fault Refusal :=
  done (divide divS e.words e.d.toNat e.a.toNat e.b.toNat e.syn s)

/-- `divu` (R90). -/
def execDivu (d a b : BitVec 7) (s : State) : Host.Outcome State Fault Refusal :=
  done (divide divU 1 d.toNat a.toNat b.toNat [] s)

/-- `divu` (R90). -/
def execDivuX (e : Ext) (s : State) : Host.Outcome State Fault Refusal :=
  done (divide divU e.words e.d.toNat e.a.toNat e.b.toNat e.syn s)

/-- `rem` (R90). -/
def execRem (d a b : BitVec 7) (s : State) : Host.Outcome State Fault Refusal :=
  done (divide remS 1 d.toNat a.toNat b.toNat [] s)

/-- `rem` (R90). -/
def execRemX (e : Ext) (s : State) : Host.Outcome State Fault Refusal :=
  done (divide remS e.words e.d.toNat e.a.toNat e.b.toNat e.syn s)

/-- `remu` (R90). -/
def execRemu (d a b : BitVec 7) (s : State) : Host.Outcome State Fault Refusal :=
  done (divide remU 1 d.toNat a.toNat b.toNat [] s)

/-- `remu` (R90). -/
def execRemuX (e : Ext) (s : State) : Host.Outcome State Fault Refusal :=
  done (divide remU e.words e.d.toNat e.a.toNat e.b.toNat e.syn s)

/-- `and` (R89). -/
def execAnd (d a b : BitVec 7) (s : State) : Host.Outcome State Fault Refusal :=
  done (alu3 (· &&& ·) 1 d.toNat a.toNat b.toNat [] s)

/-- `and` (R89). -/
def execAndX (e : Ext) (s : State) : Host.Outcome State Fault Refusal :=
  done (alu3 (· &&& ·) e.words e.d.toNat e.a.toNat e.b.toNat e.syn s)

/-- `or` (R89). -/
def execOr (d a b : BitVec 7) (s : State) : Host.Outcome State Fault Refusal :=
  done (alu3 (· ||| ·) 1 d.toNat a.toNat b.toNat [] s)

/-- `or` (R89). -/
def execOrX (e : Ext) (s : State) : Host.Outcome State Fault Refusal :=
  done (alu3 (· ||| ·) e.words e.d.toNat e.a.toNat e.b.toNat e.syn s)

/-- `xor` (R89). -/
def execXor (d a b : BitVec 7) (s : State) : Host.Outcome State Fault Refusal :=
  done (alu3 (· ^^^ ·) 1 d.toNat a.toNat b.toNat [] s)

/-- `xor` (R89). -/
def execXorX (e : Ext) (s : State) : Host.Outcome State Fault Refusal :=
  done (alu3 (· ^^^ ·) e.words e.d.toNat e.a.toNat e.b.toNat e.syn s)

/-- `andn` (R89). -/
def execAndn (d a b : BitVec 7) (s : State) : Host.Outcome State Fault Refusal :=
  done (alu3 (fun a b => a &&& ~~~b) 1 d.toNat a.toNat b.toNat [] s)

/-- `andn` (R89). -/
def execAndnX (e : Ext) (s : State) : Host.Outcome State Fault Refusal :=
  done (alu3 (fun a b => a &&& ~~~b) e.words e.d.toNat e.a.toNat e.b.toNat e.syn s)

/-- `orn` (R89). -/
def execOrn (d a b : BitVec 7) (s : State) : Host.Outcome State Fault Refusal :=
  done (alu3 (fun a b => a ||| ~~~b) 1 d.toNat a.toNat b.toNat [] s)

/-- `orn` (R89). -/
def execOrnX (e : Ext) (s : State) : Host.Outcome State Fault Refusal :=
  done (alu3 (fun a b => a ||| ~~~b) e.words e.d.toNat e.a.toNat e.b.toNat e.syn s)

/-- `shl` (R89). -/
def execShl (d a b : BitVec 7) (s : State) : Host.Outcome State Fault Refusal :=
  done (alu3 shl 1 d.toNat a.toNat b.toNat [] s)

/-- `shl` (R89). -/
def execShlX (e : Ext) (s : State) : Host.Outcome State Fault Refusal :=
  done (alu3 shl e.words e.d.toNat e.a.toNat e.b.toNat e.syn s)

/-- `shr` (R89). -/
def execShr (d a b : BitVec 7) (s : State) : Host.Outcome State Fault Refusal :=
  done (alu3 shr 1 d.toNat a.toNat b.toNat [] s)

/-- `shr` (R89). -/
def execShrX (e : Ext) (s : State) : Host.Outcome State Fault Refusal :=
  done (alu3 shr e.words e.d.toNat e.a.toNat e.b.toNat e.syn s)

/-- `sra` (R89). -/
def execSra (d a b : BitVec 7) (s : State) : Host.Outcome State Fault Refusal :=
  done (alu3 sra 1 d.toNat a.toNat b.toNat [] s)

/-- `sra` (R89). -/
def execSraX (e : Ext) (s : State) : Host.Outcome State Fault Refusal :=
  done (alu3 sra e.words e.d.toNat e.a.toNat e.b.toNat e.syn s)

/-- `rotl` (R89). -/
def execRotl (d a b : BitVec 7) (s : State) : Host.Outcome State Fault Refusal :=
  done (alu3 rotl 1 d.toNat a.toNat b.toNat [] s)

/-- `rotl` (R89). -/
def execRotlX (e : Ext) (s : State) : Host.Outcome State Fault Refusal :=
  done (alu3 rotl e.words e.d.toNat e.a.toNat e.b.toNat e.syn s)

/-- `min` (R89). -/
def execMin (d a b : BitVec 7) (s : State) : Host.Outcome State Fault Refusal :=
  done (alu3 minS 1 d.toNat a.toNat b.toNat [] s)

/-- `min` (R89). -/
def execMinX (e : Ext) (s : State) : Host.Outcome State Fault Refusal :=
  done (alu3 minS e.words e.d.toNat e.a.toNat e.b.toNat e.syn s)

/-- `max` (R89). -/
def execMax (d a b : BitVec 7) (s : State) : Host.Outcome State Fault Refusal :=
  done (alu3 maxS 1 d.toNat a.toNat b.toNat [] s)

/-- `max` (R89). -/
def execMaxX (e : Ext) (s : State) : Host.Outcome State Fault Refusal :=
  done (alu3 maxS e.words e.d.toNat e.a.toNat e.b.toNat e.syn s)

/-- `minu` (R89). -/
def execMinu (d a b : BitVec 7) (s : State) : Host.Outcome State Fault Refusal :=
  done (alu3 minU 1 d.toNat a.toNat b.toNat [] s)

/-- `minu` (R89). -/
def execMinuX (e : Ext) (s : State) : Host.Outcome State Fault Refusal :=
  done (alu3 minU e.words e.d.toNat e.a.toNat e.b.toNat e.syn s)

/-- `maxu` (R89). -/
def execMaxu (d a b : BitVec 7) (s : State) : Host.Outcome State Fault Refusal :=
  done (alu3 maxU 1 d.toNat a.toNat b.toNat [] s)

/-- `maxu` (R89). -/
def execMaxuX (e : Ext) (s : State) : Host.Outcome State Fault Refusal :=
  done (alu3 maxU e.words e.d.toNat e.a.toNat e.b.toNat e.syn s)

/-- `addw` (R91). -/
def execAddw (d a b : BitVec 7) (s : State) : Host.Outcome State Fault Refusal :=
  done (alu3 (fun a b => sextW (a + b)) 1 d.toNat a.toNat b.toNat [] s)

/-- `addw` (R91). -/
def execAddwX (e : Ext) (s : State) : Host.Outcome State Fault Refusal :=
  done (alu3 (fun a b => sextW (a + b)) e.words e.d.toNat e.a.toNat e.b.toNat e.syn s)

/-- `subw` (R91). -/
def execSubw (d a b : BitVec 7) (s : State) : Host.Outcome State Fault Refusal :=
  done (alu3 (fun a b => sextW (a - b)) 1 d.toNat a.toNat b.toNat [] s)

/-- `subw` (R91). -/
def execSubwX (e : Ext) (s : State) : Host.Outcome State Fault Refusal :=
  done (alu3 (fun a b => sextW (a - b)) e.words e.d.toNat e.a.toNat e.b.toNat e.syn s)

/-- `mulw` (R91). -/
def execMulw (d a b : BitVec 7) (s : State) : Host.Outcome State Fault Refusal :=
  done (alu3 (fun a b => sextW (a * b)) 1 d.toNat a.toNat b.toNat [] s)

/-- `mulw` (R91). -/
def execMulwX (e : Ext) (s : State) : Host.Outcome State Fault Refusal :=
  done (alu3 (fun a b => sextW (a * b)) e.words e.d.toNat e.a.toNat e.b.toNat e.syn s)

/-- `shlw` (R91). -/
def execShlw (d a b : BitVec 7) (s : State) : Host.Outcome State Fault Refusal :=
  done (alu3 shlW 1 d.toNat a.toNat b.toNat [] s)

/-- `shlw` (R91). -/
def execShlwX (e : Ext) (s : State) : Host.Outcome State Fault Refusal :=
  done (alu3 shlW e.words e.d.toNat e.a.toNat e.b.toNat e.syn s)

/-- `shrw` (R91). -/
def execShrw (d a b : BitVec 7) (s : State) : Host.Outcome State Fault Refusal :=
  done (alu3 shrW 1 d.toNat a.toNat b.toNat [] s)

/-- `shrw` (R91). -/
def execShrwX (e : Ext) (s : State) : Host.Outcome State Fault Refusal :=
  done (alu3 shrW e.words e.d.toNat e.a.toNat e.b.toNat e.syn s)

/-- `sraw` (R91). -/
def execSraw (d a b : BitVec 7) (s : State) : Host.Outcome State Fault Refusal :=
  done (alu3 sraW 1 d.toNat a.toNat b.toNat [] s)

/-- `sraw` (R91). -/
def execSrawX (e : Ext) (s : State) : Host.Outcome State Fault Refusal :=
  done (alu3 sraW e.words e.d.toNat e.a.toNat e.b.toNat e.syn s)

/-- `bext` (R92). -/
def execBext (d a b : BitVec 7) (s : State) : Host.Outcome State Fault Refusal :=
  done (alu3 bext 1 d.toNat a.toNat b.toNat [] s)

/-- `bext` (R92). -/
def execBextX (e : Ext) (s : State) : Host.Outcome State Fault Refusal :=
  done (alu3 bext e.words e.d.toNat e.a.toNat e.b.toNat e.syn s)

/-- `bins` (R92). -/
def execBins (d a b : BitVec 7) (s : State) : Host.Outcome State Fault Refusal :=
  done (insertField 1 d.toNat a.toNat b.toNat [] s)

/-- `bins` (R92). -/
def execBinsX (e : Ext) (s : State) : Host.Outcome State Fault Refusal :=
  done (insertField e.words e.d.toNat e.a.toNat e.b.toNat e.syn s)

/-- `bset` (R92). -/
def execBset (d a b : BitVec 7) (s : State) : Host.Outcome State Fault Refusal :=
  done (alu3 bset 1 d.toNat a.toNat b.toNat [] s)

/-- `bset` (R92). -/
def execBsetX (e : Ext) (s : State) : Host.Outcome State Fault Refusal :=
  done (alu3 bset e.words e.d.toNat e.a.toNat e.b.toNat e.syn s)

/-- `bclr` (R92). -/
def execBclr (d a b : BitVec 7) (s : State) : Host.Outcome State Fault Refusal :=
  done (alu3 bclr 1 d.toNat a.toNat b.toNat [] s)

/-- `bclr` (R92). -/
def execBclrX (e : Ext) (s : State) : Host.Outcome State Fault Refusal :=
  done (alu3 bclr e.words e.d.toNat e.a.toNat e.b.toNat e.syn s)

/-- `seq` (R92). -/
def execSeq (d a b : BitVec 7) (s : State) : Host.Outcome State Fault Refusal :=
  done (alu3 (fun a b => ofCond (a = b)) 1 d.toNat a.toNat b.toNat [] s)

/-- `seq` (R92). -/
def execSeqX (e : Ext) (s : State) : Host.Outcome State Fault Refusal :=
  done (alu3 (fun a b => ofCond (a = b)) e.words e.d.toNat e.a.toNat e.b.toNat e.syn s)

/-- `sne` (R92). -/
def execSne (d a b : BitVec 7) (s : State) : Host.Outcome State Fault Refusal :=
  done (alu3 (fun a b => ofCond (a ≠ b)) 1 d.toNat a.toNat b.toNat [] s)

/-- `sne` (R92). -/
def execSneX (e : Ext) (s : State) : Host.Outcome State Fault Refusal :=
  done (alu3 (fun a b => ofCond (a ≠ b)) e.words e.d.toNat e.a.toNat e.b.toNat e.syn s)

/-- `slt` (R92). -/
def execSlt (d a b : BitVec 7) (s : State) : Host.Outcome State Fault Refusal :=
  done (alu3 (fun a b => ofCond (a.toInt < b.toInt)) 1 d.toNat a.toNat b.toNat [] s)

/-- `slt` (R92). -/
def execSltX (e : Ext) (s : State) : Host.Outcome State Fault Refusal :=
  done (alu3 (fun a b => ofCond (a.toInt < b.toInt)) e.words e.d.toNat e.a.toNat e.b.toNat e.syn s)

/-- `sltu` (R92). -/
def execSltu (d a b : BitVec 7) (s : State) : Host.Outcome State Fault Refusal :=
  done (alu3 (fun a b => ofCond (a.toNat < b.toNat)) 1 d.toNat a.toNat b.toNat [] s)

/-- `sltu` (R92). -/
def execSltuX (e : Ext) (s : State) : Host.Outcome State Fault Refusal :=
  done (alu3 (fun a b => ofCond (a.toNat < b.toNat)) e.words e.d.toNat e.a.toNat e.b.toNat e.syn s)

/-- `sle` (R92). -/
def execSle (d a b : BitVec 7) (s : State) : Host.Outcome State Fault Refusal :=
  done (alu3 (fun a b => ofCond (a.toInt ≤ b.toInt)) 1 d.toNat a.toNat b.toNat [] s)

/-- `sle` (R92). -/
def execSleX (e : Ext) (s : State) : Host.Outcome State Fault Refusal :=
  done (alu3 (fun a b => ofCond (a.toInt ≤ b.toInt)) e.words e.d.toNat e.a.toNat e.b.toNat e.syn s)

/-- `sleu` (R92). -/
def execSleu (d a b : BitVec 7) (s : State) : Host.Outcome State Fault Refusal :=
  done (alu3 (fun a b => ofCond (a.toNat ≤ b.toNat)) 1 d.toNat a.toNat b.toNat [] s)

/-- `sleu` (R92). -/
def execSleuX (e : Ext) (s : State) : Host.Outcome State Fault Refusal :=
  done (alu3 (fun a b => ofCond (a.toNat ≤ b.toNat)) e.words e.d.toNat e.a.toNat e.b.toNat e.syn s)

/-- `not` (R93). -/
def execNot (d a : BitVec 7) (s : State) : Host.Outcome State Fault Refusal :=
  done (alu1 (~~~·) 1 d.toNat a.toNat [] s)

/-- `not` (R93). -/
def execNotX (e : Ext) (s : State) : Host.Outcome State Fault Refusal :=
  done (alu1 (~~~·) e.words e.d.toNat e.a.toNat e.syn s)

/-- `neg` (R93). -/
def execNeg (d a : BitVec 7) (s : State) : Host.Outcome State Fault Refusal :=
  done (alu1 (0 - ·) 1 d.toNat a.toNat [] s)

/-- `neg` (R93). -/
def execNegX (e : Ext) (s : State) : Host.Outcome State Fault Refusal :=
  done (alu1 (0 - ·) e.words e.d.toNat e.a.toNat e.syn s)

/-- `clz` (R93). -/
def execClz (d a : BitVec 7) (s : State) : Host.Outcome State Fault Refusal :=
  done (alu1 clz 1 d.toNat a.toNat [] s)

/-- `clz` (R93). -/
def execClzX (e : Ext) (s : State) : Host.Outcome State Fault Refusal :=
  done (alu1 clz e.words e.d.toNat e.a.toNat e.syn s)

/-- `ctz` (R93). -/
def execCtz (d a : BitVec 7) (s : State) : Host.Outcome State Fault Refusal :=
  done (alu1 ctz 1 d.toNat a.toNat [] s)

/-- `ctz` (R93). -/
def execCtzX (e : Ext) (s : State) : Host.Outcome State Fault Refusal :=
  done (alu1 ctz e.words e.d.toNat e.a.toNat e.syn s)

/-- `popc` (R93). -/
def execPopc (d a : BitVec 7) (s : State) : Host.Outcome State Fault Refusal :=
  done (alu1 popc 1 d.toNat a.toNat [] s)

/-- `popc` (R93). -/
def execPopcX (e : Ext) (s : State) : Host.Outcome State Fault Refusal :=
  done (alu1 popc e.words e.d.toNat e.a.toNat e.syn s)

/-- `sextb` (R93). -/
def execSextb (d a : BitVec 7) (s : State) : Host.Outcome State Fault Refusal :=
  done (alu1 (sextLow 8) 1 d.toNat a.toNat [] s)

/-- `sextb` (R93). -/
def execSextbX (e : Ext) (s : State) : Host.Outcome State Fault Refusal :=
  done (alu1 (sextLow 8) e.words e.d.toNat e.a.toNat e.syn s)

/-- `sexth` (R93). -/
def execSexth (d a : BitVec 7) (s : State) : Host.Outcome State Fault Refusal :=
  done (alu1 (sextLow 16) 1 d.toNat a.toNat [] s)

/-- `sexth` (R93). -/
def execSexthX (e : Ext) (s : State) : Host.Outcome State Fault Refusal :=
  done (alu1 (sextLow 16) e.words e.d.toNat e.a.toNat e.syn s)

/-- `sextw` (R93). -/
def execSextw (d a : BitVec 7) (s : State) : Host.Outcome State Fault Refusal :=
  done (alu1 (sextLow 32) 1 d.toNat a.toNat [] s)

/-- `sextw` (R93). -/
def execSextwX (e : Ext) (s : State) : Host.Outcome State Fault Refusal :=
  done (alu1 (sextLow 32) e.words e.d.toNat e.a.toNat e.syn s)

/-- `zextb` (R93). -/
def execZextb (d a : BitVec 7) (s : State) : Host.Outcome State Fault Refusal :=
  done (alu1 (zextLow 8) 1 d.toNat a.toNat [] s)

/-- `zextb` (R93). -/
def execZextbX (e : Ext) (s : State) : Host.Outcome State Fault Refusal :=
  done (alu1 (zextLow 8) e.words e.d.toNat e.a.toNat e.syn s)

/-- `zexth` (R93). -/
def execZexth (d a : BitVec 7) (s : State) : Host.Outcome State Fault Refusal :=
  done (alu1 (zextLow 16) 1 d.toNat a.toNat [] s)

/-- `zexth` (R93). -/
def execZexthX (e : Ext) (s : State) : Host.Outcome State Fault Refusal :=
  done (alu1 (zextLow 16) e.words e.d.toNat e.a.toNat e.syn s)

/-- `zextw` (R93). -/
def execZextw (d a : BitVec 7) (s : State) : Host.Outcome State Fault Refusal :=
  done (alu1 (zextLow 32) 1 d.toNat a.toNat [] s)

/-- `zextw` (R93). -/
def execZextwX (e : Ext) (s : State) : Host.Outcome State Fault Refusal :=
  done (alu1 (zextLow 32) e.words e.d.toNat e.a.toNat e.syn s)

/-- `bswap` (R93). -/
def execBswap (d a : BitVec 7) (s : State) : Host.Outcome State Fault Refusal :=
  done (alu1 bswap 1 d.toNat a.toNat [] s)

/-- `bswap` (R93). -/
def execBswapX (e : Ext) (s : State) : Host.Outcome State Fault Refusal :=
  done (alu1 bswap e.words e.d.toNat e.a.toNat e.syn s)

/-- `addi` (R94). -/
def execAddi (d a i : BitVec 7) (s : State) : Host.Outcome State Fault Refusal :=
  done (aluImm (· + ·) 1 d.toNat a.toNat (i.signExtend 64) [] s)

/-- `addi` (R94). -/
def execAddiX (e : Ext) (s : State) : Host.Outcome State Fault Refusal :=
  done (aluImm (· + ·) e.words e.d.toNat e.a.toNat e.imm.value e.syn s)

/-- `andi` (R94). -/
def execAndi (d a i : BitVec 7) (s : State) : Host.Outcome State Fault Refusal :=
  done (aluImm (· &&& ·) 1 d.toNat a.toNat (i.signExtend 64) [] s)

/-- `andi` (R94). -/
def execAndiX (e : Ext) (s : State) : Host.Outcome State Fault Refusal :=
  done (aluImm (· &&& ·) e.words e.d.toNat e.a.toNat e.imm.value e.syn s)

/-- `ori` (R94). -/
def execOri (d a i : BitVec 7) (s : State) : Host.Outcome State Fault Refusal :=
  done (aluImm (· ||| ·) 1 d.toNat a.toNat (i.signExtend 64) [] s)

/-- `ori` (R94). -/
def execOriX (e : Ext) (s : State) : Host.Outcome State Fault Refusal :=
  done (aluImm (· ||| ·) e.words e.d.toNat e.a.toNat e.imm.value e.syn s)

/-- `xori` (R94). -/
def execXori (d a i : BitVec 7) (s : State) : Host.Outcome State Fault Refusal :=
  done (aluImm (· ^^^ ·) 1 d.toNat a.toNat (i.signExtend 64) [] s)

/-- `xori` (R94). -/
def execXoriX (e : Ext) (s : State) : Host.Outcome State Fault Refusal :=
  done (aluImm (· ^^^ ·) e.words e.d.toNat e.a.toNat e.imm.value e.syn s)

/-- `shli` (R94). -/
def execShli (d a i : BitVec 7) (s : State) : Host.Outcome State Fault Refusal :=
  done (aluImm shl 1 d.toNat a.toNat (i.zeroExtend 64) [] s)

/-- `shli` (R94). -/
def execShliX (e : Ext) (s : State) : Host.Outcome State Fault Refusal :=
  done (aluImm shl e.words e.d.toNat e.a.toNat e.imm.value e.syn s)

/-- `shri` (R94). -/
def execShri (d a i : BitVec 7) (s : State) : Host.Outcome State Fault Refusal :=
  done (aluImm shr 1 d.toNat a.toNat (i.zeroExtend 64) [] s)

/-- `shri` (R94). -/
def execShriX (e : Ext) (s : State) : Host.Outcome State Fault Refusal :=
  done (aluImm shr e.words e.d.toNat e.a.toNat e.imm.value e.syn s)

/-- `srai` (R94). -/
def execSrai (d a i : BitVec 7) (s : State) : Host.Outcome State Fault Refusal :=
  done (aluImm sra 1 d.toNat a.toNat (i.zeroExtend 64) [] s)

/-- `srai` (R94). -/
def execSraiX (e : Ext) (s : State) : Host.Outcome State Fault Refusal :=
  done (aluImm sra e.words e.d.toNat e.a.toNat e.imm.value e.syn s)

/-- `rotli` (R94). -/
def execRotli (d a i : BitVec 7) (s : State) : Host.Outcome State Fault Refusal :=
  done (aluImm rotl 1 d.toNat a.toNat (i.zeroExtend 64) [] s)

/-- `rotli` (R94). -/
def execRotliX (e : Ext) (s : State) : Host.Outcome State Fault Refusal :=
  done (aluImm rotl e.words e.d.toNat e.a.toNat e.imm.value e.syn s)

/-- `muli` (R94). -/
def execMuli (d a i : BitVec 7) (s : State) : Host.Outcome State Fault Refusal :=
  done (aluImm (· * ·) 1 d.toNat a.toNat (i.signExtend 64) [] s)

/-- `muli` (R94). -/
def execMuliX (e : Ext) (s : State) : Host.Outcome State Fault Refusal :=
  done (aluImm (· * ·) e.words e.d.toNat e.a.toNat e.imm.value e.syn s)

/-- Writes a constant, or a value computed from PC, into D (R95). -/
def loadConst (f : Word → Word) (n d : Nat) (s : State) : State :=
  s.instr [] [] [] false (wr := [d]) fun s => .ok ((s.setG d (f s.task.pc)).advance n)

/-- `li` (R95). -/
def execLi (d : BitVec 7) (i : BitVec 14) (s : State) : Host.Outcome State Fault Refusal :=
  done (loadConst (fun _ => i.signExtend 64) 1 d.toNat s)

/-- `li` (R95). -/
def execLiX (e : Ext) (s : State) : Host.Outcome State Fault Refusal :=
  done (loadConst (fun _ => e.imm.value) e.words e.d.toNat s)

/-- `lpc` (R95). -/
def execLpc (d : BitVec 7) (i : BitVec 14) (s : State) : Host.Outcome State Fault Refusal :=
  done (loadConst (fun pc => pc + 4 * i.signExtend 64) 1 d.toNat s)

/-- `lpc` (R95). -/
def execLpcX (e : Ext) (s : State) : Host.Outcome State Fault Refusal :=
  done (loadConst (fun pc => pc + 4 * e.imm.value) e.words e.d.toNat s)

/-- `skp` (R86): when the condition holds on A and B, or on A's full bit, the next K instructions are
annulled. `b` is a register, or `imm` is the immediate. -/
def skip (n cc k a : Nat) (b : Option Nat) (imm : Word) (syn : List Nat) (s : State) : State :=
  s.instr ((if cc < 14 then [a] else []) ++ b.toList) [] syn false (wr := if cc < 14 then [] else [a]) fun s =>
    let y := match b with
      | some r => s.g r
      | none => imm
    let cond : Bool :=
      if cc = 14 then s.task.isFull a else if cc = 15 then !s.task.isFull a else condition cc (s.g a) y
    let s := if cond then s.setTask { s.task with annul := BitVec.ofNat 2 k } else s
    .ok (s.advance n)

/-- `skp` (R86). -/
def execSkp (a b : BitVec 7) (cc : BitVec 4) (k : BitVec 2) (ib : Bool) (s : State) : Host.Outcome State Fault Refusal :=
  done (skip 1 cc.toNat k.toNat a.toNat (if ib then none else some b.toNat) (b.signExtend 64) [] s)

/-- `skp` (R86). -/
def execSkpX (e : Ext) (cc : BitVec 4) (k : BitVec 2) (ib : Bool) (i : BitVec 24) (s : State) : Host.Outcome State Fault Refusal :=
  done (skip e.words cc.toNat k.toNat e.a.toNat (if ib then none else some e.b.toNat) (i.signExtend 64) e.syn s)

/-- `fset` and `fclr` change a full bit and nothing else; g0 stays full (R85). -/
def setFullBit (v : Bool) (n d : Nat) (s : State) : State :=
  s.instr [] [] [] false (wr := [d]) fun s =>
    let t := s.task
    let full := if d = 0 then t.full else if v then t.full ||| bit256 d else t.full &&& ~~~bit256 d
    .ok ((s.setTask { t with full }).advance n)

/-- `fset` (R85). -/
def execFset (d : BitVec 7) (s : State) : Host.Outcome State Fault Refusal :=
  done (setFullBit true 1 d.toNat s)

/-- `fset` (R85). -/
def execFsetX (e : Ext) (s : State) : Host.Outcome State Fault Refusal :=
  done (setFullBit true e.words e.d.toNat s)

/-- `fclr` (R85). -/
def execFclr (d : BitVec 7) (s : State) : Host.Outcome State Fault Refusal :=
  done (setFullBit false 1 d.toNat s)

/-- `fclr` (R85). -/
def execFclrX (e : Ext) (s : State) : Host.Outcome State Fault Refusal :=
  done (setFullBit false e.words e.d.toNat s)

/-- The divide unit writes D, and the context becomes READY (R90). Nothing happens to a context that
waits for no divide. -/
def divideDone (k : Nat) (s : State) : State :=
  let x := s.ctxAt k
  match x.wait with
  | .divide d v n =>
    let t := x.task.setG d v
    s.setCtxAt k { x with task := { t with pc := t.pc + BitVec.ofNat 64 (4 * n) } }.satisfy
  | _ => s

/-- `divide_done` (R90). -/
def execDivideDone (core : CoreId) (ctx : CtxId) (s : State) : Host.Outcome State Fault Refusal :=
  done (divideDone (ctxKey core.toNat ctx.toNat) s)

end Sys2Proof.Machine
end

