-- ==== Sys2Proof/Machine/Operands.lean ====
section
/-! DEFINITION. Operands: effective addresses (R105), the space table (R20), the translation tables
(R437) with PAMAP (R406), the remap table (R423) and the register space (R408), and the checks of R106
in their order. -/

namespace Sys2Proof.Machine

/-! ### Physical addresses (Table 2 of R406) -/

/-- Host memory, through the active host's port. -/
def isHostMem (pa : Nat) : Bool := 0x400000000000 ≤ pa && pa < 0x800000000000

/-- The peer package's LPDDR. -/
def isPeerMem (pa : Nat) : Bool := 0x800000000000 ≤ pa && pa < 0x808000000000

/-- The peer's register space. -/
def isPeerRegs (pa : Nat) : Bool := 0xC00000000000 ≤ pa && pa < 0xC00080000000

/-- Memory that holds what is written to it; every other address loads zero and discards stores (DESIGN CHOICE, safe, log entry 7). -/
def State.backed (s : State) (pa : Nat) : Bool :=
  (pa < 0x8000000000 && pa < s.pkg.boot.memGib * 2 ^ 30) || isHostMem pa || isPeerMem pa

/-- The `n` bytes at a physical address, coherence-latest. -/
def State.readPa (s : State) (pa n : Nat) : Nat := if s.backed pa then readBytes s.mem pa n else 0

/-- Writes the `n` bytes at a physical address. -/
def State.writePa (s : State) (pa n v : Nat) : State :=
  if s.backed pa then { s with mem := writeBytes s.mem pa n v } else s

/-- The line of a physical address. -/
def lineOf (pa : Nat) : Nat := pa / 64

/-- The home die of a line (R14). -/
def homeDie (pa : Nat) : Nat := pa / 4096 % 4

/-- The home slice of a line (R14). -/
def homeSlice (pa : Nat) : Nat := (pa / 2 ^ 14 % 16) ^^^ (pa / 64 % 16)

/-- The core whose router holds a line's home slice (R13, Table 8 of R127). -/
def sliceCore (pa : Nat) : Nat :=
  homeDie pa * 64 + (if homeSlice pa < 8 then homeSlice pa else 56 + homeSlice pa - 8)

/-! ### Translation (R437) -/

/-- The device physical address of a host physical address (R406). -/
def State.hostToPa (s : State) (h : Nat) : Nat :=
  match (List.range 8).find? fun e =>
      let m := s.pkg.pamap.get e {}
      m.hbase ≤ h && h < m.hbase + m.size with
  | some e => let m := s.pkg.pamap.get e {}; m.dbase + (h - m.hbase)
  | none => if h < 0x400000000000 then 0x400000000000 + h else 0xD00000000000

/-- The offset in the register space of a host physical address in the range of either port (R408) (DESIGN CHOICE, unsafe, log entry 21). -/
def State.regOffset (s : State) (h : Nat) : Option Nat :=
  match s.pkg.regBase.find? fun b => b.2 ≤ h && h < b.2 + 0x80000000 with
  | some b => some (h - b.2)
  | none => none

/-- The frame that backs a physical address after publications (R423, R437) (DESIGN CHOICE, safe, log entry 7). -/
def State.frame (s : State) (pa : Nat) : Nat :=
  match s.pkg.remap.find (pa / 4096) with
  | some f => f * 4096 + pa % 4096
  | none => pa

/-- The physical address of a table, from a root word or an entry. -/
def State.tablePa (s : State) (e : Nat) : Nat :=
  let a := e / 4096 % 2 ^ 40 * 4096
  if e / 64 % 2 = 1 then a else s.hostToPa a

/-- The walk from a table of level `l` (R437); the entry's bits are those of "Entries". -/
def State.walkFrom (s : State) (procid : Nat) (priv : Bool) (off : Nat) : (l : Nat) → (table : Nat) → Option Trans
  | 0, _ => none
  | l + 1, table =>
    let log2 := 12 + 9 * l
    let e := s.readPa (table + 8 * (off / 2 ^ log2 % 512)) 8
    let a := e / 4096 % 2 ^ 40 * 4096
    if e % 2 = 0 ∨ e / 128 % 32 ≠ 0 ∨ e / 2 ^ 52 ≠ 0 then none
    else if e / 2 % 2 = 1 then
      if 3 ≤ l ∨ a % 2 ^ log2 ≠ 0 then none
      else some { procid, priv, base := off / 2 ^ log2 * 2 ^ log2, log2, pa := a, dpa := e / 64 % 2 = 1
                  r := e / 4 % 2 = 1, w := e / 8 % 2 = 1, x := e / 16 % 2 = 1, p := e / 32 % 2 = 1 }
    else s.walkFrom procid priv off l (s.tablePa e)

/-- The lines of the tables that the walk reads. -/
def State.walkLines (s : State) (off : Nat) : (l : Nat) → (table : Nat) → List Nat
  | 0, _ => []
  | l + 1, table =>
    let log2 := 12 + 9 * l
    let pa := table + 8 * (off / 2 ^ log2 % 512)
    let e := s.readPa pa 8
    lineOf pa :: (if e % 2 = 0 ∨ e / 2 % 2 = 1 then [] else s.walkLines off l (s.tablePa e))

/-- A process descriptor taken in; an absent one is not valid. -/
def State.process (s : State) (p : Nat) : Process := s.pkg.procs.get p {}

/-- The walk of an offset in space 0x0000 or 0x0001 (R437) (DESIGN CHOICE, unsafe, log entry 9). -/
def State.walk (s : State) (procid : Nat) (priv : Bool) (off : Nat) : Option Trans :=
  let root := (if priv then (s.process procid).proot else (s.process procid).sroot).toNat
  let a := root / 4096 % 2 ^ 40 * 4096
  if root % 2 = 0 || root / 4 % 1024 ≠ 0 || root / 2 ^ 52 ≠ 0 then none
  else s.walkFrom procid priv off (if priv then 4 else 5) (if root / 2 % 2 = 1 then a else s.hostToPa a)

/-- Does a cached translation serve an offset? -/
def Trans.covers (t : Trans) (procid : Nat) (priv : Bool) (off : Nat) : Bool :=
  t.procid = procid && t.priv = priv && t.base ≤ off && off < t.base + 2 ^ t.log2

/-- The translation of an offset that the caches of an agent's place hold: its core's, then its die's; an agent of no
core's is the I/O die (R35, R437). -/
def State.cached (s : State) (core procid : Nat) (priv : Bool) (off : Nat) : Option Trans :=
  let mine := fun (ts : List Trans) => ts.find? (·.covers procid priv off)
  if 256 ≤ core then mine s.pkg.trans
  else (mine (s.coreAt core).tlb).or (mine (s.dieAt (dieOf core)).tlb)

/-- The translation of an offset for an agent at a core, and whether a cache held it (DESIGN CHOICE, unsafe, log entry 9). -/
def State.lookup (s : State) (core procid : Nat) (priv : Bool) (off : Nat) : Option (Trans × Bool) :=
  match s.cached core procid priv off with
  | some t => some (t, true)
  | none => (s.walk procid priv off).map fun t => (t, false)

/-- The first line that a walk of the offset reads and that a host owns: the walk waits for the host's answer (R257). None where a cache
holds the translation. -/
def State.tableOwned (s : State) (core procid : Nat) (priv : Bool) (off : Nat) : Option Nat :=
  if s.pkg.hostLines.isEmpty || (s.cached core procid priv off).isSome then none
  else
    let root := (if priv then (s.process procid).proot else (s.process procid).sroot).toNat
    let a := root / 4096 % 2 ^ 40 * 4096
    (s.walkLines off (if priv then 4 else 5) (if root / 2 % 2 = 1 then a else s.hostToPa a)).find? s.hostOwns

/-- Where a translated offset lies. -/
def State.placeOf (s : State) (t : Trans) (off : Nat) : Place :=
  let a := t.pa + off % 2 ^ t.log2
  if t.dpa then .mem (s.frame a)
  else match if t.priv then none else s.regOffset a with
    | some o => .signal o
    | none => .mem (s.frame (s.hostToPa a))

/-! ### Spaces (Table 4 of R20) -/

/-- A space. -/
inductive Space where
  | shared | priv
  | scratch (core : Nat)
  | weight (die : Nat)
  | mailbox
  deriving DecidableEq, Repr

/-- The space of a selector, for an agent of a core; none for a reserved selector. -/
def spaceOf (core sel : Nat) : Option Space :=
  if sel = 0 then some .shared
  else if sel = 1 then some .priv
  else if 0x1000 ≤ sel ∧ sel ≤ 0x10FF then some (.scratch (sel - 0x1000))
  else if 0x1F00 ≤ sel ∧ sel ≤ 0x1F03 then some (.scratch (coreOf (clusterOf core) (sel - 0x1F00)))
  else if 0x2000 ≤ sel ∧ sel ≤ 0x2003 then some (.weight (sel - 0x2000))
  else if sel = 0x3000 then some .mailbox
  else none

/-- The kinds of access that R106 tells apart. -/
inductive Use where
  | load | store | split | atomic
  /-- An `acas`, which needs write permission only when it writes (R117). -/
  | cas
  | watch
  /-- `pin`, `unpin`, `flush`. -/
  | line
  | fetch
  deriving DecidableEq, Repr

/-- Would the access write (R113)? -/
def Use.writes : Use → Bool
  | .store | .atomic => true
  | _ => false

/-- Does the page give the permission that the access needs (R437)? A page with P is reached only in
privileged mode. -/
def Trans.permits (t : Trans) (u : Use) (mode : Bool) : Bool :=
  (!t.p || mode) && (match u with | .store | .atomic => t.w | .fetch => t.x | _ => t.r)

/-- The core and index of a mailbox-counter offset (Table 5 of R23). -/
def counterOf (off : Nat) : Nat × Nat :=
  (off / 2 ^ 14 % 4 * 64 + off / 2 ^ 11 % 8 * 8 + off / 2 ^ 8 % 8, off / 4 % 64)

/-- The allocation of a process on a core (R22). -/
def State.alloc (s : State) (core procid : Nat) : Option Alloc := (s.coreAt core).allocs.find procid

/-- The agent an access is made for: its core, process, and mode. -/
structure Agent where
  core : Nat
  procid : Nat
  mode : Bool
  deriving DecidableEq, Repr

/-- The executing context as an agent. -/
def State.agent (s : State) : Agent := ⟨s.curCore, s.task.procid.toNat, s.task.mode⟩

/-- Why an access does not go through. -/
inductive Refused where
  | space
  | absent
  /-- A host owns a line of the tables, and is to be asked for it first (R257). -/
  | owned (line : Nat)
  deriving DecidableEq, Repr

/-- R106, step 5: the place of an offset in space 0x0000 or 0x0001 (R437). -/
def State.locateIn (s : State) (g : Agent) (u : Use) (priv : Bool) (off : Nat) : Except Refused Place :=
  match s.tableOwned g.core g.procid priv off with
  | some l => .error (.owned l)
  | none => match s.lookup g.core g.procid priv off with
    | none => .error .absent
    | some (t, _) => if t.permits u g.mode then .ok (s.placeOf t off) else .error .absent

/-- R106, steps 2, 4 and 5, for a scratchpad that the agent reaches: the place of an access (DEDUCED, unsafe, log entry 35). -/
def State.locate (s : State) (g : Agent) (u : Use) (sel : BitVec 16) (ea : Word) (size : Nat) : Except Refused Place :=
  let off := ea.toNat
  match spaceOf g.core sel.toNat with
  | none => .error .space
  | some .shared =>
    if 2 ^ 57 < off + size then .error .space else s.locateIn g u false off
  | some .priv =>
    if 2 ^ 48 < off + size then .error .space else s.locateIn g u true off
  | some (.scratch c) =>
    match s.alloc c g.procid with
    | none => .error .space
    | some a => if a.size < off + size then .error .space else .ok (.scratch c (a.base + off))
  | some (.weight d) =>
    if 2 ^ 31 < off + size then .error .space
    else match u with
      | .store | .atomic | .cas => .error .space
      | _ => .ok (.weight d off)
  | some .mailbox =>
    if 0x10000 ≤ off ∨ off % 4 ≠ 0 ∨ size ≠ 4 then .error .space
    else match u with
      | .load | .store | .split => .ok (.counter (counterOf off).1 (counterOf off).2)
      | _ => .error .space

/-- A cache of translations takes a leaf; a full one gives up its oldest (R35). -/
def addLeaf (size : Nat) (ts : List Trans) (t : Trans) : List Trans :=
  (if ts.length < size then ts else ts.drop 1) ++ [t]

/-- A core's translation cache takes a leaf. -/
def State.cacheLeaf (s : State) (core : Nat) (t : Trans) : State :=
  let c := s.coreAt core
  s.setCoreAt core { c with tlb := addLeaf 256 c.tlb t }

/-- An access of a core has used a translation: a leaf of the die's cache enters the core's, and a walk that no cache spared is
in flight until its event, of which a die has at most 512 (R35, R437) (DESIGN CHOICE, unsafe, log entry 9). -/
def State.noteWalk (s : State) (core procid : Nat) (sel : BitVec 16) (ea : Word) : State :=
  if 1 < sel.toNat then s
  else match s.lookup core procid (sel = 1) ea.toNat with
    | none => s
    | some (t, true) => if t ∈ (s.coreAt core).tlb then s else s.cacheLeaf core t
    | some (_, false) =>
      let d := s.dieAt (dieOf core)
      let w := (core, procid, decide (sel = 1), ea.toNat)
      if w ∈ d.walks ∨ 512 ≤ d.walks.length ∨ 256 ≤ core then s
      else (s.setDieAt (dieOf core) { d with walks := d.walks ++ [w] }).push
        (.translationWalkDone procid (sel = 1) ea.toNat)

/-- Does the context hold a loom command in its core's queue (R128)? -/
def State.holdsLoom (s : State) : Bool := (s.coreAt s.curCore).loomq.any (·.ctx = s.curCtx)

/-- A migration trigger (R127): a bounded task raises a scheduler fault (R344); within an event, with a
loom command in the queue, or with PROG.V set it raises a migration fault (R128, R206). -/
def State.migration (s : State) (sel : BitVec 16) (ea : Word) (dest : Nat) : Stop :=
  if s.task.bounded then .trap 13 1 0 0
  else if s.task.inEvent || s.holdsLoom || s.task.progV then .trap 14 0 sel ea
  else .migrate dest

/-- Step 3 of R106: the core of another cluster that the selector names. -/
def farCore (core : Nat) (sel : BitVec 16) : Option Nat :=
  match spaceOf core sel.toNat with
  | some (.scratch c) => if clusterOf c = clusterOf core then none else some c
  | _ => none

/-- The checks of R106 on one element of an access, in their order; `align` is the alignment asked (DEDUCED, unsafe, log entry 34). -/
def State.check (s : State) (u : Use) (sel : BitVec 16) (ea : Word) (size align : Nat) : Except Stop Place :=
  if ea.toNat % align ≠ 0 then .error (.trap 3 0 sel ea)
  else match farCore s.curCore sel with
    | some c => .error (s.migration sel ea c)
    | none =>
      match s.locate s.agent u sel ea size with
      | .ok p => .ok p
      | .error .space => .error (.trap 4 0 sel ea)
      | .error .absent => .error (.miss sel ea u.writes false)
      | .error (.owned l) => .error (.retry 1 (.hostLine l))

/-- The same checks where step 3 raises a space fault (`tdef`, `xdef`, `tbind`, the loom). -/
def State.checkNear (s : State) (u : Use) (sel : BitVec 16) (ea : Word) (size align : Nat) : Except Stop Place :=
  if (farCore s.curCore sel).isSome ∧ ea.toNat % align = 0 then .error (.trap 4 0 sel ea)
  else s.check u sel ea size align

/-! ### Effective addresses (R105) -/

/-- The effective address of a base form: I5 scaled by the unit. -/
def State.baseEa (s : State) (a i unit : Nat) (w : Nat) : Word :=
  s.g a + (BitVec.ofNat w i).signExtend 64 * BitVec.ofNat 64 unit

/-- The effective address of a literal or extended form. -/
def State.extEa (s : State) (e : Ext) : Word := s.g e.a.toNat + s.g e.b.toNat + e.imm.value

/-- The same without an index register: B is another operand. -/
def State.extEaNoIndex (s : State) (e : Ext) : Word := s.g e.a.toNat + e.imm.value

/-- A memory operand as an instruction gives it: selector register, effective address, length of the
instruction, order, scope, and cache hint. -/
structure MemArg where
  sp : Nat
  ea : Word
  words : Nat
  acq : Bool
  rel : Bool
  scope : Nat
  hint : Nat
  deriving DecidableEq, Repr

/-- The memory operand of a base form: plain, context scope. -/
def State.baseArg (s : State) (a : BitVec 7) (sp : BitVec 2) (i : BitVec 5) (unit : Nat) : MemArg :=
  { sp := sp.toNat, ea := s.baseEa a.toNat i.toNat unit 5, words := 1, acq := false, rel := false, scope := 0, hint := 0 }

/-- The memory operand of a literal or extended form (R44, R105). -/
def State.extArg (s : State) (e : Ext) : MemArg :=
  { sp := e.sp.toNat, ea := s.extEa e, words := e.words, acq := e.ord.getLsbD 0, rel := e.ord.getLsbD 1
    scope := e.scope.toNat, hint := e.hint.toNat }

/-- The memory operand of an extended form without an index register. -/
def State.extArgNoIndex (s : State) (e : Ext) : MemArg := { s.extArg e with ea := s.extEaNoIndex e }

/-- The selector of a memory operand (R19). -/
def State.selOf (s : State) (m : MemArg) : BitVec 16 := s.task.space m.sp

end Sys2Proof.Machine
end

