-- ==== Sys2Proof/Machine/Streams.lean ====
section
/-! DEFINITION. Streams (01_engines_together R16 to R18): binding, windows, sequence numbers, reorder
buffers, refusal and acknowledgement. A packet carries the event that its release causes; the I/O die
is core 256 of the numbering used here. -/

namespace Sys2Proof.Machine

/-- The number that the I/O die has as a destination of streams. -/
def ioDie : Nat := 256

/-- The key of a stream at its destination. -/
def streamKey (net src stream : Nat) : Nat := (net * 512 + src) * 16 + stream

/-- The stream on which a core may now send to `dest`: the one bound there if its window has room,
else the lowest unbound one, if none is bound there (R17, R280). -/
def Core.streamFor (c : Core) (net dest : Nat) : Option Nat :=
  let bound := (List.range 16).find? fun k =>
    match c.streams.find (net * 16 + k) with
    | some t => t.dest = dest && 0 < t.unacked
    | none => false
  match bound with
  | some k => match c.streams.find (net * 16 + k) with
    | some t => if t.unacked < 64 then some k else none
    | none => none
  | none => (List.range 16).find? fun k =>
    match c.streams.find (net * 16 + k) with
    | some t => t.unacked = 0
    | none => true

/-- Sends a packet on stream `k`: its sequence number advances modulo 4,096; a stream that is bound
anew starts where the destination expects it. -/
def State.emitOn (s : State) (net src dest k : Nat) (e : Instr) (part : Bool := false) : State :=
  let c := s.coreAt src
  let old := c.streams.get (net * 16 + k) { dest }
  let s := if old.unacked = 0 then
      let d := s.coreAt dest
      s.setCoreAt dest { d with expected := d.expected.put (streamKey net src k) old.seq }
    else s
  let c := s.coreAt src
  let c := (c.bump 9 1)
  let s := s.setCoreAt src { c with
    streams := c.streams.put (net * 16 + k) { dest, seq := (old.seq + 1) % 4096, unacked := old.unacked + 1 }
    msent := c.msent + 1 }
  let n := s.pkg.nextPacket
  (s.setPkg { s.pkg with
    packets := s.pkg.packets.put n { net, src, stream := k, seq := old.seq, dest, release := e, part }
    nextPacket := n + 1 }).push (.packetArrive n)

/-- Is an earlier packet of the core waiting for a stream to the same destination? -/
def Core.waitingTo (c : Core) (net dest : Nat) : Bool := c.waiting.any fun w => w.1 = net && w.2.1 = dest

/-- The stream on which the next packet to a destination may leave, behind those already waiting (R280). -/
def Core.mayEmit (c : Core) (net dest : Nat) : Option Nat := if c.waitingTo net dest then none else c.streamFor net dest

/-- Does a core's message engine send nothing, its domain being stopped (R394)? The I/O die's is in no domain. -/
def State.mute (s : State) (src : Nat) : Bool := src < 256 && s.coreHalted src

/-- Sends a packet, or lets it wait for a stream behind those already waiting (R280), or for the restart of its core's domain (R394). -/
def State.sendPacket (s : State) (net src dest : Nat) (e : Instr) (part : Bool := false) : State :=
  let c := s.coreAt src
  match if s.mute src then none else c.mayEmit net dest with
  | some k => s.emitOn net src dest k e part
  | none => s.setCoreAt src { c with waiting := c.waiting ++ [(net, dest, e, part)] }

/-- Sends a message of `n` packets, the last of which causes its event (R16) (DEDUCED, safe, log entry 46). -/
def State.sendPackets (s : State) (net src dest : Nat) (e : Instr) : (n : Nat) → State
  | 0 => s
  | 1 => s.sendPacket net src dest e
  | n + 2 => (s.sendPacket net src dest e true).sendPackets net src dest e (n + 1)

/-- Sends again what waits for a stream, oldest first. -/
def State.pumpStreams (s : State) (src : Nat) : State :=
  let ws := (s.coreAt src).waiting
  ws.foldl (fun s w => s.sendPacket w.1 src w.2.1 w.2.2.1 w.2.2.2) (s.setCoreAt src { s.coreAt src with waiting := [] })

/-- The stream of a core on which packets to a destination are unacknowledged acknowledges one (R17). -/
def State.ackStream (s : State) (net src dest : Nat) : State :=
  let c := s.coreAt src
  match (List.range 16).find? fun k => (match c.streams.find (net * 16 + k) with | some t => t.dest = dest && 0 < t.unacked | none => false) with
  | some k => s.push (.streamAck src net k)
  | none => s

/-- Releases the packet of a stream and the ones behind it that were held out of order. A timed message is acknowledged when it has
been entered or discarded (R315). -/
def State.releaseFrom (s : State) (dest : Nat) : (fuel : Nat) → Packet → State
  | 0, _ => s
  | n + 1, p =>
    let c := s.coreAt dest
    let next := (p.seq + 1) % 4096
    let key := streamKey p.net p.src p.stream
    let c := { c with expected := c.expected.put key next, mrecv := c.mrecv + 1 }
    let s := s.setCoreAt dest c
    let s := if p.part then s else s.push p.release
    let s := if p.net = 5 then s else s.push (.streamAck p.src p.net p.stream)
    match c.reorder.find? fun q => streamKey q.net q.src q.stream = key && q.seq = next with
    | some q =>
      (s.setCoreAt dest { c with reorder := c.reorder.filter fun r => r ≠ q }).releaseFrom dest n q
    | none => s

/-- PACKET_ARRIVE (R17): the next packet of its stream is released; one out of order takes a place of
the reorder buffer of its network, or is refused and sent again. -/
def packetArrive (n : Nat) (s : State) : State :=
  match s.pkg.packets.find n with
  | none => s
  | some p =>
    let c := s.coreAt p.dest
    if c.expected.get (streamKey p.net p.src p.stream) 0 = p.seq then
      (s.setPkg { s.pkg with packets := s.pkg.packets.drop n }).releaseFrom p.dest 65 p
    else if (c.reorder.filter fun q => q.net = p.net).length < 64 then
      (s.setPkg { s.pkg with packets := s.pkg.packets.drop n }).setCoreAt p.dest { c with reorder := c.reorder ++ [p] }
    else s.push (.packetResend n)

/-- PACKET_ARRIVE (R17). -/
def execPacketArrive (n : Nat) (s : State) : Host.Outcome State Fault Refusal := done (packetArrive n s)

/-- PACKET_RESEND (R17): a refused packet is sent again by its sender. -/
def execPacketResend (n : Nat) (s : State) : Host.Outcome State Fault Refusal :=
  done (if (s.pkg.packets.find n).isSome then s.push (.packetArrive n) else s)

/-- STREAM_ACK (R17): an acknowledgement opens the window by one, and may let the stream be bound anew. -/
def streamAck (src net stream : Nat) (s : State) : State :=
  let c := s.coreAt src
  match c.streams.find (net * 16 + stream) with
  | none => s
  | some t =>
    (s.setCoreAt src { c with streams := c.streams.put (net * 16 + stream) { t with unacked := t.unacked - 1 } }).pumpStreams src

/-- STREAM_ACK (R17). -/
def execStreamAck (src net stream : Nat) (s : State) : Host.Outcome State Fault Refusal := done (streamAck src net stream s)

end Sys2Proof.Machine
end

