-- ==== Sys2Proof/Machine/Memory.lean ====
section
/-! DEFINITION. The memory engine's operations: scratchpads with copy guards (R230) and subscription
forwarding (R294), weight stores, the leases and clocks of 10_memory (R245, R246), visitor copies
(R254), vector clocks (R255), host states (R257), and the requests and stores of the contexts. -/

namespace Sys2Proof.Machine

/-! ### Scratchpads and weight stores -/

/-- The memory key of a byte of a core's SRAM (DESIGN CHOICE, safe, log entry 7). -/
def sramKey (core off : Nat) : Nat := 2 ^ 48 + core * 2 ^ 21 + off

/-- The memory key of a byte of a die's weight store (DESIGN CHOICE, safe, log entry 7). -/
def weightKey (die off : Nat) : Nat := 2 ^ 49 + die * 2 ^ 31 + off

/-- Do the bytes touch one that a copy has still to write (R230)? -/
def Core.guarded (c : Core) (off size : Nat) : Bool := c.copies.any fun x => off < x.hi && x.wm < off + size

/-- The same for an access of a copy: the guards of the commands of other channels. -/
def Core.guardedFor (c : Core) (serial off size : Nat) : Bool :=
  let own := (c.copies.find? fun x => x.serial = serial).map (·.ch)
  c.copies.any fun x => some x.ch ≠ own && off < x.hi && x.wm < off + size

/-- Two places in one 64-byte line of one storage. -/
def Place.sameLine : Place → Place → Bool
  | .mem a, .mem b => a / 64 = b / 64
  | .scratch c a, .scratch d b => c = d && a / 64 = b / 64
  | .weight c a, .weight d b => c = d && a / 64 = b / 64
  | _, _ => false

/-- A write to a watched line ends the park of `wtne`, or is noted if the watch's read is still out
(R120). -/
def State.wakeWatchers (s : State) (p : Place) : State :=
  let hits := fun (x : Context) => match x.wait with
    | .watch r => r.todo.any (·.place.sameLine p)
    | _ => false
  let s := s.ctxs.foldl (fun s x => if hits x.2 then s.push (.wtneLineWrite (coreId (x.1 / 16)) (ctxId (x.1 % 16))) else s) s
  { s with ctxs := s.ctxs.map fun x => (x.1, match x.2.wait with
      | .req r => match r.sink with
        | .watch _ q => if q.sameLine p then { x.2 with wait := .req { r with hit := true } } else x.2
        | _ => x.2
      | _ => x.2) }

/-- Applies a change to the task with a number, wherever it is. -/
def State.mapTask (s : State) (tid : Nat) (f : Task → Task) : State :=
  let g := fun (t : Task) => if t.tid = tid then f t else t
  { s with
    ctxs := s.ctxs.map fun x => (x.1, { x.2 with task := g x.2.task })
    cores := s.cores.map fun x => (x.1, { x.2 with
      inbound := x.2.inbound.map g
      held := x.2.held.map fun h => (h.1, g h.2) })
    pkg := { s.pkg with shuttles := s.pkg.shuttles.map fun h => (g h.1, h.2) } }

/-- The bytes [off, off + n) of a line replaced. -/
def putBytes (d : BitVec 512) (off n v : Nat) : BitVec 512 :=
  let m := BitVec.ofNat 512 (2 ^ (8 * n) - 1) <<< (8 * off)
  (d &&& ~~~m) ||| (BitVec.ofNat 512 v <<< (8 * off) &&& m)

/-- The bytes [off, off + n) of a line. -/
def getBytes (d : BitVec 512) (off n : Nat) : Nat := (d >>> (8 * off)).toNat % 2 ^ (8 * n)

/-- A byte mask for [off, off + n). -/
def byteMask (off n : Nat) : BitVec 64 := BitVec.ofNat 64 (2 ^ n - 1) <<< off

/-- A line with the bytes of a mask taken from `a`, the others from `b`. -/
def mixBytes (m : BitVec 64) (a b : BitVec 512) : BitVec 512 :=
  let bits := (List.range 64).foldl (fun (x : BitVec 512) i => if m.getLsbD i then x ||| (0xFF#512 <<< (8 * i)) else x) 0
  (a &&& bits) ||| (b &&& ~~~bits)

/-- A line of a coalescing buffer leaves: one update for each subscriber, on the stream bound to its
core (R294). -/
def State.sendLine (s : State) (core : Nat) (e : Source) (l : CoLine) : State :=
  e.subs.foldl (fun s b =>
    let d := s.coreAt b.1
    let s := match d.subscribers.find b.2 with
      | some u => s.setCoreAt b.1 { d with subscribers := d.subscribers.put b.2 { u with onWay := u.onWay + 1 } }
      | none => s
    let s := l.writers.foldl (fun s w => s.mapTask w fun t => { t with subUnacked := t.subUnacked + 1 }) s
    s.sendPacket 3 core b.1 (.subUpdateApply b.1 b.2 l.off l.data l.mask l.writers)) s

/-- One written byte is merged into a source's coalescing buffer; the oldest line leaves when a fifth
is needed (R294). -/
def State.coalesce (s : State) (core k : Nat) (pos : Nat) (b : Nat) (writer : Nat) : State :=
  let c := s.coreAt core
  match c.sources.find k with
  | none => s
  | some e =>
    let loff := pos / 64 * 64
    let add := fun (l : CoLine) => { l with
      data := putBytes l.data (pos % 64) 1 b, mask := l.mask ||| byteMask (pos % 64) 1
      writers := if writer ∈ l.writers then l.writers else l.writers ++ [writer] }
    if e.buf.any (·.off = loff) then
      s.setCoreAt core { c with sources := c.sources.put k { e with buf := e.buf.map fun l => if l.off = loff then add l else l } }
    else
      let fresh := add { off := loff, data := 0, mask := 0, writers := [] }
      let s := s.push (.subLineTimeout core k loff)
      match e.buf with
      | old :: rest =>
        if rest.length < 3 then s.setCoreAt core { c with sources := c.sources.put k { e with buf := e.buf ++ [fresh] } }
        else (s.setCoreAt core { c with sources := c.sources.put k { e with buf := rest ++ [fresh] } }).sendLine core e old
      | [] => s.setCoreAt core { c with sources := c.sources.put k { e with buf := [fresh] } }

/-- The start of a source region in the core's SRAM. -/
def State.sourceBase (s : State) (core : Nat) (e : Source) : Option Nat := (s.alloc core e.procid).map fun a => a.base + e.soff

/-- The bytes written into source regions of a core are forwarded (R294). -/
def State.forwardBytes (s : State) (core off n v writer : Nat) : State :=
  (s.coreAt core).sources.foldl (fun s x =>
    match s.sourceBase core x.2 with
    | none => s
    | some b => (List.range n).foldl (fun s i =>
        if b ≤ off + i ∧ off + i < b + x.2.len then s.coalesce core x.1 (off + i - b) (v / 256 ^ i % 256) writer else s) s) s

/-- Reads bytes of a core's SRAM. -/
def State.readScratch (s : State) (core off n : Nat) : Nat := readBytes s.mem (sramKey core off) n

/-- Writes bytes of a core's SRAM, for the task `writer` (0 for an engine): the write is forwarded, and
watchers of its line wake. -/
def State.writeScratch (s : State) (core off n v writer : Nat) : State :=
  (({ s with mem := writeBytes s.mem (sramKey core off) n v }).forwardBytes core off n v writer).wakeWatchers (.scratch core off)

/-- Reads bytes of a weight store. -/
def State.readWeight (s : State) (die off n : Nat) : Nat := readBytes s.mem (weightKey die off) n

/-- Is a bank of a weight store in its refresh window (R35, R36, R238)? -/
def State.refreshing (s : State) (die bank : Nat) : Bool :=
  let p := (s.dieAt die).real % 44800
  1400 * bank ≤ p && p < 1400 * bank + 700

/-- Every update of a task leaves, wherever its writes to source regions are held (R295, R296). -/
def State.flushUpdates (s : State) (tid : Nat) : State :=
  s.cores.foldl (fun s c =>
    (s.coreAt c.1).sources.foldl (fun s x =>
      if x.2.buf.any (tid ∈ ·.writers) then
        let d := s.coreAt c.1
        x.2.buf.foldl (fun s l => s.sendLine c.1 x.2 l) (s.setCoreAt c.1 { d with sources := d.sources.put x.1 { x.2 with buf := [] } })
      else s) s) s

/-- Does a coalescing buffer hold a write of the task? -/
def State.buffered (s : State) (tid : Nat) : Bool :=
  s.cores.any fun c => c.2.sources.any fun x => x.2.buf.any (tid ∈ ·.writers)

/-- Is an entry of a send queue a post, or a store to a counter (R276)? -/
def QEntry.isPost : QEntry → Bool
  | .post _ => true
  | _ => false

/-- Every earlier access of a context is performed: no unacknowledged store, no split load out, no post that has not left (R276), no
update of a source region unapplied (R110, R119, R295). -/
def State.drainedAt (s : State) (k : Nat) : Bool :=
  let t := (s.ctxAt k).task
  t.storecnt = 0 && t.pend = 0 && t.subUnacked = 0 && !t.sendq.any QEntry.isPost && !s.buffered t.tid

/-- Is the executing context drained? -/
def State.drained (s : State) : Bool := s.drainedAt s.cur

/-- Waits, before anything is done, until every earlier access of the context is performed (R110). -/
def State.afterDrain (s : State) (need : Bool) (k : Result) : Result :=
  if need && !s.drained then .error (.retry 1 .drained) else k

/-! ### Clocks and lines (R245 to R247) -/

/-- LCLK of a core raised to a time of its own die. -/
def State.raiseClock (s : State) (core t : Nat) : State :=
  let c := s.coreAt core
  s.setCoreAt core { c with lclk := Nat.max c.lclk t }

/-- LEASE, between 1 and 256 (R246): a free value. -/
def State.lease (s : State) : Nat × State :=
  let p := s.pick 256
  (1 + p.1, p.2)

/-- The line's state at its home slice becomes at least readable (R257, first row). -/
def State.homeFetch (s : State) (pa : Nat) : State :=
  let d := s.dieAt (homeDie pa)
  let h := d.home.get (lineOf pa) {}
  if h.pkg ≠ 0 then s
  else s.setDieAt (homeDie pa) { d with home := d.home.put (lineOf pa) { h with pkg := if s.hostHolds (lineOf pa) then 1 else 2 } }

/-- Host copies are back-invalidated before a write (R257): the state with the requests sent. -/
def State.backInvalidate (s : State) (line : Nat) : State :=
  [false, true].foldl (fun s p =>
    let key := line * 2 + p.toNat
    if s.hostState line p ≠ 0 ∧ key ∉ s.pkg.backInv then s.setPkg { s.pkg with backInv := s.pkg.backInv ++ [key] } else s) s

/-- Do the bytes of a line have an uncorrectable error (R113, R115, R211)? -/
def State.lineBad (s : State) (pa : Nat) : Bool := lineOf pa ∈ s.pkg.badLines

/-- The 64 bytes of a line at its home. -/
def State.homeData (s : State) (pa : Nat) : BitVec 512 := BitVec.ofNat 512 (s.readPa (pa / 64 * 64) 64)

/-- The package state of a line at its home. -/
def State.pkgState (s : State) (pa : Nat) : Nat := ((s.dieAt (homeDie pa)).home.get (lineOf pa) {}).pkg

/-- The state with the package state of a line replaced. -/
def State.setPkgState (s : State) (pa v : Nat) : State :=
  let d := s.dieAt (homeDie pa)
  s.setDieAt (homeDie pa) { d with home := d.home.put (lineOf pa) { d.home.get (lineOf pa) {} with pkg := v } }

/-- A write caused from outside the dies, in the clocks of the line's home (R246). -/
def State.outsideWrite (s : State) (pa : Nat) : State :=
  let dn := homeDie pa
  let d := s.dieAt dn
  let h := d.home.get (lineOf pa) {}
  let t := h.rts + 1
  s.setDieAt dn { d with home := d.home.put (lineOf pa) { h with wts := t, rts := t }, xwts := Nat.max d.xwts t, dwts := Nat.max d.dwts t }

/-- A line's data come back from a host (R253). -/
def State.hostData (s : State) (pa : Nat) (data : BitVec 512) : State :=
  let pa := pa / 64 * 64
  ((s.outsideWrite pa).writePa pa 64 data.toNat).wakeWatchers (.mem pa)

/-- Takes a free line of data (DESIGN CHOICE, unsafe, log entry 2). -/
def State.freshLine (s : State) : BitVec 512 × State :=
  (List.range 8).foldl (fun (x : BitVec 512 × State) _ => let w := x.2.freshWord; ((x.1 <<< 64) ||| w.1.zeroExtend 512, w.2)) (0, s)

/-- A line that an engine is about to write is back-invalidated, and the hosts answer at once: one that held it in E or M may
return data, which are free (R257, R258) (DEDUCED, unsafe, log entry 11). -/
def State.hostYield (s : State) (line : Nat) : State :=
  [false, true].foldl (fun s p =>
    let st := s.hostState line p
    if st = 0 then s
    else
      let (n, s) := s.pick 2
      let s := if n = 1 ∧ (st = 2 ∨ st = 4) then (let (d, s) := s.freshLine; s.hostData (line * 64) d) else s
      s.setHostState line p 0) s

/-- A line that an engine reads at once comes from the hosts at once: one that holds it in E or M may return data, which are free, and
keeps at most an O or S copy (R257) (DEDUCED, unsafe, log entry 11). -/
def State.hostSupply (s : State) (line : Nat) : State :=
  [false, true].foldl (fun s p =>
    let st := s.hostState line p
    if st = 2 ∨ st = 4 then
      let (n, s) := s.pick 2
      let s := if n = 1 then (let (d, s) := s.freshLine; s.hostData (line * 64) d) else s
      s.setHostState line p (if st = 4 ∨ n = 1 then 3 else 1)
    else s) s

/-- The lines of the tables that a walk for an engine reads come from the hosts at once. -/
def State.supplyTables (s : State) (core procid : Nat) (priv : Bool) (off : Nat) : (fuel : Nat) → State
  | 0 => s
  | n + 1 => match s.tableOwned core procid priv off with
    | some l => (s.hostSupply l).supplyTables core procid priv off n
    | none => s

/-- The same for an access at a selector; a walk reads at most five tables. -/
def State.supplyWalk (s : State) (core procid : Nat) (sel : BitVec 16) (off : Word) : State :=
  if 1 < sel.toNat then s else s.supplyTables core procid (sel = 1) off.toNat 5

/-- A write performed at its home slice (R246, R253): `writer` is a core of the home die, or none for a
write from outside it. The package then holds the line in M, and no host does (R257). -/
def State.writeHome (s : State) (writer : Option Nat) (pa n v : Nat) : Nat × State :=
  let dn := homeDie pa
  let d := s.dieAt dn
  let h := d.home.get (lineOf pa) {}
  let wts := match writer with
    | some k => Nat.max (s.coreAt k).lclk (h.rts + 1)
    | none => h.rts + 1
  let d := { d with
    home := d.home.put (lineOf pa) { wts, rts := wts, pkg := 4 }
    dwts := Nat.max d.dwts wts
    xwts := match writer with | some _ => d.xwts | none => Nat.max d.xwts wts }
  (wts, ((((s.setDieAt dn d).setHostState (lineOf pa) false 0).setHostState (lineOf pa) true 0).writePa pa n v).wakeWatchers (.mem pa))

/-- The writing core's own L1 copy takes the bytes of a mask and the write time; its lease ends when it did (R244) (DEDUCED, unsafe, log entry 8). -/
def State.updateL1 (s : State) (core line : Nat) (data : BitVec 512) (m : BitVec 64) (wts : Nat) : State :=
  let c := s.coreAt core
  match c.l1.find line with
  | none => s
  | some l => s.setCoreAt core { c with l1 := c.l1.put line { l with data := mixBytes m data l.data, wts } }

/-- The same for `n` bytes at an address. -/
def State.updateL1At (s : State) (core pa n v wts : Nat) : State :=
  s.updateL1 core (lineOf pa) (putBytes 0 (pa % 64) n v) (byteMask (pa % 64) n) wts

/-- The bytes of a context's own buffered stores, of those with a number below `lim`, laid over a value (R244). -/
def Core.overlay (c : Core) (lim ctx tid pa n v : Nat) : Nat :=
  c.wbuf.foldl (fun v p =>
    match p.place with
    | .mem a =>
      if p.ctx = ctx ∧ p.tid = tid ∧ p.id < lim then
        (List.range p.size).foldl (fun v i =>
          if pa ≤ a + i ∧ a + i < pa + n then
            let j := a + i - pa
            v - v / 256 ^ j % 256 * 256 ^ j + p.value / 256 ^ i % 256 * 256 ^ j
          else v) v
      else v
    | _ => v) v

/-- Ways of the L1 (R244). -/
def Core.ways (c : Core) : Nat := 16 - c.wayCur

/-- Lines pinned on a core: by the tasks of its contexts, and by the pre-empted tasks it holds (R121) (DEDUCED, safe, log entry 23). -/
def State.pinsOn (s : State) (core : Nat) : List Nat :=
  (s.ctxs.flatMap fun x => if x.1 / 16 = core then x.2.task.pins else []) ++
    (s.coreAt core).held.flatMap fun h => h.2.pins

/-- Is every way of the line's set pinned by other lines (R251)? -/
def State.setPinned (s : State) (core line : Nat) : Bool :=
  (s.coreAt core).ways ≤ ((s.pinsOn core).eraseDups.filter fun x => x % 2048 = line % 2048 && x ≠ line).length

/-- A way is free for a line in its set: if none is, an unpinned line of the set is replaced, which one is a free choice
(R244, R251). A pinned line keeps its way, present or not (R121). -/
def State.makeRoom (s : State) (core line : Nat) : State :=
  let c := s.coreAt core
  let mates := fun (x : Nat) => x % 2048 = line % 2048 && x ≠ line
  let pins := (s.pinsOn core).eraseDups.filter mates
  let loose := (c.l1.map (·.1)).filter fun x => mates x && x ∉ pins
  if loose.length + pins.length < c.ways then s
  else
    let (n, s) := s.pick loose.length
    match loose[n]? with
    | none => s
    | some x => s.setCoreAt core { s.coreAt core with l1 := (s.coreAt core).l1.drop x }

/-- Installs a line in an L1 under a lease (R246), unless every way of its set is pinned (R251) (DEDUCED, safe, log entry 23). -/
def State.installL1 (s : State) (core line : Nat) (data : BitVec 512) (wts rts : Nat) (visitor : Bool) : State :=
  if s.setPinned core line then s
  else
    let s := s.makeRoom core line
    let c := s.coreAt core
    s.setCoreAt core { c with l1 := c.l1.put line { data, wts, rts, visitor } }

/-! ### Vector clocks and visitors (R254, R255) -/

/-- Is epoch `a` at or after `b`, modulo 2^32 (R255)? -/
def epochGe (a b : Nat) : Bool := (a + 2 ^ 32 - b % 2 ^ 32) % 2 ^ 32 < 2 ^ 31

/-- The later of two epochs. -/
def epochMax (a b : Nat) : Nat := if epochGe a b then a else b

/-- The stamp of a die (R255). -/
def Die.stamp (d : Die) (self : Nat) : List Nat :=
  (List.range 4).map fun e => if e = self then (d.vclk.get e 0 + 2 ^ 32 - 1) % 2 ^ 32 else d.vclk.get e 0

/-- Does a die's record allow a stamp to take effect (R255)? -/
def Die.allows (d : Die) (stamp : List Nat) : Bool :=
  (List.range 4).all fun f => epochGe (d.doneep.get f 0) (stamp.getD f 0)

/-- A reply with a stamp is delivered on a die (R255). -/
def Die.learn (d : Die) (self : Nat) (stamp : List Nat) : Die :=
  { d with vclk := (List.range 4).foldl (fun m f => if f = self then m else m.put f (epochMax (m.get f 0) (stamp.getD f 0))) d.vclk }

/-- DONEEP of the die's own epochs (R255): just before the oldest epoch with an unacknowledged write. -/
def Die.doneOwn (d : Die) (self : Nat) : Nat :=
  let cur := d.vclk.get self 0
  let oldest := d.outbound.foldl (fun m o => if epochGe m o.epoch then o.epoch else m) cur
  (oldest + 2 ^ 32 - 1) % 2 ^ 32

/-- DONEEP[d] brought up to date; it is published when it rises. -/
def State.updateDoneep (s : State) (dn : Nat) : State :=
  let d := s.dieAt dn
  let v := d.doneOwn dn
  if v = d.doneep.get dn 0 then s
  else (s.setDieAt dn { d with doneep := d.doneep.put dn v }).push (.doneepPublish (dieId dn))

/-- L1 and instruction-cache copies of a visitor line are dropped in every core of a die (R252). -/
def State.dropL1Visitor (s : State) (dn line : Nat) : State :=
  { s with cores := s.cores.map fun x =>
      if dieOf x.1 = dn then
        (x.1, { x.2 with
          l1 := x.2.l1.filter fun l => !(l.1 = line && l.2.visitor)
          icache := x.2.icache.filter fun l => !(l.1 = line && l.2.visitor) })
      else x }

/-- The line of memory of a request's first element. -/
def Req.line? (r : Req) : Option Nat := match r.todo with
  | a :: _ => (match a.place with | .mem pa => some (lineOf pa) | _ => none)
  | [] => none

/-- A change of the replies on their way to the contexts of some cores, for one line or for any. -/
def State.mapReplies (s : State) (cores : Nat → Bool) (line : Option Nat) (f : Req → Req) : State :=
  { s with ctxs := s.ctxs.map fun (x : Nat × Context) => (x.1, match x.2.wait with
      | .req r =>
        let mine := match r.line? with | some l => line.all (· = l) | none => false
        if cores (x.1 / 16) && r.reply.isSome && mine then { x.2 with wait := .req (f r) } else x.2
      | _ => x.2) }

/-- A reply on its way to a die, of one line or of any, is overtaken by an event of R252: its line is used once and
not installed. -/
def State.overtake (s : State) (dn : Nat) (line : Option Nat) : State :=
  s.mapReplies (fun c => decide (dieOf c = dn)) line fun r => { r with once := true }

/-- The replies on their way to one core are overtaken by a `wmask` that grows its scratchpad (R252). -/
def State.overtakeCore (s : State) (core : Nat) : State := s.mapReplies (fun c => decide (c = core)) none fun r => { r with once := true }

/-- The end of a visitor copy (R254): pending bytes are kept, the others become stale. A `wtne` that waits on the line
reads it again. -/
def State.endVisitor (s : State) (dn line : Nat) : State :=
  let d := s.dieAt dn
  let s := (s.overtake dn (some line)).wakeWatchers (.mem (line * 64))
  match d.visitors.find line with
  | none => s
  | some v =>
    let d := if v.pending = 0 then { d with visitors := d.visitors.drop line }
      else { d with visitors := d.visitors.put line { v with stale := ~~~v.pending } }
    (s.setDieAt dn d).dropL1Visitor dn line

/-- The steps of an acquire at device or system scope (R247) (DEDUCED, unsafe, log entry 8). -/
def State.acquireSteps (s : State) (core scope : Nat) : State :=
  if scope < 4 then s
  else
    let dn := dieOf core
    let s := ((s.dieAt dn).visitors.foldl (fun s v => s.endVisitor dn v.1) s).overtake dn none
    let c := s.coreAt core
    let s := s.setCoreAt core { c with
      l1 := c.l1.filter fun l => !l.2.visitor
      icache := c.icache.filter fun l => !l.2.visitor
      lclk := Nat.max c.lclk (s.dieAt dn).xwts }
    if scope = 5 then s.setPkg { s.pkg with peerLines := [] } else s

/-- An acquire whose value no slice served (of a scratchpad, a counter, a barrier, a block or a task start), or a fence: the steps of
R247, and, where its scope takes in another agent of the die, the clock passes every write of the die that the value may have
come after (R265, R272) (DEDUCED, unsafe, log entry 8). -/
def State.acquireAll (s : State) (core scope upTo : Nat) : State :=
  (s.acquireSteps core scope).raiseClock core (if scope = 0 then 0 else upTo)

/-- The largest write time on the die of a core (R245). -/
def State.dieTime (s : State) (core : Nat) : Nat := (s.dieAt (dieOf core)).dwts

/-- A context of a core has read bytes that carry no time of its die: a later fence of the core orders what the value came after
(R264, R265, R268) (DEDUCED, unsafe, log entry 8). -/
def State.sawUntimed (s : State) (core : Nat) : State :=
  let c := s.coreAt core
  s.setCoreAt core { c with sread := Nat.max c.sread (s.dieTime core) }

/-- The arrival steps of a core that receives from another die (R248). -/
def State.arrivalSteps (s : State) (core : Nat) : State :=
  let s := s.acquireSteps core 4
  s.raiseClock core (s.dieAt (dieOf core)).dwts

/-- Bytes of outbound writes of a line that are not yet acknowledged. -/
def Die.pendingOf (d : Die) (line : Nat) : BitVec 64 :=
  d.outbound.foldl (fun m o => if lineOf o.pa = line ∧ !o.release then m ||| byteMask (o.pa % 64) o.size else m) 0

/-- The home's data of a line with the die's own outbound writes that are not yet applied laid over it. -/
def Die.overOutbound (d : Die) (line : Nat) (data : BitVec 512) : BitVec 512 :=
  d.outbound.foldl (fun x o => if lineOf o.pa = line ∧ !o.release ∧ !o.applied then putBytes x (o.pa % 64) o.size o.value else x) data

/-- Bytes that a later write of the die or a later reply has brought up to date are no longer taken by the die's copy from
the acknowledgement of a release, or from the reply to an atomic, that came earlier at the home (R254). -/
def State.settleBytes (s : State) (dn line : Nat) (m : BitVec 64) (home : Bool) : State :=
  let d := s.dieAt dn
  let settle := fun (o : Outbound) => if lineOf o.pa = line ∧ o.release ∧ (o.applied ∨ !home) then { o with live := o.live &&& ~~~m } else o
  let s := s.setDieAt dn { d with outbound := d.outbound.map settle }
  if home then s.mapReplies (fun c => decide (dieOf c = dn)) (some line) fun r => { r with live := r.live &&& ~~~m } else s

/-- The die's visitor copy of a line takes the bytes of a mask, written by an agent of the die with the clock `lclk`: the write time,
and the state after it; none without a copy (R246, R254). -/
def State.copyWritten (s : State) (dn line : Nat) (data : BitVec 512) (m : BitVec 64) (pending : Bool) (lclk : Nat) : Option (Nat × State) :=
  let d := s.dieAt dn
  (d.visitors.find line).map fun c =>
    let slice := homeSlice (line * 64)
    let wts := Nat.max lclk (c.rts + 1)
    let c := { c with
      data := mixBytes m data c.data, wts, rts := wts, stale := c.stale &&& ~~~m
      pending := if pending then c.pending ||| m else c.pending }
    (wts, s.setDieAt dn { d with
      visitors := d.visitors.put line c, dwts := Nat.max d.dwts wts
      vismax := d.vismax.put slice (Nat.max (d.vismax.get slice 0) wts) })

/-- The same for a write of a core, whose own L1 copy and clock take the time. -/
def State.copyTakes (s : State) (core line : Nat) (data : BitVec 512) (m : BitVec 64) (pending : Bool) : State :=
  match s.copyWritten (dieOf core) line data m pending (s.coreAt core).lclk with
  | none => s
  | some (wts, s) => (s.updateL1 core line data m wts).raiseClock core wts

/-- The die has a copy of a visitor line: where there is none, one is made that holds no byte yet, all of them to be taken from the home
at the next read (R254, R261) (DESIGN CHOICE, unsafe, log entry 8). -/
def State.holdCopy (s : State) (dn line : Nat) : State :=
  let d := s.dieAt dn
  let slice := homeSlice (line * 64)
  let t := d.vismax.get slice 0 + 1
  if (d.visitors.find line).isSome then s
  else s.setDieAt dn { d with
    visitors := d.visitors.put line { data := 0, wts := t, rts := t, born := d.elapsed, stale := BitVec.allOnes 64 }, vismax := d.vismax.put slice t }

/-- The die's own plain write to a visitor line updates the copy at once, taking a write time, and its bytes are pending (R254) (DESIGN
CHOICE, unsafe, log entry 8). -/
def State.writeVisitor (s : State) (core pa n v : Nat) : State :=
  let m := byteMask (pa % 64) n
  ((s.holdCopy (dieOf core) (lineOf pa)).settleBytes (dieOf core) (lineOf pa) m false).copyTakes core (lineOf pa) (putBytes 0 (pa % 64) n v) m true

/-- Are bytes of a line waiting in outbound writes of a die, or held by its clock wrap, not yet applied at their home? -/
def Die.unapplied (d : Die) (pa n : Nat) : Bool :=
  d.outbound.any (fun o => !o.applied && lineOf o.pa = lineOf pa && (byteMask (o.pa % 64) o.size &&& byteMask (pa % 64) n) ≠ 0) ||
    d.heldWrites.any fun w => lineOf w.pa = lineOf pa

/-- A write of die `dn` has been applied at the line's home, on another die: the replies on their way to the die take its bytes
(R263), and what came earlier no longer updates the copy's. -/
def State.applied (s : State) (dn pa n v : Nat) : State :=
  let m := byteMask (pa % 64) n
  (s.settleBytes dn (lineOf pa) m true).mapReplies (fun c => decide (dieOf c = dn)) (some (lineOf pa)) fun r =>
    { r with reply := r.reply.map fun (x : List Nat × BitVec 512) => (x.1, putBytes x.2 (pa % 64) n v) }

/-- A visitor copy installed from the home's reply, or its stale bytes taken from it (R254); the other bytes of a copy stay, and
the die's own pending bytes lie over the home's. -/
def State.installVisitor (s : State) (dn line : Nat) (data : BitVec 512) : State :=
  let d := s.dieAt dn
  let slice := homeSlice (line * 64)
  let data := d.overOutbound line data
  let t := d.vismax.get slice 0 + 1
  let put := fun (v : Visitor) => s.setDieAt dn { d with visitors := d.visitors.put line v, vismax := d.vismax.put slice t }
  match d.visitors.find line with
  | some v =>
    if v.stale = 0 then s
    else (put { v with data := mixBytes v.stale data v.data, stale := 0, wts := t, rts := t, born := d.elapsed }).settleBytes dn line v.stale true
  | none =>
    (put { data, wts := t, rts := t, born := d.elapsed, pending := d.pendingOf line }).settleBytes
      dn line (BitVec.allOnes 64) true

/-- A read on a die returns pending bytes of the die's own outbound writes: those of the current epoch begin a new one (R255). -/
def State.seePending (s : State) (dn pa n : Nat) : State :=
  let d := s.dieAt dn
  let cur := d.vclk.get dn 0
  let hit := fun (o : Outbound) => !o.release && lineOf o.pa = lineOf pa && o.epoch = cur && (byteMask (o.pa % 64) o.size &&& byteMask (pa % 64) n) ≠ 0
  if d.outbound.any hit then
    (s.setDieAt dn { d with vclk := d.vclk.put dn ((cur + 1) % 2 ^ 32) }).updateDoneep dn
  else s

/-- A read of visitor bytes that are not stale: the slice grants a lease (R246); the bytes may come from the home (R268). -/
def State.readVisitor (s : State) (core pa n lease : Nat) : Option (Nat × State) :=
  let dn := dieOf core
  let d := s.dieAt dn
  match d.visitors.find (lineOf pa) with
  | none => none
  | some v =>
    if v.stale &&& byteMask (pa % 64) n ≠ 0 then none
    else
      let rts := Nat.max v.rts ((s.coreAt core).lclk + lease)
      let slice := homeSlice pa
      let d := { d with
        visitors := d.visitors.put (lineOf pa) { v with rts }
        vismax := d.vismax.put slice (Nat.max (d.vismax.get slice 0) rts) }
      some (getBytes v.data (pa % 64) n, ((s.setDieAt dn d).seePending dn pa n).sawUntimed core)

/-- Would a clock of the die soon pass 0xF0_0000 (R250)? -/
def State.needWrap (s : State) (dn : Nat) : Bool :=
  let d := s.dieAt dn
  let top := 0xF00000 - 65536
  top ≤ d.dwts || d.vismax.any (top ≤ ·.2) || d.home.any (top ≤ ·.2.rts) ||
    s.cores.any fun x => dieOf x.1 = dn && top ≤ x.2.lclk

/-- New requests of a die are held while its clocks wrap (R250). -/
def State.heldByWrap (s : State) (dn : Nat) (e : Instr) : Option State :=
  if (s.dieAt dn).wrapHold then some (s.push e)
  else if s.needWrap dn then some ((s.pushOnce (.clockWrapBegin (dieId dn))).push e)
  else none

/-- The same for a request that its engine makes again. -/
def State.wrapWait (s : State) (dn : Nat) : Option State :=
  if (s.dieAt dn).wrapHold then some s
  else if s.needWrap dn then some (s.pushOnce (.clockWrapBegin (dieId dn)))
  else none

/-! ### The peer package's memory (R260) -/

/-- A read of peer memory: from a line that the system cache holds, or over the link; the cache may then keep the
line (R260) (DESIGN CHOICE, unsafe, log entry 19). -/
def State.readPeer (s : State) (pa n : Nat) : Nat × State :=
  match s.pkg.peerLines.find (lineOf pa) with
  | some l => (getBytes l.2 (pa % 64) n, s)
  | none =>
    let keep := s.pick 2
    let s := keep.2
    let data := BitVec.ofNat 512 (s.readPa (pa / 64 * 64) 64)
    (s.readPa pa n, if keep.1 = 0 then s
      else s.setPkg { s.pkg with peerLines := s.pkg.peerLines.put (lineOf pa) (s.pkg.refCycle, data) })

/-- A write of peer memory, performed at the peer's home (R260) (DESIGN CHOICE, unsafe, log entry 19). -/
def State.writePeer (s : State) (pa n v : Nat) : State :=
  ((s.setPkg { s.pkg with peerLines := s.pkg.peerLines.drop (lineOf pa) }).writePa pa n v).wakeWatchers (.mem pa)

/-! ### Requests of contexts -/

/-- The event that serves the first element of a request. -/
def serveEvent (core ctx : Nat) (r : Req) : Instr :=
  match r.todo with
  | [] => .loadReply (coreId core) (ctxId ctx)
  | a :: _ => match a.place with
    | .mem _ => if r.atom.isSome then .homeAtomic (coreId core) (ctxId ctx) else .sliceLoad (coreId core) (ctxId ctx)
    | .scratch _ _ => .peerWindowAccess (coreId core) (ctxId ctx)
    | .weight _ _ => .weightStoreAccess (coreId core) (ctxId ctx)
    | .counter _ _ => .counterLoadArrive (coreId core) (ctxId ctx)
    | .signal _ => .loadReply (coreId core) (ctxId ctx)

/-- The bytes of all of a context's own stores laid over a value. -/
def State.ownBytes (s : State) (core ctx tid pa n v : Nat) : Nat :=
  (s.coreAt core).overlay (s.coreAt core).storeSerial ctx tid pa n v

/-- The value of an L1 hit (R246), with the core's clock raised; `own` lays the context's own stores over it (DEDUCED, unsafe, log entry 8). -/
def State.hitL1 (s : State) (core : Nat) (own : Nat → Nat) (pa n : Nat) : Option (Nat × State) :=
  let c := s.coreAt core
  match c.l1.find (lineOf pa) with
  | none => none
  | some l =>
    if c.lclk ≤ l.rts then
      let s := ((s.bump core 4 1).raiseClock core l.wts).seePending (dieOf core) pa n
      some (own (getBytes l.data (pa % 64) n), if l.visitor then s.sawUntimed core else s)
    else none

/-- A plain load at the die's slice (R246): the home slice, or the visitor copy if it holds the bytes. The value, its
write time, and the L1 filled if `fill`; `own` lays the context's own stores over it (R244) (DEDUCED, unsafe, log entry 8). -/
def State.sliceRead (s : State) (core : Nat) (own : Nat → Nat) (pa n : Nat) (fill : Bool) : Option (Nat × Nat × State) :=
  let dn := dieOf core
  let c := s.coreAt core
  let (lease, s) := s.lease
  let line := lineOf pa
  if homeDie pa = dn then
    let s := s.homeFetch pa
    let d := s.dieAt dn
    let h := d.home.get line {}
    let s := s.setDieAt dn { d with home := d.home.put line { h with rts := Nat.max h.rts (c.lclk + lease) } }
    some (own (s.readPa pa n), h.wts, if fill then s.installL1 core line (s.homeData pa) h.wts (c.lclk + lease) false else s)
  else match s.readVisitor core pa n lease with
    | none => none
    | some (v, s) =>
      let x := ((s.dieAt dn).visitors.find line).getD { data := 0, wts := 0, rts := 0, born := 0 }
      some (own v, x.wts, if fill ∧ x.stale = 0 then s.installL1 core line x.data x.wts (c.lclk + lease) true else s)

/-- Is a split load of a task outstanding on the line of a place (R263)? -/
def State.splitOut (s : State) (core tid : Nat) (p : Place) : Bool :=
  (s.coreAt core).splits.any fun x => x.reg ≠ 0 && x.tid = tid && x.place.sameLine p

/-- Serves from the L1 as many elements of a plain request as it can, in order. -/
def State.serveL1 (s : State) (core ctx tid : Nat) (r : Req) : List Acc → List Nat → Req × State
  | [], dn => ({ r with todo := [], done := dn }, s)
  | a :: rest, dn =>
    match a.place with
    | .mem pa =>
      if r.acq || r.atom.isSome || r.hint = 2 || s.splitOut core tid a.place then ({ r with todo := a :: rest, done := dn }, s)
      else match s.hitL1 core (s.ownBytes core ctx tid pa a.size) pa a.size with
        | some (v, s) => s.serveL1 core ctx tid { r with eas := r.eas.drop 1 } rest (dn ++ [v])
        | none => ({ r with todo := a :: rest, done := dn }, s.bump core 5 1)
    | _ => ({ r with todo := a :: rest, done := dn }, s)

/-- The context waits with a request: what the L1 can serve is served, and the next event is sent. -/
def State.setReq (s : State) (k : Nat) (r : Req) : State :=
  let (r, s) := s.serveL1 (k / 16) (k % 16) (s.ctxAt k).task.tid r r.todo r.done
  (s.setCtxAt k { s.ctxAt k with wait := .req r }).push (serveEvent (k / 16) (k % 16) r)

/-- The executing context parks with a request (R107). -/
def State.request (s : State) (todo : List Acc) (vals : List Nat) (sink : Sink) (m : MemArg) (sel : BitVec 16)
    (atom : Option (AtomOp × Word × Word)) (eas : List Word := []) (flags : Word := 0) : State :=
  let r : Req := { todo, done := [], vals, sink, acq := m.acq, scope := m.scope, hint := m.hint, words := m.words, atom
                   performed := false, wts := 0, reply := none, error := false, sel, ea := m.ea, eas, flags, rel := m.rel }
  (s.park 1 (.req r)).setReq s.cur r

/-- The effective address of a request's first element. -/
def Req.addr (r : Req) : Word := r.eas.headD r.ea

/-- Is a place a plain access's own scratchpad (R107)? -/
def Place.isOwn (core : Nat) : Place → Bool
  | .scratch c _ => c = core
  | _ => false

/-- The access waits while a copy guards a byte of it (R230): the first such element. -/
def State.guardOf (s : State) (es : List Acc) : Option Wait :=
  (es.find? fun a => match a.place with
    | .scratch c off => c = s.curCore && (s.coreAt c).guarded off a.size
    | _ => false).map fun a => match a.place with
      | .scratch c off => .guard c off a.size
      | _ => .none

/-- Accepts one store of the executing context (R108): it counts once in STORECNT, and the writes of its
elements are on their way under one number. -/
def State.accept (s : State) (es : List (Acc × Nat)) (m : MemArg) : State :=
  let c := s.coreAt s.curCore
  let t := s.task
  let ps := es.map fun e =>
    ({ ctx := s.curCtx, tid := t.tid, place := e.1.place, size := e.1.size, value := e.2, release := m.rel, scope := m.scope, id := c.storeSerial
       sel := s.selOf m, ea := m.ea } : Pending)
  let s := s.setCoreAt s.curCore { c with
    wbuf := c.wbuf ++ ps, storeSerial := c.storeSerial + 1, unacked := c.unacked ++ [(s.curCtx, t.tid, c.storeSerial)] }
  es.foldl (fun s _ => s.push (.sliceWrite (coreId s.curCore))) (s.setTask { s.task with storecnt := s.task.storecnt + 1 })

end Sys2Proof.Machine
end

