-- ==== Sys2Proof/Machine/Registers.lean ====
section
/-! DEFINITION. What the register space shows (R407 to R410, R397, R431, R433, R436): the words of a context image as the register
lines hold them (Table 6 of R79), the registers of copy channels (R217) and queues (R331), and the loads of the register space, which
contexts, engines and hosts make alike (R408). -/

namespace Sys2Proof.Machine

/-! ### Words of a context image (Table 6 of R79) -/

/-- The HOLDER word (R79): `v` is its V bit. -/
def Task.holderWord (t : Task) (v : Bool) : Nat :=
  match t.holder with
  | some (core, ctx) => core % 256 + 256 * (ctx % 16) + 4096 * v.toNat
  | none => 0

/-- The STATUS word (R79). -/
def Task.statusWord (t : Task) (state why : Nat) : Nat :=
  state % 4 + 4 * (why % 16) + 64 * t.annul.toNat + 256 * t.mode.toNat + 512 * t.part.code + 2048 * t.procid.toNat + 2 ^ 21 * t.logptr.toNat

/-- The words of an operand-log entry (R79): the value, then the register and the valid bit. -/
def Task.logWord (t : Task) (i : Nat) : Nat :=
  match t.oplog.find (i / 2) with
  | some (r, v) => if i % 2 = 0 then v.toNat else r.toNat + 256
  | none => 0

/-- The control words of the image: indices 0 to 39. -/
def Task.controlWord (t : Task) (state why : Nat) (v : Bool) (i : Nat) : Nat :=
  let g := t.part.gCount
  match i with
  | 0 => t.pc.toNat
  | 1 => t.s0.toNat + 2 ^ 16 * t.s1.toNat + 2 ^ 32 * t.s2.toNat + 2 ^ 48 * t.s3.toNat
  | 2 => t.statusWord state why
  | 3 => t.flags.toNat
  | 4 => t.skey.toNat
  | 5 => t.taskidx.toNat
  | 6 => t.storecnt
  | 7 => t.holderWord v
  | 12 => t.livev.toNat
  | 13 => t.vtime.toNat
  | _ =>
    if 8 ≤ i ∧ i < 12 then t.liveg.toNat / 2 ^ (64 * (i - 8)) % 2 ^ 64
    else if 16 ≤ i ∧ i < 20 then t.full.toNat % 2 ^ g / 2 ^ (64 * (i - 16)) % 2 ^ 64
    else if 20 ≤ i ∧ i < 24 then t.pend.toNat % 2 ^ g / 2 ^ (64 * (i - 20)) % 2 ^ 64
    else if 24 ≤ i ∧ i < 40 then t.logWord (i - 24)
    else 0

/-- A word of BARPH (R133). -/
def Task.barphWord (t : Task) (i : Nat) : Nat :=
  (List.range 4).foldl (fun w j => w + 2 ^ (16 * j) * (t.barph.get (4 * i + j) 0).toNat) 0

/-- The word of index `i` of the image's register lines (Table 6 of R79, Table 2 of R188, Table 2 of R381); the engine
line and what lies beyond the vector registers are not among them (R81), and give 0. -/
def Task.imageWord (t : Task) (state why : Nat) (v : Bool) (i : Nat) : Nat :=
  let g := t.part.gCount
  if i < 40 then t.controlWord state why v i
  else if i < 42 then t.barphWord (i - 40)
  else if i = 42 then t.lsave.toNat
  else if i = 43 then t.lheldSlots.toNat + 2 ^ 16 * t.lheldAccs.toNat + 2 ^ 20 * t.lheldCore.toNat + 2 ^ 28 * t.lheldV.toNat
  else if i = 44 then t.theld.toNat
  else if i = 45 then t.progNext.toNat + 16 * t.progV.toNat
  else if i = 46 then t.progPc.toNat
  else if i = 56 then t.epc.toNat
  else if i = 57 then t.ecause.toNat
  else if i = 58 then t.einfo.toNat
  else if i < 64 then 0
  else if i < 64 + g then (t.gr (i - 64)).toNat
  else
    let j := i - 64 - g
    if j / 16 < t.part.vCount then (t.vr (j / 16)).toNat / 2 ^ (64 * (j % 16)) % 2 ^ 64 else 0

/-- The indices of the image's register lines, without the engine line (R81). -/
def Part.imageWords (p : Part) : List Nat :=
  (List.range (64 + p.gCount + 16 * p.vCount)).filter fun i => i < 48 || 56 ≤ i

/-! ### What registers read -/

/-- Every task of the package: those of contexts, held, on their way, and waiting to be installed. -/
def State.tasks (s : State) : List Task :=
  (s.ctxs.filterMap fun x => if x.2.state = .free then none else some x.2.task) ++
    (s.cores.flatMap fun c => c.2.held.map (·.2) ++ c.2.inbound) ++ s.pkg.shuttles.map (·.1)

/-- The store that an event of the register space acknowledges. -/
def ackOf : Instr → Option (Nat × Nat × Nat × Nat)
  | .apertureStore _ _ _ (a, _) => a
  | .lrChannelStore _ _ (a, _) => a
  | .counterPageStore _ _ _ (a, _) => a
  | .registerWrite _ _ _ (a, _) => a
  | _ => none

/-- The page of the register space that an event acts on. -/
def pageOf : Instr → Nat
  | .apertureStore core ch _ (_, _) => 0x1000 + 8 * core + ch
  | .lrChannelStore k _ (_, _) => 0x3000 + k
  | .counterPageStore core _ _ (_, _) => 0x200 + core
  | .registerWrite off _ _ (_, _) => off / 4096
  | _ => 0

/-- The cores of a cluster. -/
def clusterCores (cluster : Nat) : List Nat := (List.range 4).map (coreOf cluster)

/-- Tokens held on a die. -/
def State.tokensOn (s : State) (die : Nat) : Nat :=
  let here := (s.ctxs.filter fun x => dieOf (x.1 / 16) = die && x.2.state ≠ .free).map (·.2.task.tokHeld)
  let waiting := (s.cores.filter fun c => dieOf c.1 = die).flatMap fun c => (c.2.inbound ++ c.2.held.map (·.2)).map (·.tokHeld)
  let moving := (s.pkg.shuttles.filter fun h => dieOf h.2.1 = die).map (·.1.tokHeld)
  (here ++ waiting ++ moving).foldl (· + ·) 0

/-- The channel's commands in the queue, not running. -/
def Core.qcount (c : Core) (ch : Nat) : Nat := (c.copies.filter fun x => x.ch = ch && !x.running).length

/-- The channel's running copy. -/
def Core.runningCopy (c : Core) (ch : Nat) : Option Copy := c.copies.find? fun x => x.ch = ch && x.running

/-- The registers of a channel. -/
def Core.chan (c : Core) (ch : Nat) : Channel := c.chans.get ch {}

/-- CHSTAT (Table 1). -/
def Core.chstat (c : Core) (ch : Nat) : Word :=
  let x := c.chan ch
  BitVec.ofNat 64 (x.state + 256 * x.cause + 2 ^ 16 * c.qcount ch + 2 ^ 24 * x.tindex + 2 ^ 32 * x.done.toNat)

/-- CHOWN (Table 1). -/
def Channel.chown (x : Channel) : Word := BitVec.ofNat 64 (x.procid + 1024 * x.v.toNat + 2048 * x.pin.toNat)

/-- CHLO, CHHI and CHWM of a channel, as offsets in its process's allocation. -/
def State.chanRange (s : State) (core ch : Nat) : Nat × Nat × Nat :=
  match (s.coreAt core).runningCopy ch with
  | some x =>
    let base := match s.alloc core x.procid with | some a => a.base | none => 0
    if x.lo < x.hi then (x.lo - base, x.hi - base, x.wm - base) else (0, 0, 0)
  | none => (0, 0, 0)

/-- A queue, as after reset if it has never been taken in. -/
def State.queue (s : State) (q : Nat) : Queue := s.pkg.queues.get q {}

/-- A store to the register space, from a host port or from elsewhere: before READY it is discarded (R433), and so is a store of the port
that is not active, which STBYDROP counts (R412). -/
def State.storeFrom (s : State) (host : Option Bool) (f : State → State) : State :=
  if s.pkg.phase < 6 then s
  else if host = some (!s.pkg.port) then s.setPkg { s.pkg with stbyDrop := s.pkg.stbyDrop + 1 }
  else f s

/-! ### Loads of the register space (R407 to R410, R431, R433, R436) -/

/-- CBIND of a counter (R410). -/
def Counter.bindWord (x : Counter) : Nat := x.owner.toNat + 1024 * x.v.toNat

/-- CIRQ of a counter (R410). -/
def Counter.irqWord (x : Counter) : Nat := x.target.toNat + 2 ^ 32 * x.vector.toNat + 2 ^ 48 * x.en.toNat

/-- LEASE (R411). -/
def Package.lease (p : Package) : Nat := p.epoch.toNat + 2 ^ 32 * p.port.toNat + 2 ^ 33 * p.expired.toNat

/-- THERM (R431). -/
def State.therm (s : State) : Nat :=
  (List.range 4).foldl (fun r d => r + 2 ^ d * (s.dieAt d).hold.toNat + 2 ^ (8 * d + 8) * ((s.dieAt d).temp % 256)) 0

/-- PAMAP and LRCHOWN of the I/O die control page, the arbiter's registers, and the identity (Table 4, Table 2 of R431,
R436). -/
def State.ioArray (s : State) (o : Nat) : Nat :=
  let p := s.pkg
  if 0x200 ≤ o ∧ o < 0x300 then
    let m := p.pamap.get ((o - 0x200) / 32) {}
    match o % 32 with
    | 0 => m.hbase
    | 8 => m.size
    | 16 => m.dbase
    | _ => 0
  else if 0x400 ≤ o ∧ o < 0x600 then
    let l := p.lr.get ((o - 0x400) / 8) {}
    l.procid + 1024 * l.v.toNat
  else if 0x800 ≤ o ∧ o < 0x820 then (s.dieAt ((o - 0x800) / 8)).limit
  else if 0x820 ≤ o ∧ o < 0x840 then
    let d := (o - 0x820) / 8
    s.tokensOn d + 2 ^ 16 * Nat.min 65535 (s.dieAt d).tokQueue.length
  else if 0x940 ≤ o ∧ o < 0x9A0 then p.idKey.toNat / 2 ^ (8 * (o - 0x940)) % 2 ^ 64
  else 0

/-- PLSTAT: all 32 lanes are in use while the link is up; while it is down their number is free (R409). -/
def State.linkStatus (s : State) : Nat × State :=
  let n := s.pick 64
  if s.pkg.linkUp then (1 + 2 * s.pkg.boot.side.toNat + 4 * 32, s)
  else (2 * s.pkg.boot.side.toNat + 4 * n.1, n.2)

/-- PLERR rises by a free number of link retries for the time that the link was up (R416, log entry 2). -/
def State.linkRetries (s : State) : State :=
  let n := s.freshWord
  if s.pkg.linkUp then n.2.setPkg { n.2.pkg with plerr := n.2.pkg.plerr + n.1 } else s

/-- PLERR, with the retries since it was last brought up to date. -/
def State.linkErrors (s : State) : Nat × State :=
  let s := s.linkRetries
  (s.pkg.plerr.toNat, s)

/-- A register of the I/O die control page (Table 4 of R409) (DEDUCED, unsafe, log entry 38). -/
def State.ioRegister (s : State) (o : Nat) : Nat × State :=
  let p := s.pkg
  match o with
  | 0x000 => (p.pdbase.toNat, s)
  | 0x008 => (p.qtbase.toNat, s)
  | 0x020 => (p.quantum, s)
  | 0x028 => (p.boot.point.toNat, s)
  | 0x040 => (p.fqbase.toNat, s)
  | 0x048 => (p.fqlog2, s)
  | 0x050 => (p.fqhead.toNat, s)
  | 0x058 => (p.fqtail.toNat, s)
  | 0x060 => (p.fqvec.toNat, s)
  | 0x068 => (p.fqlost.toNat, s)
  | 0x080 => (p.halted.toNat, s)
  | 0x0C0 => (p.lease, s)
  | 0x0C8 => (p.leaseTo, s)
  | 0x0D0 => (p.leaseBad.toNat, s)
  | 0x0D8 => (p.stbyDrop.toNat, s)
  | 0x100 => (p.ivtbase0.toNat, s)
  | 0x108 => (p.ivtbase1.toNat, s)
  | 0x110 => (p.ivtcount, s)
  | 0x118 => (p.idrop.toNat, s)
  | 0x140 => s.linkStatus
  | 0x148 => s.linkErrors
  | 0x840 => (p.arbEpoch % 2 ^ 64, s)
  | 0x848 => (s.therm, s)
  | 0x850 => (p.tholds.toNat, s)
  | 0x908 => (p.phase + 256 * p.bootErr, s)
  | _ => (s.ioArray o, s)

/-- A register of a core's control page (Table 5 of R410). -/
def State.coreRegister (s : State) (core o : Nat) : Nat :=
  let c := s.coreAt core
  if o < 0x200 then
    let ch := o / 64
    match o % 64 with
    | 0x00 => (c.chan ch).chown.toNat
    | 0x08 => (c.chstat ch).toNat
    | 0x10 => (s.chanRange core ch).1
    | 0x18 => (s.chanRange core ch).2.1
    | 0x20 => (s.chanRange core ch).2.2
    | _ => 0
  else if 0x400 ≤ o ∧ o < 0x800 then
    let x := c.counters.get ((o - 0x400) / 16) {}
    if o % 16 = 0 then x.bindWord else x.irqWord
  else 0

/-- A doorbell page (Table 5 of R332). -/
def State.doorbellRead (s : State) (q o : Nat) : Nat :=
  let x := s.queue q
  let code := match x.state with | .idle => 0 | .active => 1 | .stalled => 2 | .error => 3 | .disabled => 4
  match o with
  | 0x18 => x.rdidx.toNat + 2 ^ 32 * code + 2 ^ 35 * x.cause
  | 0x20 => x.wridx.toNat + 2 ^ 32 * x.erridx.toNat
  | _ => 0

/-! ### The inspection window (R397) -/

/-- The 128 bytes of a slot tag (Table 6 of R195), as a word of eight bytes. -/
def Slot.tagWord (x : Slot) (i : Nat) : Nat :=
  match i with
  | 0 => x.fmt + 2 ^ 8 * x.vr + 2 ^ 16 * x.vc + 2 ^ 24 * x.state + 2 ^ 32 * x.sb.toNat
  | 2 => x.cb.toNat % 2 ^ 64
  | 3 => x.cb.toNat / 2 ^ 64
  | _ => if 8 ≤ i then x.exp.toNat / 2 ^ (64 * (i - 8)) % 2 ^ 64 else 0

/-- A word of a halt record (R395). -/
def HaltRec.word (h : HaltRec) (i : Nat) : Nat :=
  match i with
  | 0 => h.stopcyc
  | 1 => h.cause + 2 ^ 8 * (h.origin % 256) + 2 ^ 16 * h.isOrigin.toNat + 2 ^ 17 * h.procid
  | 2 => h.msent.toNat
  | 3 => h.mrecv.toNat
  | 4 => h.states.toNat
  | 5 => h.einfo.toNat
  | _ => 0

/-- STATE of a context in a halt record (R395). -/
def CtxState.code : CtxState → Nat
  | .free => 0 | .ready => 1 | .parked => 2 | .stopped => 3

/-- Are the lines of a context's task all resident (R397)? A FREE context has none (DEDUCED, unsafe, log entry 39). -/
def Context.resident (x : Context) : Bool := (if x.state = .stopped then x.prior else x.state) ≠ .free && x.task.absent.isEmpty

/-- A context's register lines as the window shows them: an absent line reads 0, and so does every line of a FREE context (DEDUCED, unsafe,
log entry 39). -/
def Context.windowWord (x : Context) (i : Nat) : Nat :=
  if (if x.state = .stopped then x.prior else x.state) = .free then 0
  else if (48 ≤ i ∧ i < 56) ∨ i / 8 ∈ x.task.absent then 0
  else x.task.imageWord x.state.code x.parkwhy true i

/-- The met-park flags of a stopped core's contexts, in their places in the halt record (R394, R395) (DEDUCED, unsafe, log entry 26). -/
def State.metFlags (s : State) (core : Nat) : Nat :=
  (List.range 16).foldl (fun n i =>
    let x := s.ctxAt (ctxKey core i)
    n + 16 ^ i * 4 * (decide (x.state = .stopped) && x.met).toNat) 0

/-- The eight bytes at offset `o` of a core's part of the window (Table 10); arrays in an internal arrangement, the
cache's data and slot state are free. -/
def State.windowWord (s : State) (core o : Nat) : Nat × State :=
  let c := s.coreAt core
  let open_ := s.freshWord
  let free := (open_.1.toNat, open_.2)
  if o < 0x200000 then (if o < 131072 * c.wayCur then (s.readScratch core o 8, s) else free)
  else if o < 0x210000 then free
  else if o < 0x210800 then ((c.slots.get ((o - 0x210000) / 128) {}).tagWord (o % 128 / 8), s)
  else if o < 0x211000 then (0, s)
  else if o < 0x221000 then
    let a := (c.accs.get ((o - 0x211000) / 16384) {}).data
    let e := (o - 0x211000) % 16384 / 4
    ((a.get e 0).toNat + 2 ^ 32 * (a.get (e + 1) 0).toNat, s)
  else if o < 0x222000 then
    ((c.tensors.get ((o - 0x221000) / 64) {}).data.toNat / 2 ^ (8 * (o % 64)) % 2 ^ 64, s)
  else if o < 0x230000 then (0, s)
  else if o < 0x270000 then ((s.ctxAt (ctxKey core ((o - 0x230000) / 16384))).windowWord ((o - 0x230000) % 16384 / 8), s)
  else if o = 0x270000 then
    ((List.range 16).foldl (fun n i => n + 2 ^ i * (s.ctxAt (ctxKey core i)).resident.toNat) 0, s)
  else if 0x270040 ≤ o ∧ o < 0x270080 then
    ((match c.halt with
      | some h => h.word ((o - 0x270040) / 8) + (if o / 8 = 0x4E00C then s.metFlags core else 0)
      | none => 0), s)
  else if 0x271000 ≤ o ∧ o < 0x272000 then free
  else (0, s)

/-- A load of the inspection window; 0 unless every core of the cluster is stopped (R397) (DEDUCED, unsafe, log entry 39). -/
def State.windowRead (s : State) (o : Nat) : Nat × State :=
  let cl := o / 0x1000000
  if 64 ≤ cl then (0, s)
  else if (clusterCores cl).all s.coreHalted then s.windowWord (coreOf cl (o / 0x400000 % 4)) (o % 0x400000)
  else (0, s)

/-- A load of the register space: an aligned doubleword, or 32 bits of a counter page (R407, R414). Before READY only
BOOTSTAT is served (R433). -/
def State.loadRegister (s : State) (off size : Nat) : Nat × State :=
  let page := off / 0x1000
  let o := off % 0x1000
  if s.pkg.phase < 6 ∧ off ≠ 0x908 then (0, s)
  else if 0x200 ≤ page ∧ page < 0x300 then
    (if size = 4 ∧ o < 256 ∧ o % 4 = 0 then (((s.coreAt (page - 0x200)).counters.get (o / 4) {}).count.toNat, s) else (0, s))
  else if size ≠ 8 ∨ off % 8 ≠ 0 then (0, s)
  else if page = 0 then s.ioRegister o
  else if page < 5 then
    let d := s.dieAt (page - 1)
    match o with
    | 0x00 => (d.tvec.toNat, s)
    | 0x08 => (d.dbg.toNat, s)
    | 0x10 => (d.hdom.toNat, s)
    | _ => (0, s)
  else if 0x100 ≤ page ∧ page < 0x200 then (s.coreRegister (page - 0x100) o, s)
  else if 0x1000 ≤ page ∧ page < 0x1800 then
    (if o = 0 then ((s.coreAt ((page - 0x1000) / 8)).chstat ((page - 0x1000) % 8)).toNat else 0, s)
  else if 0x2000 ≤ page ∧ page < 0x3000 then (s.doorbellRead (page - 0x2000) o, s)
  else if 0x3000 ≤ page ∧ page < 0x3040 then (if o = 0 then (s.pkg.lr.get (page - 0x3000) {}).cmds.length else 0, s)
  else if 0x40000 ≤ page ∧ page < 0x80000 then s.windowRead (off - 0x40000000)
  else (0, s)

end Sys2Proof.Machine
end

