-- ==== Sys2Proof/Machine/Access.lean ====
section
/-! DEFINITION. What a context's memory instruction asks for (04_core_memory R105 to R121): loads,
stores, split loads, atomics, fences, `wtne` and the line operations, as operations over the elements of
an access; the writes of a timed event (R311); and what a completed access writes. -/

namespace Sys2Proof.Machine

/-! ### Values -/

/-- A loaded value extended to a register (Table 2). -/
def extendLoad (size : Nat) (signed : Bool) (v : Nat) : Word :=
  let w := BitVec.ofNat 64 v
  if signed && v / 2 ^ (8 * size - 1) % 2 = 1 && size < 8 then w ||| (BitVec.allOnes 64 <<< (8 * size)) else w

/-- The value of a `w`-bit code read as signed. -/
def asSigned (w v : Nat) : Int := if 2 ^ (w - 1) ≤ v then (v : Int) - (2 ^ w : Nat) else v

/-- The new value of an atomic on `w` bits (Table 5); none for an `acas` that does not write. -/
def atomicNew (op : AtomOp) (w old expected c : Nat) : Option Nat :=
  let e := expected % 2 ^ w
  let c := c % 2 ^ w
  match op with
  | .add => some ((old + c) % 2 ^ w)
  | .and => some (old &&& c)
  | .or => some (old ||| c)
  | .xor => some (old ^^^ c)
  | .min => some (if asSigned w c < asSigned w old then c else old)
  | .max => some (if asSigned w old < asSigned w c then c else old)
  | .minu => some (if c < old then c else old)
  | .maxu => some (if old < c then c else old)
  | .swp => some c
  | .cas => if old = e then some c else none
  | .dec => if 1 ≤ asSigned w old then some (old - 1) else none

/-- Vector lanes of `w` bits from the values of the elements, element 0 lowest. -/
def packLanes (w : Nat) (vs : List Nat) : Vec := BitVec.ofNat 1024 (vs.foldr (fun a r => a % 2 ^ w + 2 ^ w * r) 0)

/-! ### Engine accesses to a place -/

/-- The bytes at a place, for an agent that is no context; the peer's are not to be had while its link is down, and read 0 (R420)
(DESIGN CHOICE, unsafe, log entry 19). -/
def State.readPlace (s : State) (p : Place) (n : Nat) : Nat :=
  match p with
  | .mem pa => if isPeerRegs pa || (isPeerMem pa && !s.pkg.linkUp) then 0 else s.readPa pa n
  | .scratch c off => s.readScratch c off n
  | .weight d off => s.readWeight d off n
  | .counter c i => ((s.coreAt c).counters.get i {}).count.toNat
  | .signal off => (s.loadRegister off n).1

/-- A write of the package to the peer's memory, or to a page of its register space, by an agent that is no context: it goes over the
link, and is lost while the link is down (R260, R420) (DESIGN CHOICE, unsafe, log entry 19). -/
def State.peerWrite (s : State) (pa n v : Nat) : State := if isPeerMem pa && s.pkg.linkUp then s.writePeer pa n v else s

/-- A write from outside the compute dies, at a place; hosts yield the line (R257). -/
def State.ioWrite (s : State) (p : Place) (n v : Nat) : State :=
  match p with
  | .mem pa =>
    if isPeerMem pa || isPeerRegs pa then s.peerWrite pa n v
    else if s.backed pa then ((s.hostYield (lineOf pa)).writeHome none pa n v).2 else s
  | .signal off => s.push (.registerWrite off (BitVec.ofNat 64 v) n (none, none))
  | _ => s

/-- A write of a line by an agent of a die that is no core: its time passes the line's leases, and, from another die, XWTS takes it
too (R246); the die's visitor copy takes the bytes with the acknowledgement (R254). -/
def State.dieWrite (s : State) (dn pa n v : Nat) : State :=
  if isPeerMem pa || isPeerRegs pa then s.peerWrite pa n v
  else
    let h := homeDie pa
    let x := (s.dieAt h).xwts
    let s := ((s.hostYield (lineOf pa)).writeHome none pa n v).2
    if h = dn then s.setDieAt h { s.dieAt h with xwts := x }
    else
      let m := byteMask (pa % 64) n
      let s := s.settleBytes dn (lineOf pa) m true
      ((s.copyWritten dn (lineOf pa) (putBytes 0 (pa % 64) n v) m false 0).map (·.2)).getD s

/-- The lines of `ps` that a host holds in a way that the access must end first: the state with their
back-invalidations or snoops, if there are any (R257, R258) (DEDUCED, unsafe, log entry 11). -/
def State.snoop (s : State) (write : Bool) (ps : List Place) : Option State :=
  let busy := ps.filterMap fun p => match p with
    | .mem pa => if write && s.hostHolds (lineOf pa) || s.hostOwns (lineOf pa) then some (lineOf pa) else none
    | _ => none
  if busy.isEmpty then none else some (busy.foldl (if write then State.backInvalidate else State.askHost) s)

/-- What makes an engine's write: the command, 0 for none, and the context and task whose access it is, task 0 for none (R271). -/
structure Writer where
  owner : Nat := 0
  ctx : Nat := 0
  tid : Nat := 0
  deriving DecidableEq, Repr

/-- A write by an engine of a core to a line homed on another die is an outbound write (R254, R255); one that is an access of a
context counts in its STORECNT until it is acknowledged (R201). -/
def State.engineOut (s : State) (core : Nat) (w : Writer) (pa n v : Nat) : State :=
  let dn := dieOf core
  let d := s.dieAt dn
  let c := s.coreAt core
  let id := c.storeSerial
  let o : Outbound := { core, ctx := w.ctx, tid := w.tid, id, pa, size := n, value := v, stamp := d.stamp dn, epoch := d.vclk.get dn 0, owner := w.owner }
  let unacked := if w.tid = 0 then c.unacked else c.unacked ++ [(w.ctx, w.tid, id)]
  let s := (s.setCoreAt core { c with storeSerial := id + 1, unacked }).setDieAt dn { d with outbound := d.outbound ++ [o] }
  let s := if w.tid = 0 then s else s.mapTask w.tid fun t => { t with storecnt := t.storecnt + 1 }
  (s.writeVisitor core pa n v).push (.outboundWriteApply (dieId dn))

/-- Is a write to memory of an engine command of a core still to be acknowledged? -/
def State.writesOut (s : State) (core owner : Nat) : Bool :=
  let d := s.dieAt (dieOf core)
  d.outbound.any (fun o => o.core = core && o.owner = owner) || d.heldWrites.any fun w => w.core = core && w.owner = owner

/-- Must a die start no further outbound write (R255): 2^20 epochs are unacknowledged. -/
def State.outboundFull (s : State) (dn : Nat) : Bool :=
  let d := s.dieAt dn
  2 ^ 20 ≤ (d.vclk.get dn 0 + 2 ^ 32 - d.doneOwn dn) % 2 ^ 32

/-- A write by an engine of a core to memory that no clock wrap holds (R246, R253): at once at a home on its own die, hosts yielding
the line; else as an outbound write. -/
def State.engineMemNow (s : State) (core : Nat) (w : Writer) (pa n v : Nat) : State :=
  if isPeerMem pa || isPeerRegs pa then s.peerWrite pa n v
  else if !s.backed pa then s
  else if homeDie pa = dieOf core then
    let (t, s) := (s.hostYield (lineOf pa)).writeHome (some core) pa n v
    (s.updateL1At core pa n v t).raiseClock core t
  else s.engineOut core w pa n v

/-- A write by an engine of a core to memory: where the die's clocks wrap, or are about to, or the die may start no further outbound
write, it is held, and those behind it, until it may be made (R250, R255). -/
def State.engineMem (s : State) (core : Nat) (w : Writer) (pa n v : Nat) : State :=
  let hold := fun (s : State) =>
    let d := s.dieAt (dieOf core)
    s.setDieAt (dieOf core) { d with
      heldWrites := d.heldWrites ++ [{ core, owner := w.owner, ctx := w.ctx, tid := w.tid, pa, size := n, value := v }] }
  match s.wrapWait (dieOf core) with
  | some s => hold s
  | none =>
    if s.outboundFull (dieOf core) || !(s.dieAt (dieOf core)).heldWrites.isEmpty then hold s else s.engineMemNow core w pa n v

/-- The writes held on a die are made, oldest first, where they may be (R250, R255). -/
def State.releaseHeld (s : State) (dn : Nat) : State :=
  if (s.wrapWait dn).isSome || s.outboundFull dn then s
  else
    let d := s.dieAt dn
    d.heldWrites.foldl (fun s w => s.engineMem w.core { owner := w.owner, ctx := w.ctx, tid := w.tid } w.pa w.size w.value)
      (s.setDieAt dn { d with heldWrites := [] })

/-- A write by an engine of a core to a place: to memory, or in a scratchpad; no engine writes any other place so. -/
def State.writePlace (s : State) (core : Nat) (p : Place) (n v : Nat) (w : Writer := {}) : State :=
  match p with
  | .mem pa => s.engineMem core w pa n v
  | .scratch c off => s.writeScratch c off n v 0
  | _ => s

/-- A write by an engine of the process in its device-private space, with the permission of the access;
none where the translation is absent or forbids it. -/
def State.engineWrite (s : State) (core procid : Nat) (off : Word) (n v : Nat) (w : Writer := {}) : Option State :=
  let s := s.supplyWalk core procid 1 off
  match s.locate ⟨core, procid, true⟩ .store 1 off n with
  | .ok p => some (s.writePlace core p n v w)
  | .error _ => none

/-! ### Writes in a timed event (R311) -/

/-- The logical process of the executing task: core, slot, and slot state. -/
def State.boundLp (s : State) : Option (Nat × Nat × Lp) :=
  match s.task.tlp with
  | none => none
  | some (c, k) => ((s.coreAt c).lps.find k).map fun lp => (c, k, lp)

/-- The window-relative bytes of an element, if all of them lie in the window of the slot. -/
def State.windowOffset (s : State) (core : Nat) (lp : Lp) (a : Acc) : Option Nat :=
  match a.place, s.alloc core lp.procid with
  | .scratch c off, some al =>
    let lo := al.base + lp.woff
    if c = core ∧ lo ≤ off ∧ off + a.size ≤ lo + lp.wlen then some (off - lo) else none
  | _, _ => none

/-- The 64-byte lines of the window that the elements touch, in order and without repeats. -/
def State.windowLines (s : State) (core : Nat) (lp : Lp) (es : List Acc) : List Nat :=
  (es.flatMap fun a => match s.windowOffset core lp a with
    | some o => if o / 64 = (o + a.size - 1) / 64 then [o / 64 * 64] else [o / 64 * 64, o / 64 * 64 + 64]
    | none => []).eraseDups

/-- The lowest number that none of the list's entries has. -/
def leastFree (used : List Nat) : Nat := ((List.range (used.length + 1)).find? fun i => i ∉ used).getD used.length

/-- One line of the window is copied into a new undo entry (R309, R311) (DESIGN CHOICE, unsafe, log entry 17). -/
def State.logLine (s : State) (core slot loff : Nat) : Result :=
  let c := s.coreAt core
  match c.lps.find slot with
  | none => .ok s
  | some lp =>
    let base := match s.alloc core lp.procid with | some al => al.base + lp.woff | none => 0
    let data := s.readScratch core (base + loff) 64
    let index := leastFree (lp.undos.map (·.index))
    let at_ := lp.ulbase + BitVec.ofNat 64 (80 * index)
    match s.engineWrite core lp.procid at_ 8 (lp.evidx + 2 ^ 32 * loff) with
    | none => .error (.slotFault core slot at_)
    | some s =>
      match s.engineWrite core lp.procid (at_ + 16) 64 data with
      | none => .error (.slotFault core slot (at_ + 16))
      | some s =>
        let c := s.coreAt core
        .ok (s.setCoreAt core { c with lps := c.lps.put slot { lp with
          undos := lp.undos ++ [{ index, event := lp.evidx, loff, data := BitVec.ofNat 512 data }] } })

/-- Lines logged one after the other. -/
def State.logLines (s : State) (core slot : Nat) : List Nat → Result
  | [] => .ok s
  | l :: rest => match s.logLine core slot l with
    | .ok s => s.logLines core slot rest
    | .error e => .error e

/-- A write of the executing context (R311): in an event, all its bytes lie in the window through the own
scratchpad (timed fault, cause 9), each line it touches has been logged for the event, and the undo log
has room (cause 8) (DEDUCED, unsafe, log entry 32). -/
def State.eventWrite (s : State) (es : List Acc) (k : State → Result) : Result :=
  if !s.task.inEvent then k s
  else match s.boundLp with
    | none => .error (.trap 12 9 0 0)
    | some (c, slot, lp) =>
      if c ≠ s.curCore || es.any fun a => (s.windowOffset c lp a).isNone then .error (.trap 12 9 0 0)
      else
        let lines := (s.windowLines c lp es).filter fun l => !lp.undos.any fun u => u.event = lp.evidx && u.loff = l
        if lines.isEmpty then k s
        else if lp.ulcap < lp.undos.length + lines.length then .error (.trap 12 8 0 0)
        else if lp.waiting then .error (.retry 1 .slotFree)
        else match s.logLines c slot lines with
          | .ok s => k s
          | .error e => .error e

/-! ### Completion -/

/-- What a completed access writes in the executing context, for the sinks of memory instructions. -/
def State.sinkWrite (s : State) (k : Sink) (vs : List Nat) : State :=
  match k with
  | .reg d size signed => s.setG d (extendLoad size signed (vs.headD 0))
  | .pair d => (s.setG d (BitVec.ofNat 64 (vs.headD 0))).setG (d + 1) (BitVec.ofNat 64 (vs.headD 0 / 2 ^ 64))
  | .vec d w => s.setV d (packLanes w vs)
  | .atomic d => s.setG d (BitVec.ofNat 64 (vs.headD 0))
  | .pin line =>
    if s.task.pins.length < 64 ∧ line ∉ s.task.pins ∧ !s.setPinned s.curCore line then
      s.setTask { s.task with pins := s.task.pins ++ [line] }
    else s
  | _ => s

/-! ### Loads -/

/-- The checks of R106 over the elements of an access, in lane order; none may be a mailbox counter (R178) (DEDUCED, unsafe, log entry 34). -/
def State.checkAll (s : State) (u : Use) (sel : BitVec 16) (size align : Nat) : List Word → Except Stop (List Acc)
  | [] => .ok []
  | ea :: rest => match s.check u sel ea size align with
    | .error e => .error e
    | .ok (.counter _ _) => .error (.trap 4 0 sel ea)
    | .ok p => match s.checkAll u sel size align rest with
      | .error e => .error e
      | .ok es => .ok (⟨p, size⟩ :: es)

/-- The value of an own-scratchpad element. -/
def State.ownValue (s : State) (a : Acc) : Nat := match a.place with | .scratch c off => s.readScratch c off a.size | _ => 0

/-- A load of checked elements (R107, R110): an own-scratchpad access completes at once, any other parks
with its request. -/
def State.loadElems (s : State) (es : List Acc) (k : Sink) (m : MemArg) (eas : List Word := []) : Result :=
  match s.guardOf es with
  | some w => .error (.retry 1 w)
  | none =>
    let s := s.noteWalk s.curCore s.task.procid.toNat (s.selOf m) m.ea
    if es.all (·.place.isOwn s.curCore) then
      let s := (s.sinkWrite k (es.map s.ownValue)).sawUntimed s.curCore
      .ok ((if m.acq then s.acquireAll s.curCore m.scope (s.dieTime s.curCore) else s).advance m.words)
    else .ok (s.request es [] k m (s.selOf m) none eas)

/-- A scalar load (R111). -/
def State.loadReg (s : State) (m : MemArg) (size : Nat) (k : Sink) : Result :=
  match s.check .load (s.selOf m) m.ea size size with
  | .error e => .error e
  | .ok p => s.loadElems [⟨p, size⟩] k m

/-! ### Stores -/

/-- The elements of a store, grouped by the 64-byte line that each begins in. -/
def byLine (es : List (Acc × Nat)) : List (List (Acc × Nat)) :=
  es.foldl (fun gs e =>
    if gs.any fun g => match g with | x :: _ => x.1.place.sameLine e.1.place | [] => false then
      gs.map fun g => match g with
        | x :: _ => if x.1.place.sameLine e.1.place then g ++ [e] else g
        | [] => g
    else gs ++ [[e]]) []

/-- The store numbers of the executing context that are not yet acknowledged. -/
def State.ownUnacked (s : State) : List Nat :=
  ((s.coreAt s.curCore).unacked.filter fun u => u.1 = s.curCtx && u.2.1 = s.task.tid).map (·.2.2)

/-- The first post of a send queue may leave: a release waits for the accesses that were issued before it
(R277), and a store to a counter for the split loads of that counter (R263). -/
def State.postReady (s : State) (p : PostEntry) : Bool :=
  if !p.release then !(s.coreAt s.curCore).splits.any fun x => x.tid = s.task.tid && x.place = .counter p.core p.index
  else (p.after.all fun i => i ∉ s.ownUnacked) && s.task.pend = 0 && s.task.subUnacked = 0 &&
    !s.buffered s.task.tid

/-- The engine takes the next entry of the executing context's send queue, a post (R280): it is sent on
the message network, and from then on it counts in STORECNT (R276). -/
def State.sendPost (s : State) (p : PostEntry) : State :=
  let c := s.coreAt s.curCore
  let t := s.task
  let id := c.storeSerial
  let s := if p.counted then s
    else (s.setCoreAt s.curCore { c with
      storeSerial := id + 1, unacked := c.unacked ++ [(s.curCtx, t.tid, id)] }).setTask { t with storecnt := t.storecnt + 1 }
  s.sendPacket 2 s.curCore p.core (.postArrive
    { core := p.core, index := p.index, inc := p.inc, procid := t.procid.toNat, asOwner := false
      src := s.curCore, ctx := s.curCtx, tid := t.tid, acks := true, id := if p.counted then p.after.getLastD 0 else id })

/-- A 32-bit store to the mailbox space enters the send queue (R276, R280). -/
def State.storeCounter (s : State) (core index v : Nat) (m : MemArg) : Result :=
  if 8 ≤ s.task.sendq.length then .error (.retry 6 .sendRoom)
  else if 255 ≤ s.task.storecnt then .error (.retry 1 .storeRoom)
  else
    let c := s.coreAt s.curCore
    let id := c.storeSerial
    let s := s.setCoreAt s.curCore { c with
      storeSerial := id + 1, unacked := c.unacked ++ [(s.curCtx, s.task.tid, id)] }
    let e : PostEntry := { core, index, inc := BitVec.ofNat 32 v, release := false, after := [id], counted := true }
    let s := s.setTask { s.task with storecnt := s.task.storecnt + 1, sendq := s.task.sendq ++ [.post e] }
    .ok (if m.rel then s.park 1 (.relStore m.words) else s.accepted m.words)

/-- A store of checked elements with their values, and with the flags that it merges (R107, R108, R110, R154, R178); `k` is what the
completion of a request to another scratchpad does besides. -/
def State.storeElems (s : State) (es : List (Acc × Nat)) (m : MemArg) (eas : List Word := []) (flags : Word := 0) (k : Sink := .drop) : Result :=
  s.eventWrite (es.map (·.1)) fun s =>
  match s.guardOf (es.map (·.1)) with
  | some w => .error (.retry 1 w)
  | none => s.afterDrain m.rel <|
    let s := s.noteWalk s.curCore s.task.procid.toNat (s.selOf m) m.ea
    match es with
    | [] => .ok ((s.mergeFlags flags).accepted m.words)
    | (a, v) :: _ =>
      match a.place with
      | .counter c i => s.storeCounter c i v m
      | .scratch c _ =>
        if c = s.curCore then
          .ok ((es.foldl (fun s e => match e.1.place with
            | .scratch c off => s.writeScratch c off e.1.size e.2 s.task.tid
            | _ => s) (s.mergeFlags flags)).advance m.words)
        else if 255 ≤ s.task.storecnt then .error (.retry 1 .storeRoom)
        else .ok ((s.setTask { s.task with storecnt := s.task.storecnt + 1 }).request (es.map (·.1)) (es.map (·.2)) k m (s.selOf m) none eas flags)
      | _ =>
        let gs := byLine es
        if 255 < s.task.storecnt + gs.length then .error (.retry 1 .storeRoom)
        else
          let s := gs.foldl (fun s g => s.accept g m) (s.mergeFlags flags)
          .ok (if m.rel then s.park 1 (.relStore m.words) else s.accepted m.words)

/-- A scalar store of the low `size` bytes of a value (R112). -/
def State.storeReg (s : State) (m : MemArg) (size v : Nat) : Result :=
  match s.check .store (s.selOf m) m.ea size size with
  | .error e => .error e
  | .ok p => s.storeElems [(⟨p, size⟩, v % 2 ^ (8 * size))] m

/-! ### Split loads (R114) -/

/-- The number of a split load in flight: the task's number and the register. -/
def splitId (tid reg : Nat) : Nat := tid * 256 + reg

/-- A mailbox counter that does not serve the executing task's process (R275). -/
def State.foreignCounter (s : State) (p : Place) : Bool :=
  match p with
  | .counter c i =>
    let x := (s.coreAt c).counters.get i {}
    !(x.v && x.owner = s.task.procid)
  | _ => false

/-- A split load of `size` bytes into register `d` (DEDUCED, unsafe, log entry 34) (DEDUCED, unsafe, log entry 15). -/
def State.splitLoad (s : State) (m : MemArg) (size d : Nat) : Result :=
  if s.task.isPend d then .error (.retry 1 (.pendClear d))
  else match s.check .split (s.selOf m) m.ea size size with
    | .error e => .error e
    | .ok p => match s.guardOf [⟨p, size⟩] with
      | some w => .error (.retry 1 w)
      | none =>
        let s := s.noteWalk s.curCore s.task.procid.toNat (s.selOf m) m.ea
        if s.foreignCounter p then .error (.trap 4 0 (s.selOf m) m.ea)
        else if p.isOwn s.curCore then .ok (((s.setG d (extendLoad size true (s.ownValue ⟨p, size⟩))).sawUntimed s.curCore).advance m.words)
        else
          let t := s.task
          let s := s.setTask { t with full := t.full &&& ~~~bit256 d, pend := t.pend ||| bit256 d }
          let c := s.coreAt s.curCore
          let s := s.setCoreAt s.curCore { c with
            splits := c.splits ++ [{ ctx := s.curCtx, tid := t.tid, reg := d, place := p, size, before := c.storeSerial, sel := s.selOf m, ea := m.ea, hint := m.hint }] }
          .ok ((s.push (.splitLoadReply (coreId s.curCore) (splitId t.tid d))).accepted m.words)

/-! ### Atomics (R116 to R118) -/

/-- An atomic on the own scratchpad: one step in the issue port. -/
def State.atomicOwn (s : State) (op : AtomOp) (size d : Nat) (exp c : Word) (fail : BitVec 3) (m : MemArg) (core off : Nat) : Result :=
  let old := s.readScratch core off size
  let new := atomicNew op (8 * size) old exp.toNat c.toNat
  let s := match new with
    | some v => s.writeScratch core off size v s.task.tid
    | none => s
  let acq := if new.isSome then m.acq else fail ≠ 0
  let s := (s.setG d (BitVec.ofNat 64 old)).sawUntimed s.curCore
  .ok ((if acq then s.acquireAll s.curCore m.scope (s.dieTime s.curCore) else s).advance m.words)

/-- An atomic of `size` bytes; `fail` is FORD. -/
def State.atomic (s : State) (op : AtomOp) (size : Nat) (e : Ext) : Result :=
  let m := s.extArgNoIndex e
  let exp := s.g e.b.toNat
  let c := s.g e.c.toNat
  match s.check (if op = .cas then .cas else .atomic) (s.selOf m) m.ea size size with
  | .error x => .error x
  | .ok p => s.eventWrite [⟨p, size⟩] fun s =>
    match s.guardOf [⟨p, size⟩] with
    | some w => .error (.retry 1 w)
    | none => s.afterDrain m.rel <|
      let s := s.noteWalk s.curCore s.task.procid.toNat (s.selOf m) m.ea
      match p with
      | .scratch k off =>
        if k = s.curCore then s.atomicOwn op size e.d.toNat exp c e.rnd m k off
        else if 255 ≤ s.task.storecnt then .error (.retry 1 .storeRoom)
        else .ok ((s.setTask { s.task with storecnt := s.task.storecnt + 1 }).request [⟨p, size⟩] [e.rnd.toNat] (.atomic e.d.toNat) m (s.selOf m) (some (op, exp, c)))
      | _ =>
        if 255 ≤ s.task.storecnt then .error (.retry 1 .storeRoom)
        else .ok ((s.setTask { s.task with storecnt := s.task.storecnt + 1 }).request [⟨p, size⟩] [e.rnd.toNat] (.atomic e.d.toNat) m (s.selOf m) (some (op, exp, c)))

/-! ### Fences, `wtne`, line operations (R119 to R121) -/

/-- What an acquiring fence raises the clock to: what the core read without a time of its die; a fence of both kinds, and one at device or
system scope, passes every write of the die, which the order of R266 may put before it (R266, R268) (DEDUCED, unsafe, log entry 8). -/
def State.fenceTime (s : State) (m : MemArg) : Nat :=
  if m.rel || 4 ≤ m.scope then s.dieTime s.curCore else (s.coreAt s.curCore).sread

/-- `fence` (R119). -/
def State.fence (s : State) (m : MemArg) : Result :=
  s.afterDrain m.rel <|
    if m.acq && s.task.pend ≠ 0 then .error (.retry 1 .loads)
    else .ok ((if m.acq then s.acquireAll s.curCore m.scope (s.fenceTime m) else s).accepted m.words)

/-- `wtne` of register value `v` (R120): the watch is armed before the first read. -/
def State.waitNotEqual (s : State) (m : MemArg) (v : Word) : Result :=
  s.notTimed <| match s.check .watch (s.selOf m) m.ea 8 8 with
  | .error e => .error e
  | .ok p => match s.guardOf [⟨p, 8⟩] with
    | some w => .error (.retry 1 w)
    | none =>
      let s := s.noteWalk s.curCore s.task.procid.toNat (s.selOf m) m.ea
      let r : Req := { todo := [⟨p, 8⟩], done := [], sink := .watch v p, acq := m.acq, scope := m.scope, hint := 2, words := m.words
                       atom := none, performed := false, wts := 0, reply := none, error := false, sel := s.selOf m, ea := m.ea }
      if p.isOwn s.curCore then
        if s.ownValue ⟨p, 8⟩ ≠ v.toNat then
          .ok ((if m.acq then s.acquireAll s.curCore m.scope (s.dieTime s.curCore) else s.sawUntimed s.curCore).advance m.words)
        else .ok (s.park 7 (.watch r))
      else .ok ((s.park 7 (.req r)).push (serveEvent s.curCore s.curCtx r))

/-- The line of a place in memory. -/
def Place.line? : Place → Option Nat
  | .mem pa => some (lineOf pa)
  | _ => none

/-- `pin` (R121) (DEDUCED, unsafe, log entry 34). -/
def State.pinLine (s : State) (m : MemArg) : Result :=
  match s.check .line (s.selOf m) m.ea 1 1 with
  | .error e => .error e
  | .ok p => match p.line? with
    | none => .ok (s.accepted m.words)
    | some l =>
      let s := s.noteWalk s.curCore s.task.procid.toNat (s.selOf m) m.ea
      .ok (s.request [⟨.mem (l * 64), 64⟩] [] (.pin l) m (s.selOf m) none)

/-- `unpin` (R121): steps 1 to 4 of R106 only. -/
def State.unpinLine (s : State) (m : MemArg) : Result :=
  match s.check .line (s.selOf m) m.ea 1 1 with
  | .error (.miss _ _ _ _) => .ok (s.accepted m.words)
  | .error e => .error e
  | .ok p =>
    let s := match p.line? with
      | some l => s.setTask { s.task with pins := s.task.pins.filter (· ≠ l) }
      | none => s
    .ok (s.accepted m.words)

/-- The executing context's stores to a line that are not yet acknowledged. -/
def State.lineBusy (s : State) (line : Nat) : Bool :=
  let mine := fun (ctx tid : Nat) => ctx = s.curCtx && tid = s.task.tid
  ((s.coreAt s.curCore).wbuf.any fun p => mine p.ctx p.tid && p.place.line? = some line) ||
    ((s.coreAt s.curCore).acks.any fun a => mine a.ctx a.tid && a.line = some line) ||
    (s.dieAt (dieOf s.curCore)).outbound.any fun o => o.core = s.curCore && mine o.ctx o.tid && lineOf o.pa = line

/-- `flush` (R121) (DEDUCED, unsafe, log entry 34). -/
def State.flushLine (s : State) (m : MemArg) : Result :=
  match s.check .line (s.selOf m) m.ea 1 1 with
  | .error e => .error e
  | .ok p => match p.line? with
    | none => .ok (s.accepted m.words)
    | some l =>
      if s.lineBusy l then .error (.retry 1 (.flushLine l))
      else
        let s := s.noteWalk s.curCore s.task.procid.toNat (s.selOf m) m.ea
        let c := s.coreAt s.curCore
        let s := s.setCoreAt s.curCore { c with l1 := c.l1.drop l }
        let s := if homeDie (l * 64) = dieOf s.curCore then s else s.endVisitor (dieOf s.curCore) l
        .ok (s.accepted m.words)

/-- `pref` (R121): a prefetch that would fault or migrate the thread, or whose set is pinned in full (R251), is dropped; another is
READY once its request is accepted (DEDUCED, unsafe, log entry 34). -/
def State.prefetch (s : State) (m : MemArg) : Result :=
  match (s.check .line (s.selOf m) m.ea 1 1).toOption.bind Place.line? with
  | none => .ok (s.accepted m.words)
  | some l =>
    let s := s.noteWalk s.curCore s.task.procid.toNat (s.selOf m) m.ea
    if s.setPinned s.curCore l then .ok (s.accepted m.words)
    else
      let t := s.task.tid
      let c := s.coreAt s.curCore
      let s := s.setCoreAt s.curCore { c with
        splits := c.splits ++ [{ ctx := s.curCtx, tid := t, reg := 0, place := .mem (l * 64), size := 64, before := c.storeSerial, sel := s.selOf m, ea := m.ea }] }
      .ok ((s.push (.splitLoadReply (coreId s.curCore) (splitId t 0))).accepted m.words)

end Sys2Proof.Machine
end

