-- ==== Sys2Proof/Machine/Engine.lean ====
section
/-! DEFINITION. Accesses of the engines of a core (loom loader, copy engine): reads and writes performed
where 10_memory says, with the waits they meet: copy guards (R230), refresh windows (R238), lines that a
host holds (R257), and stamps (R255). -/

namespace Sys2Proof.Machine

/-- A read of the peer's register space: the registers of aperture and counter pages answer as the peer has them, every other
offset and width reads zero (R226, R407, R414, R422) (DESIGN CHOICE, unsafe, log entry 19). -/
def State.peerRegister (s : State) (pa n : Nat) : Nat × State :=
  let page := (pa - 0xC00000000000) / 4096
  let o := pa % 4096
  if (0x200 ≤ page ∧ page < 0x300 ∧ n = 4 ∧ o < 256 ∧ o % 4 = 0) ∨ (0x1000 ≤ page ∧ page < 0x1800 ∧ n = 8 ∧ o = 0) then
    (let w := s.freshWord; (w.1.toNat % 2 ^ (8 * n), w.2))
  else (0, s)

/-- Free values in the general and vector registers of a task, and in those of its lines that are still to come from memory (DESIGN CHOICE,
unsafe, log entry 2). -/
def State.scramble (s : State) (t : Task) : State :=
  let (g, s) := (List.range t.part.gCount).foldl (fun (x : Store Word × State) r =>
    if r = 0 then x else let w := x.2.freshWord; (x.1.set r w.1 0, w.2)) ((t.g, s) : Store Word × State)
  let (v, s) := (List.range t.part.vCount).foldl (fun (x : Store Vec × State) r =>
    let a := x.2.freshLine; let b := a.2.freshLine; (x.1.set r ((a.1.zeroExtend 1024 <<< 512) ||| b.1.zeroExtend 1024) 0, b.2)) ((t.v, s) : Store Vec × State)
  s.mapTask t.tid fun t => { t with g, v, wild := t.absent }

/-- Does a page of a task's image hold the address? -/
def State.imageHolds (s : State) (t : Task) (pa : Nat) : Bool :=
  (List.range (t.part.imageSize / 4096)).any fun i =>
    match s.locate ⟨0, t.procid.toNat, true⟩ .load 1 (t.image + BitVec.ofNat 64 (4096 * i)) 8 with
    | .ok (.mem q) => q / 4096 = pa / 4096
    | _ => false

/-- A program of a process has stored to a page of an image of its own process: the registers of that task are unpredictable (R82). -/
def State.programStored (s : State) (procid pa : Nat) : State :=
  (s.tasks.filter fun t => t.procid.toNat = procid && s.imageHolds t pa).foldl State.scramble s

/-- The same for a store or an atomic of a task. -/
def State.imageStored (s : State) (tid pa : Nat) : State :=
  match s.tasks.find? (·.tid = tid) with
  | none => s
  | some w => s.programStored w.procid.toNat pa

/-- The same for a write of an engine's command: of a copy, or of a loom command of a context. -/
def State.commandStored (s : State) (core : Nat) (w : Writer) (pa : Nat) : State :=
  if w.tid ≠ 0 then s.imageStored w.tid pa
  else match (s.coreAt core).copies.find? fun x => x.serial = w.owner with
    | some x => s.programStored x.procid pa
    | none => s

/-- What an engine's access comes to. -/
inductive Got (α : Type) where
  | ok (v : α) (s : State)
  /-- It waits: it is to be made again, on the state given. -/
  | wait (s : State)
  /-- An uncorrectable data error (R420), at the access of this number. -/
  | bad (n : Nat)
  deriving DecidableEq, Repr

/-- The state after a cross-die reply's stamp has been taken in (R255). -/
def State.learnFrom (s : State) (dn home : Nat) : State :=
  s.setDieAt dn ((s.dieAt dn).learn dn ((s.dieAt home).stamp home))

/-- May a reply of die `home` take effect on die `dn` (R255)? -/
def State.replyAllowed (s : State) (dn home : Nat) : Bool := (s.dieAt dn).allows ((s.dieAt home).stamp home)

/-- May a write of die `dn` be applied at die `home` (R255)? -/
def State.writeAllowed (s : State) (dn home : Nat) : Bool := (s.dieAt home).allows ((s.dieAt dn).stamp dn)

/-- A read at the home slice of the engine's own die, with the core's clock raised (R246). -/
def State.readHome (s : State) (core pa n : Nat) : Nat × State :=
  let s := s.homeFetch pa
  let h := (s.dieAt (homeDie pa)).home.get (lineOf pa) {}
  (s.readPa pa n, s.raiseClock core h.wts)

/-- A read through the die's visitor copy, with the core's clock raised to the copy's write time (R246). -/
def State.readCopy (s : State) (core pa n lease : Nat) : Option (Nat × State) :=
  (s.readVisitor core pa n lease).map fun (x : Nat × State) =>
    (x.1, x.2.raiseClock core (((x.2.dieAt (dieOf core)).visitors.find (lineOf pa)).elim 0 (·.wts)))

/-- A read at the home slice on another die, for an acquire at device or system scope (R246, R247): it waits for the die's own writes of
the bytes, which its contexts may have read (R263), and its reply crosses dies (R255). -/
def State.readFar (s : State) (core pa n : Nat) : Got Nat :=
  let dn := dieOf core
  if (s.dieAt dn).unapplied pa n then .wait s
  else if s.hostOwns (lineOf pa) then .wait (s.askHost (lineOf pa))
  else if !s.replyAllowed dn (homeDie pa) then .wait s
  else
    let s := (s.learnFrom dn (homeDie pa)).homeFetch pa
    .ok (s.readPa pa n) (s.sawUntimed core)

/-- A read of memory by an engine of a core: at the home slice, or, unless `home` asks for that, through the die's visitor copy. -/
def State.engineReadMem (s : State) (core pa n : Nat) (home : Bool := false) : Got Nat :=
  match s.wrapWait (dieOf core) with
  | some s => .wait s
  | none =>
  if isPeerMem pa || isPeerRegs pa then
    if !s.pkg.linkUp then .bad 0
    else if isPeerMem pa then (let r := s.readPeer pa n; .ok r.1 r.2)
    else (let r := s.peerRegister pa n; .ok r.1 r.2)
  else if !s.backed pa then .ok 0 s
  else if s.lineBad pa then .bad 0
  else
    let dn := dieOf core
    let (lease, s) := s.lease
    if homeDie pa = dn then
      if s.hostOwns (lineOf pa) then .wait (s.askHost (lineOf pa))
      else let r := s.readHome core pa n; .ok r.1 r.2
    else if home then s.readFar core pa n
    else match s.readCopy core pa n lease with
      | some (v, s) => .ok v s
      | none =>
        if s.hostOwns (lineOf pa) then .wait (s.askHost (lineOf pa))
        else if !s.replyAllowed dn (homeDie pa) then .wait s
        else
          let s := (s.learnFrom dn (homeDie pa)).homeFetch pa
          let s := s.installVisitor dn (lineOf pa) (s.homeData pa)
          match s.readCopy core pa n lease with
          | some (v, s) => .ok v s
          | none => .wait s

/-- Is a register store of an engine command still on its way, to a page if one is asked for (R408)? -/
def State.registerBusy (s : State) (core owner : Nat) (page : Option Nat) : Bool :=
  s.agenda.any fun e => ackOf e = some (core, 0, 0, owner) && page.all (· = pageOf e)

/-- The width of an engine's accesses of a register page: that of its elements; for a copy, whose accesses have no width of their own,
32 or 64 bits as a free choice (R408) (DESIGN CHOICE, unsafe, log entry 35). -/
def State.registerWidth (s : State) (el : Nat) : Nat × State :=
  if el ≠ 0 then (el, s) else (let p := s.pick 2; (4 + 4 * p.1, p.2))

/-- A read of `n` bytes of a register page by an engine, each access whole and once (R408). -/
def State.readRegisters (s : State) (off n el : Nat) : Nat × State :=
  let (w, s) := s.registerWidth el
  (List.range (n / w)).foldl (fun (r : Nat × State) i =>
    let x := r.2.loadRegister (off + w * i) w
    (r.1 + 256 ^ (w * i) * (x.1 % 256 ^ w), x.2)) (0, s)

/-- Writes of a register page by an engine: the stores are on their way, one after the other (R408). -/
def State.writeRegisters (s : State) (core owner off n v el : Nat) : State :=
  let (w, s) := s.registerWidth el
  (List.range (n / w)).foldl (fun s i =>
    s.push (.registerWrite (off + w * i) (BitVec.ofNat 64 (v / 256 ^ (w * i) % 256 ^ w)) w ((some (core, 0, 0, owner)), none))) s

/-- Is a write of an engine command of a core still to be acknowledged, of memory or of a register page? -/
def State.engineWaits (s : State) (core owner : Nat) : Bool := s.writesOut core owner || s.registerBusy core owner none

/-- A read by an engine of a core; `serial` is the copy that makes it, 0 for the loom; `el` is the size of the elements, 0 for a copy. -/
def State.engineRead (s : State) (core serial : Nat) (a : Acc) (home : Bool := false) (el : Nat := 0) : Got Nat :=
  match a.place with
  | .mem pa => s.engineReadMem core pa a.size home
  | .scratch c off =>
    if (s.coreAt c).guardedFor serial off a.size then .wait s else .ok (s.readScratch c off a.size) (s.sawUntimed core)
  | .weight d off => if s.refreshing d (off / 2 ^ 26) then .wait s else .ok (s.readWeight d off a.size) s
  | .signal off =>
    if s.registerBusy core serial (some (off / 4096)) then .wait s else (let r := s.readRegisters off a.size el; .ok r.1 r.2)
  | .counter _ _ => .ok 0 s

/-- A write to memory by an engine of a core, which waits for what 10_memory makes it wait for: a clock wrap (R250), hosts that hold
the line (R257), epochs (R255), and room in STORECNT for an access of a context (R108). -/
def State.engineStoreMem (s : State) (core : Nat) (w : Writer) (pa n v : Nat) : Got Unit :=
  match s.wrapWait (dieOf core) with
  | some s => .wait s
  | none =>
  if isPeerMem pa || isPeerRegs pa then
    if !s.pkg.linkUp then .bad 0 else .ok () (if isPeerMem pa then s.writePeer pa n v else s)
  else if !s.backed pa then .ok () s
  else
    if homeDie pa = dieOf core then
      if s.hostHolds (lineOf pa) || (s.dieAt (homeDie pa)).sliceq.any (·.line = lineOf pa) then .wait (s.backInvalidate (lineOf pa)) else .ok () (s.engineMem core w pa n v)
    else if s.outboundFull (dieOf core) || (w.tid ≠ 0 && 255 ≤ (s.ctxAt (ctxKey core w.ctx)).task.storecnt) then .wait s
    else .ok () (s.engineMem core w pa n v)

/-- A write by an engine of a core; `el` is the size of the elements, 0 for a copy. -/
def State.engineStore (s : State) (core serial : Nat) (w : Writer) (a : Acc) (v : Nat) (el : Nat := 0) : Got Unit :=
  match a.place with
  | .mem pa => (match s.engineStoreMem core w pa a.size v with
    | .ok u s => .ok u (s.commandStored core w pa)
    | g => g)
  | .scratch c off =>
    if (s.coreAt c).guardedFor serial off a.size then .wait s else .ok () (s.writeScratch c off a.size v w.tid)
  | .weight d off =>
    if s.refreshing d (off / 2 ^ 26) then .wait s
    else .ok () (({ s with mem := writeBytes s.mem (weightKey d off) a.size v }).wakeWatchers a.place)
  | .signal off => .ok () (s.writeRegisters core w.owner off a.size v el)
  | .counter _ _ => .ok () s

/-- Reads one after the other; a data error gives the number of the access. -/
def State.engineReads (s : State) (core serial : Nat) (as : List Acc) (home : Bool := false) (el : Nat := 0) : Got (List Nat) :=
  match as with
  | [] => .ok [] s
  | a :: rest => match s.engineRead core serial a home el with
    | .wait s => .wait s
    | .bad n => .bad n
    | .ok v s => match s.engineReads core serial rest home el with
      | .ok vs s => .ok (v :: vs) s
      | .wait s => .wait s
      | .bad n => .bad (n + 1)

/-- Writes one after the other, of which the first `pos` are done: how many are then done, and whether the next must wait; or a data
error, at the write of this number. -/
def State.engineStores (s : State) (core serial : Nat) (w : Writer) (pos : Nat) (as : List (Acc × Nat)) (el : Nat := 0) : (Nat × Got Unit) :=
  match as with
  | [] => (pos, .ok () s)
  | a :: rest => match s.engineStore core serial w a.1 a.2 el with
    | .ok _ s => s.engineStores core serial w (pos + 1) rest el
    | .wait s => (pos, .wait s)
    | .bad _ => (pos, .bad pos)

/-- The pieces of `n` bytes from an offset that lie in one 64-byte line each: offset and size. -/
def linePieces (ea : Word) : (fuel n : Nat) → List (Word × Nat)
  | 0, _ => []
  | f + 1, n =>
    if n = 0 then []
    else
      let k := Nat.min n (64 - ea.toNat % 64)
      (ea, k) :: linePieces (ea + BitVec.ofNat 64 k) f (n - k)

/-- The pieces of `n` bytes. -/
def pieces (ea : Word) (n : Nat) : List (Word × Nat) := linePieces ea (n / 64 + 2) n

/-- Step 2, 3 and 4 of R106 for a range, as an engine of a core meets them: the selector's space and its
offset limit. -/
def State.limitOk (s : State) (core procid : Nat) (sel : BitVec 16) (ea : Word) (n : Nat) : Bool :=
  let hi := ea.toNat + n
  match spaceOf core sel.toNat with
  | none => false
  | some .shared => hi ≤ 2 ^ 57
  | some .priv => hi ≤ 2 ^ 48
  | some (.scratch c) => clusterOf c = clusterOf core && (match s.alloc c procid with | some a => hi ≤ a.size | none => false)
  | some (.weight _) => hi ≤ 2 ^ 31
  | some .mailbox => false

/-- The checks of R106 on pieces of a range, for the executing context, step 3 and the mailbox space being space faults. Where several bytes
fail, the first piece that fails is the one reported: rows rise, and the plane bytes come last, an order that R198 does not give
(DESIGN CHOICE, unsafe, log entry 47). -/
def State.checkPieces (s : State) (u : Use) (sel : BitVec 16) : List (Word × Nat) → Except Stop (List Acc)
  | [] => .ok []
  | p :: rest => match s.checkNear u sel p.1 p.2 1 with
    | .error e => .error e
    | .ok (.counter _ _) => .error (.trap 4 0 sel p.1)
    | .ok pl => match s.checkPieces u sel rest with
      | .error e => .error e
      | .ok es => .ok (⟨pl, p.2⟩ :: es)

/-- The space fault of an access of several pieces names its effective address (DEDUCED, unsafe, log entry 15). -/
def atBase {α : Type} (base : Word) : Except Stop α → Except Stop α
  | .error (.trap 4 c sel _) => .error (.trap 4 c sel base)
  | r => r

/-- Steps 2 to 5 of R106 over the bytes of a range, for the executing context. -/
def State.checkRange (s : State) (u : Use) (sel : BitVec 16) (base : Word) (n : Nat) : Except Stop (List Acc) :=
  match s.checkAll u sel 1 1 ((pieces base n).map (·.1)) with
  | .error x => atBase base (.error x)
  | .ok _ => atBase base (s.checkPieces u sel (pieces base n))

/-- The bytes of a range from the values of its pieces. -/
def joinPieces : List (Acc × Nat) → Nat
  | [] => 0
  | x :: rest => x.2 + 256 ^ x.1.size * joinPieces rest

end Sys2Proof.Machine
end

