-- ==== Sys2Proof/Machine/Image.lean ====
section
/-! DEFINITION. The context image (Table 6 of R79): its words as the register lines hold them, the lines that a register
file holds, their write-back and their fills (R81), and the shuttle record (Table 9 of R129). -/

namespace Sys2Proof.Machine

/-- Words of a task's image are written back to memory (R81); where the image is not mapped nothing is written (DEDUCED, unsafe, log entry 16). -/
def State.writeImage (s : State) (core : Nat) (t : Task) (state why : Nat) (v : Bool) (words : List Nat) : State :=
  words.foldl (fun s i =>
    (s.engineWrite core t.procid.toNat (t.image + BitVec.ofNat 64 (8 * i)) 8 (t.imageWord state why v i)).getD s) s

/-! ### Residency (R81) -/

/-- The lines of the image that a register file may evict: those of the engines' and the trap registers, offsets 0x140 and 0x1C0, and
those of the general and vector registers. -/
def Part.regLines (p : Part) : List Nat := 5 :: 7 :: (List.range (p.gCount / 8 + 2 * p.vCount)).map (8 + ·)

/-- The lines of a task that a register file holds. -/
def Task.present (t : Task) : List Nat := t.part.regLines.filter (· ∉ t.absent)

/-- The words of a line. -/
def lineIndices (l : Nat) : List Nat := (List.range 8).map (8 * l + ·)

/-- The 64 bytes of a line as the register file holds it. -/
def Task.lineBytes (t : Task) (l : Nat) : Nat :=
  (List.range 8).foldl (fun n i => n + 2 ^ (64 * i) * t.imageWord 0 0 false (8 * l + i)) 0

/-- The offset of a line of the image. -/
def Task.lineOffset (t : Task) (l : Nat) : Word := t.image + BitVec.ofNat 64 (64 * l)

/-- A line is dirty when memory, with what the die has already sent to it, does not hold what the register file holds (DEDUCED, unsafe,
log entry 16). -/
def State.lineDirty (s : State) (core : Nat) (t : Task) (l : Nat) : Bool :=
  match s.locate ⟨core, t.procid.toNat, true⟩ .load 1 (t.lineOffset l) 64 with
  | .ok (.mem pa) =>
    let d := s.dieAt (dieOf core)
    d.heldWrites.any (fun w => lineOf w.pa = lineOf pa) || (d.overOutbound (lineOf pa) (s.homeData pa)).toNat ≠ t.lineBytes l
  | _ => true

/-- The page tables that a walk for an image reads come from the hosts (R257). -/
def State.supplyImage (s : State) (core : Nat) (t : Task) : State :=
  (List.range (t.part.imageSize / 4096)).foldl (fun s i => s.supplyWalk core t.procid.toNat 1 (t.image + BitVec.ofNat 64 (4096 * i))) s

/-- A line of a held task leaves the register file, written back if it is dirty; with the last dirty one the control lines are
written with HOLDER.V clear. One whose image is not mapped stays (DEDUCED, unsafe, log entry 16). -/
def State.evictLine (s : State) (core : Nat) (t : Task) (l : Nat) : State :=
  let s := s.supplyImage core t
  let w := if s.lineDirty core t l then s.engineWrite core t.procid.toNat (t.lineOffset l) 64 (t.lineBytes l) else some s
  match w with
  | none => s
  | some s =>
    let t := { t with absent := l :: t.absent }
    let s := s.mapTask t.tid fun x => { x with absent := l :: x.absent }
    if t.present.any fun l => s.lineDirty core t l then s else s.writeImage core t 2 4 false (List.range 40)

/-- The held tasks whose lines the register file of a context still holds, with a line each. -/
def State.evictable (s : State) (k : Nat) : List (Task × Nat) :=
  ((s.coreAt (k / 16)).held.filter fun h => h.2.holder = some (k / 16, k % 16)).flatMap fun h => h.2.present.map fun l => (h.2, l)

/-- A line comes to a context's register file: an evictable line leaves for it, or none; which, is a free choice (R81) (DEDUCED,
unsafe, log entry 16). -/
def State.evictFor (s : State) (k : Nat) : State :=
  let ls := s.evictable k
  if ls.isEmpty then s
  else
    let (n, s) := s.pick (ls.length + 1)
    match ls[n]? with
    | some (t, l) => s.evictLine (k / 16) t l
    | none => s

/-- All lines of a task come to a context's register file. -/
def State.evictLinesFor (s : State) (k : Nat) : State :=
  if (s.evictable k).isEmpty then s else (s.ctxAt k).task.part.regLines.foldl (fun s _ => s.evictFor k) s

/-- The task as no register file holds its lines. -/
def Task.dropped (t : Task) : Task := { t with holder := none, absent := t.part.regLines }

/-- A task's dirty lines are written back by the register file that holds them, its control lines with HOLDER.V clear (R77, R81). -/
def State.writeBack (s : State) (core : Nat) (t : Task) : State :=
  let s := s.supplyImage core t
  let s := (t.present.filter (s.lineDirty core t)).foldl (fun s l =>
    (s.engineWrite core t.procid.toNat (t.lineOffset l) 64 (t.lineBytes l)).getD s) s
  s.writeImage core { t with holder := none } 2 4 false (List.range 40)

/-- Are writes of images by the cores of a die still to be acknowledged? -/
def State.imageWrites (s : State) (die : Nat) : Bool :=
  let d := s.dieAt die
  d.outbound.any (fun o => o.owner = 0 && o.tid = 0) || d.heldWrites.any fun w => w.owner = 0 && w.tid = 0

/-- The task as it takes a context again: the lines of the engines' and the trap registers come with its control lines (DEDUCED, unsafe, log
entry 16). -/
def Task.restored (t : Task) : Task := { t with absent := t.absent.filter (8 ≤ ·) }

/-- The registers of a line take the bytes read from memory. -/
def Task.takeLine (t : Task) (l v : Nat) : Task :=
  let first := 8 + t.part.gCount / 8
  let t := { t with absent := t.absent.filter (· ≠ l), wild := t.wild.filter (· ≠ l) }
  if l < 8 then t
  else if l < first then
    { t with g := (List.range 8).foldl (fun m i =>
        let r := 8 * (l - 8) + i
        if r = 0 then m else m.set r (BitVec.ofNat 64 (v / 2 ^ (64 * i))) 0) t.g }
  else
    let j := (l - first) / 2
    let low : Vec := (BitVec.allOnes 512).zeroExtend 1024
    let x := BitVec.ofNat 1024 (v % 2 ^ 512)
    { t with v := t.v.set j (if (l - first) % 2 = 0 then (t.vr j &&& ~~~low) ||| x else (t.vr j &&& low) ||| (x <<< 512)) 0 }

/-- A register line of the executing task comes from its image; from one that is not mapped the registers are as they were
(DEDUCED, unsafe, log entry 16); where a program has stored to the image they are free values (R82). -/
def State.fillRegisters (s : State) (l : Nat) : Got Unit :=
  let t := s.task
  let s := s.supplyWalk s.curCore t.procid.toNat 1 (t.lineOffset l)
  if l ∉ t.absent then .ok () s
  else if l ∈ t.wild then
    (let (d, s) := (s.evictFor s.cur).freshLine; .ok () (s.setTask (s.task.takeLine l d.toNat)))
  else if s.imageWrites (dieOf s.curCore) then .wait s
  else match s.locate ⟨s.curCore, t.procid.toNat, true⟩ .load 1 (t.lineOffset l) 64 with
    | .error _ => .ok () ((s.evictFor s.cur).setTask { t with absent := t.absent.filter (· ≠ l) })
    | .ok p => match (s.evictFor s.cur).engineRead s.curCore 0 ⟨p, 64⟩ with
      | .wait s => .wait s
      | .bad n => .bad n
      | .ok v s => .ok () (s.setTask (s.task.takeLine l v))

/-! ### The shuttle record (Table 9 of R129) -/

/-- The general and vector registers that a shuttle carries, in ascending number. -/
def Task.liveRegs (t : Task) : List Nat × List Nat :=
  ((List.range t.part.gCount).filter fun r => r ≠ 0 && t.liveg.getLsbD r, (List.range t.part.vCount).filter fun r => t.livev.getLsbD r)

/-- The four words of a 256-bit mask. -/
def maskWords (m : BitVec 256) : List Nat := (List.range 4).map fun i => m.toNat / 2 ^ (64 * i) % 2 ^ 64

/-- The words of the shuttle record, padded with zeros to a multiple of 8 (DEDUCED, unsafe, log entry 40). -/
def Task.shuttleWords (t : Task) : List Nat :=
  let r := t.liveRegs
  let ws := [t.controlWord 0 0 false 0, t.controlWord 0 0 false 1,
      256 * t.mode.toNat + 512 * t.part.code + 2048 * t.procid.toNat, t.flags.toNat, t.skey.toNat, t.taskidx.toNat, t.image.toNat, t.vtime.toNat] ++
    maskWords t.liveg ++ [t.livev.toNat, t.fwd, 0, 0] ++ maskWords (t.full &&& t.liveg) ++ maskWords t.pend ++
    r.1.map (fun i => (t.gr i).toNat) ++ r.2.flatMap fun j => (List.range 16).map fun i => (t.vr j).toNat / 2 ^ (64 * i) % 2 ^ 64
  ws ++ List.replicate ((8 - ws.length % 8) % 8) 0

end Sys2Proof.Machine
end

