-- ==== Sys2Proof/Machine/Flags.lean ====
section
/-! DEFINITION. Number formats, rounding, saturation and the sticky flags (05_formats R138 to R155), and
the functions of the long operations (R174). A real number is held exactly, as a sign, a natural number
and a power of two; an irrational one as its truncation with a sticky bit. -/

namespace Sys2Proof.Machine

/-! ### Flags (Table 6 of R153) -/

/-- NV, invalid. -/
def fNV : Word := 1
/-- OF, overflow. -/
def fOF : Word := 2
/-- UF, underflow. -/
def fUF : Word := 4
/-- NX, inexact. -/
def fNX : Word := 8
/-- ST, saturated. -/
def fST : Word := 16

/-- A flag if a condition holds. -/
def flagIf (p : Bool) (f : Word) : Word := if p then f else 0

/-! ### Values -/

/-- An exact value: NaN, an infinity, or (−1)^neg × m × 2^e; with `sticky` the magnitude lies strictly
between m × 2^e and (m + 1) × 2^e. -/
inductive Num where
  | nan (signalling : Bool)
  | inf (neg : Bool)
  | fin (neg : Bool) (m : Nat) (e : Int) (sticky : Bool)
  deriving DecidableEq, Repr

/-- An exact dyadic value. -/
def Num.dy (neg : Bool) (m : Nat) (e : Int) : Num := .fin neg m e false

/-- An integer as a value. -/
def Num.ofInt (i : Int) : Num := .dy (i < 0) i.natAbs 0

/-- Is the value a NaN? -/
def Num.isNan : Num → Bool
  | .nan _ => true
  | _ => false

/-- Is the value a signalling NaN? -/
def Num.isSnan : Num → Bool
  | .nan s => s
  | _ => false

/-- The sign of a value; a NaN has none. -/
def Num.neg : Num → Bool
  | .nan _ => false
  | .inf n => n
  | .fin n _ _ _ => n

/-- Is the value a zero? -/
def Num.isZero : Num → Bool
  | .fin _ m _ s => m = 0 && !s
  | _ => false

/-- Is the value an infinity? -/
def Num.isInf : Num → Bool
  | .inf _ => true
  | _ => false

/-- The value times 2^k (R146). -/
def Num.scale (x : Num) (k : Int) : Num :=
  match x with
  | .fin n m e s => .fin n m (e + k) s
  | x => x

/-- The value with its sign changed. -/
def Num.negate : Num → Num
  | .nan s => .nan s
  | .inf n => .inf !n
  | .fin n m e s => .fin (!n) m e s

/-- The signed integer of a dyadic value over a common exponent at or below its own. -/
def alignTo (neg : Bool) (m : Nat) (e base : Int) : Int :=
  let a : Int := m * 2 ^ (e - base).toNat
  if neg then -a else a

/-- A dyadic value from an integer and an exponent; `z` is the sign of a zero. -/
def ofScaled (a : Int) (e : Int) (z : Bool) : Num := if a = 0 then .dy z 0 e else .dy (a < 0) a.natAbs e

/-- The sum of two values, exact (R161); `down` when the rounding mode is down. -/
def Num.add (x y : Num) (down : Bool) : Num × Word :=
  let f := flagIf (x.isSnan || y.isSnan) fNV
  match x, y with
  | .nan _, _ | _, .nan _ => (.nan false, f)
  | .inf a, .inf b => if a = b then (.inf a, f) else (.nan false, f ||| fNV)
  | .inf a, _ | _, .inf a => (.inf a, f)
  | .fin a m e _, .fin b n k _ =>
    let c := if e ≤ k then e else k
    let t := alignTo a m e c + alignTo b n k c
    (ofScaled t c (if m = 0 ∧ n = 0 ∧ a = b then a else down), f)

/-- The product of two values, exact (R161). -/
def Num.mul (x y : Num) : Num × Word :=
  let f := flagIf (x.isSnan || y.isSnan) fNV
  match x, y with
  | .nan _, _ | _, .nan _ => (.nan false, f)
  | .inf a, .inf b => (.inf (a ^^ b), f)
  | .inf a, .fin b m _ _ | .fin b m _ _, .inf a => if m = 0 then (.nan false, f ||| fNV) else (.inf (a ^^ b), f)
  | .fin a m e _, .fin b n k _ => (.dy (a ^^ b) (m * n) (e + k), f)

/-- A × B + C, exact; 0 × ∞ is invalid even when C is a quiet NaN (R161). -/
def Num.fma (x y z : Num) (down : Bool) : Num × Word :=
  let p := x.mul y
  let s := p.1.add z down
  (s.1, p.2 ||| s.2)

/-- Is `x` below `y`? −0 counts as smaller than +0 (R164); neither is a NaN. -/
def Num.below (x y : Num) : Bool :=
  match x, y with
  | .inf a, .inf b => a && !b
  | .inf a, _ => a
  | _, .inf b => !b
  | .fin a m e _, .fin b n k _ =>
    let c := if e ≤ k then e else k
    let s := alignTo a m e c
    let t := alignTo b n k c
    s < t || (m = 0 && n = 0 && a && !b)
  | _, _ => false

/-- Are two values, neither a NaN, equal (+0 equals −0)? -/
def Num.same (x y : Num) : Bool :=
  match x, y with
  | .inf a, .inf b => a = b
  | .fin a m e _, .fin b n k _ =>
    let c := if e ≤ k then e else k
    alignTo a m e c = alignTo b n k c
  | _, _ => false

/-! ### Floating-point formats (R139 to R142) -/

/-- A floating-point format: width, precision, log2 of the smallest spacing, magnitude code of the largest
finite value, magnitude code of the infinity, code of the canonical NaN, whether it has a sign bit, and
whether it is one of the IEEE formats (negative zero, several NaNs). -/
structure Fmt where
  w : Nat
  p : Nat
  qmin : Int
  maxCode : Nat
  infCode : Option Nat
  nan : Nat
  signed : Bool
  ieee : Bool
  deriving DecidableEq, Repr

/-- FP32. -/
def fp32 : Fmt := ⟨32, 24, -149, 0x7F7FFFFF, some 0x7F800000, 0x7FC00000, true, true⟩
/-- BF16. -/
def bf16 : Fmt := ⟨16, 8, -133, 0x7F7F, some 0x7F80, 0x7FC0, true, true⟩
/-- FP16. -/
def fp16 : Fmt := ⟨16, 11, -24, 0x7BFF, some 0x7C00, 0x7E00, true, true⟩

/-- The binary8 format of the low five bits U X P of a code (Table 1 of R138). -/
def binary8 (uxp : Nat) : Fmt :=
  let p := uxp % 8
  let ext := uxp / 8 % 2 = 1
  if uxp / 16 % 2 = 1 then
    ⟨8, p, 1 - (2 ^ (8 - p) : Nat) - (p - 1 : Nat), if ext then 0xFD else 0xFE, if ext then some 0xFE else none, 0xFF, false, false⟩
  else
    ⟨8, p, 1 - (2 ^ (7 - p) : Nat) - (p - 1 : Nat), if ext then 0x7E else 0x7F, if ext then some 0x7F else none, 0x80, true, false⟩

/-- The value of a magnitude code that is neither a NaN nor an infinity (R139, R141). -/
def Fmt.mag (f : Fmt) (c : Nat) (neg : Bool) : Num :=
  let e := c / 2 ^ (f.p - 1)
  let t := c % 2 ^ (f.p - 1)
  if e = 0 then .dy neg t f.qmin else .dy neg (2 ^ (f.p - 1) + t) (f.qmin + e - 1)

/-- The value of a code (R139, R141, R142). -/
def Fmt.decode (f : Fmt) (c : Nat) : Num :=
  let half := 2 ^ (f.w - 1)
  let neg := f.signed && half ≤ c
  let m := if f.signed then c % half else c
  if f.ieee then
    match f.infCode with
    | some i => if m = i then .inf neg else if i < m then .nan (m / 2 ^ (f.p - 2) % 2 = 0) else f.mag m neg
    | none => f.mag m neg
  else if c = f.nan then .nan false
  else if f.infCode = some m then .inf neg
  else f.mag m neg

/-- The code of a magnitude with a sign. -/
def Fmt.withSign (f : Fmt) (neg : Bool) (m : Nat) : Nat := if neg && f.signed then 2 ^ (f.w - 1) + m else m

/-! ### Rounding (R147, R148) -/

/-- The rounding modes of RND (R44). -/
inductive Rnd where
  | rne | rtz | rup | rdn | rsr
  deriving DecidableEq, Repr

/-- The mode of an RND code. -/
def Rnd.ofCode (n : Nat) : Rnd :=
  match n with
  | 1 => .rtz | 2 => .rup | 3 => .rdn | 4 => .rsr | _ => .rne

/-- A magnitude on a grid of spacing 2^q: the whole multiple, the remainder over 2^k, and the sticky bit. -/
structure OnGrid where
  kept : Nat
  rest : Nat
  k : Nat
  sticky : Bool
  deriving DecidableEq, Repr

/-- m × 2^e on the grid of spacing 2^q. -/
def onGrid (m : Nat) (e q : Int) (sticky : Bool) : OnGrid :=
  if q ≤ e then ⟨m * 2 ^ (e - q).toNat, 0, 0, sticky⟩
  else let k := (q - e).toNat; ⟨m / 2 ^ k, m % 2 ^ k, k, sticky⟩

/-- Does the value lie off the grid? -/
def OnGrid.inexact (g : OnGrid) : Bool := g.rest ≠ 0 || g.sticky

/-- The multiple that the mode picks (R147, R148); `draw` is R of R149 (DEDUCED, unsafe, log entry 42). -/
def OnGrid.round (g : OnGrid) (mode : Rnd) (neg : Bool) (draw : Nat) : Nat :=
  let away := match mode with
    | .rne => 2 ^ g.k < 2 * g.rest || (0 < g.k && 2 * g.rest = 2 ^ g.k && (g.sticky || g.kept % 2 = 1))
    | .rtz => false
    | .rup => g.inexact && !neg
    | .rdn => g.inexact && neg
    | .rsr => draw < g.rest * 4096 / 2 ^ g.k
  if away then g.kept + 1 else g.kept

/-- The leading exponent of m × 2^e. -/
def leadExp (m : Nat) (e : Int) : Int := e + (m.log2 : Int)

/-- The result of an overflow (Table 4 of R150): the code, and whether SAT replaced the value. -/
def Fmt.overflow (f : Fmt) (mode : Rnd) (neg sat : Bool) : Nat :=
  let toMax := sat || (match mode with | .rtz => true | .rup => neg | .rdn => !neg | _ => false)
  if toMax then f.withSign neg f.maxCode
  else match f.infCode with
    | some i => f.withSign neg i
    | none => f.nan

/-- A value rounded into a format: the code and the flags (R147 to R151, R154). -/
def Fmt.encode (f : Fmt) (mode : Rnd) (draw : Nat) (sat : Bool) (x : Num) : Nat × Word :=
  match x with
  | .nan s => (f.nan, flagIf s fNV)
  | .inf neg =>
    if neg && !f.signed then (if sat then (0, fST) else (f.nan, fNV))
    else if sat then (f.withSign neg f.maxCode, fST)
    else match f.infCode with
      | some i => (f.withSign neg i, 0)
      | none => (f.nan, fNV)
  | .fin neg m e sticky =>
    if m = 0 ∧ !sticky then (if neg && f.ieee then f.withSign true 0 else 0, 0)
    else if neg && !f.signed then (if sat then (0, fST) else (f.nan, fNV))
    else
      let q0 := leadExp m e - (f.p - 1 : Nat)
      let q := if q0 < f.qmin then f.qmin else q0
      let g := onGrid m e q sticky
      let r := g.round mode neg draw
      let code := (q - f.qmin).toNat * 2 ^ (f.p - 1) + r
      let tiny := onGrid m e q0 sticky |>.round mode neg draw
      let isTiny : Bool := leadExp tiny q0 < f.qmin + (f.p - 1 : Nat)
      if code ≤ f.maxCode then
        (if code = 0 then (if neg && f.ieee then f.withSign true 0 else 0) else f.withSign neg code,
          flagIf g.inexact fNX ||| flagIf (g.inexact && isTiny) fUF)
      else (f.overflow mode neg sat, fOF ||| fNX ||| flagIf sat fST)

/-- A value rounded and clamped to an integer range (R152): the integer and the flags. -/
def encodeInt (lo hi : Int) (mode : Rnd) (draw : Nat) (sat : Bool) (x : Num) : Int × Word :=
  let clamp := if sat then fST else fNV
  match x with
  | .nan _ => (0, fNV)
  | .inf neg => (if neg then lo else hi, clamp)
  | .fin neg m e sticky =>
    let g := onGrid m e 0 sticky
    let r : Int := g.round mode neg draw
    let v := if neg then -r else r
    let f := flagIf g.inexact fNX
    if v < lo then (lo, f ||| clamp) else if hi < v then (hi, f ||| clamp) else (v, f)

/-- The draw R of R149, from K, T and E. -/
def draw (key : Word) (t : Nat) (e : Nat) : Nat :=
  let z : Word := key ^^^ (BitVec.ofNat 64 t <<< 57) ^^^ (BitVec.ofNat 64 e * 0x9E3779B97F4A7C15#64)
  let z := (z ^^^ (z >>> 30)) * 0xBF58476D1CE4E5B9#64
  let z := (z ^^^ (z >>> 27)) * 0x94D049BB133111EB#64
  let z := z ^^^ (z >>> 31)
  z.toNat / 2 ^ 52

/-! ### Functions of the long operations (R174) -/

/-- Newton's iteration for the integer square root, from above. -/
def isqrtLoop (n : Nat) : Nat → Nat → Nat
  | 0, x => x
  | k + 1, x => let y := (x + n / x) / 2; if x ≤ y then x else isqrtLoop n k y

/-- The integer square root. -/
def isqrt (n : Nat) : Nat := if n = 0 then 0 else isqrtLoop n (n.log2 + 2) (2 ^ (n.log2 / 2 + 1))

/-- 1/x for a nonzero finite x. -/
def recip (neg : Bool) (m : Nat) (e : Int) : Num :=
  let k := m.log2 + 128
  .fin neg (2 ^ k / m) (-e - k) (2 ^ k % m ≠ 0)

/-- 1/√x for a positive finite x: √(2^2k / x) with an even exponent. -/
def recipSqrt (m : Nat) (e : Int) : Num :=
  let (m, e) := if e % 2 = 0 then (m, e) else (2 * m, e - 1)
  let k := m.log2 + 256
  let k := k + k % 2
  let n := 2 ^ k / m
  let r := isqrt n
  .fin false r (-(e / 2) - (k / 2 : Nat)) (r * r ≠ n || 2 ^ k % m ≠ 0)

/-- 2^f − scaled by 2^w, truncated −, for f = n / 2^b: the product of the roots 2^(1/2^i) of the bits set. -/
def exp2Frac (w n : Nat) : (b : Nat) → (root acc : Nat) → Nat
  | 0, _, acc => acc
  | b + 1, root, acc =>
    let root := isqrt (root * 2 ^ w)
    exp2Frac w n b root (if n / 2 ^ b % 2 = 1 then acc * root / 2 ^ w else acc)

/-- 2^x for a finite x, at a precision of 320 bits (DEDUCED, safe, log entry 24). -/
def exp2 (neg : Bool) (m : Nat) (e : Int) : Num :=
  if 0 ≤ e then
    let v := m * 2 ^ e.toNat
    if 4096 < v then (if neg then .fin false 1 (-5000) true else .fin false 1 5000 true)
    else .dy false 1 (if neg then -(v : Int) else v)
  else
    let b := (-e).toNat
    let n : Int := if neg then -(m : Int) else m
    let i := n / (2 ^ b : Nat)
    let f := (n % (2 ^ b : Nat)).toNat
    if 4096 < i then .fin false 1 5000 true
    else if i < -4096 then .fin false 1 (-5000) true
    else if f = 0 then .dy false 1 i
    else .fin false (exp2Frac 320 f b (2 * 2 ^ 320) (2 ^ 320) / 2 ^ 160) (i - 160) true

/-- The bits of log2 y for y in [1, 2), scaled by 2^w: one bit for each squaring. -/
def log2Frac (w : Nat) : (b : Nat) → (y acc : Nat) → Nat
  | 0, _, acc => acc
  | b + 1, y, acc =>
    let y := y * y / 2 ^ w
    if 2 ^ (w + 1) ≤ y then log2Frac w b (y / 2) (2 * acc + 1) else log2Frac w b y (2 * acc)

/-- log2 x for a positive finite x, at a precision of 400 bits (DEDUCED, safe, log entry 24). -/
def log2Of (m : Nat) (e : Int) : Num :=
  let k := leadExp m e
  if m = 2 ^ m.log2 then .ofInt k
  else
    let y := m * 2 ^ 400 / 2 ^ m.log2
    let f : Int := log2Frac 400 160 y 0
    let v := k * (2 ^ 160 : Nat) + f
    if 0 ≤ v then .fin false v.toNat (-160) true else .fin true ((-v).toNat - 1) (-160) true

end Sys2Proof.Machine
end

