-- ==== Sys2Proof/Machine/LoomHold.lean ====
section
/-! DEFINITION. The loom's resources and their holders: claims (R187), eviction, recall and restore
(R190), and tensor descriptors with the values of their elements (R138, R144, R146, R191, R192). -/

namespace Sys2Proof.Machine

/-- A loom resource (Table 1 of R185). -/
inductive Res where
  | slot (n : Nat)
  | acc (n : Nat)
  | tid (n : Nat)
  deriving DecidableEq, Repr

/-- The holder of a resource. -/
def Core.holder (c : Core) : Res → Option Nat
  | .slot n => (c.slots.get n {}).holder
  | .acc n => (c.accs.get n {}).holder
  | .tid n => (c.tensors.get n {}).holder

/-- The core with a resource free. -/
def Core.release (c : Core) : Res → Core
  | .slot n => { c with slots := c.slots.drop n }
  | .acc n => { c with accs := c.accs.drop n }
  | .tid n => { c with tensors := c.tensors.drop n }

/-- The core with a resource given to a task, empty. -/
def Core.give (c : Core) (key : Nat) : Res → Core
  | .slot n => { c with slots := c.slots.put n { holder := some key } }
  | .acc n => { c with accs := c.accs.put n { holder := some key } }
  | .tid n => { c with tensors := c.tensors.put n { holder := some key } }

/-- The context of a core that a task occupies (R187: present). -/
def State.occupant (s : State) (core key : Nat) : Option Nat :=
  (s.ctxs.find? fun x => x.1 / 16 = core && x.2.state ≠ .free && x.2.task.key = key).map (·.1)

/-- Is the context parked in a claim, recall or restore wait? -/
def Context.claiming (x : Context) : Bool := match x.wait with | .claim _ | .saved _ | .loomRecall | .loomRestore => true | _ => false

/-- The offsets, in a save area, of the pages that hold a resource (Table 3 of R189) (DESIGN CHOICE, unsafe, log entry 18). -/
def Res.pages : Res → List Nat
  | .slot n => [0, 0x2000 + 4096 * n]
  | .acc n => 0 :: (List.range 4).map fun k => 0x12000 + 16384 * n + 4096 * k
  | .tid _ => [0, 0x1000]

/-- The first page of a save area that a resource needs and that is not mapped with the permission. -/
def State.saveMiss (s : State) (core : Nat) (a : Saved) (write : Bool) (r : Res) : Option Nat :=
  r.pages.find? fun o => match s.lookup core a.procid true (a.lsave.toNat + o) with
    | some (t, _) => !(if write then t.w else t.r && (o ≠ 0 || t.w))
    | none => true

/-- The tables and the pages that a resource needs in a save area come from the hosts at once, for the loom of a core. -/
def State.supplySave (s : State) (core : Nat) (a : Saved) (r : Res) : State :=
  r.pages.foldl (fun s o => s.supplyWalk core a.procid 1 (a.lsave + BitVec.ofNat 64 o)) s

/-- The record of a faulting save-area access, for the task that owns the area (R190): its context where it occupies one, else the core
of the loom and UNIT 0 (DESIGN CHOICE, unsafe, log entry 18). -/
def State.saveRecord (s : State) (a : Saved) (key core off : Nat) (w : Bool) : FaultRec :=
  let r : FaultRec := { kind := 1, w, procid := a.procid, core, info := a.lsave + BitVec.ofNat 64 off, sel := 1
                        image := BitVec.ofNat 64 (key / 1024) }
  let r := match s.tasks.find? (·.key = key) with
    | some t => { r with pc := t.pc, pmode := t.mode }
    | none => r
  match s.ctxs.find? fun x => x.2.state ≠ .free && x.2.task.key = key with
  | some x => { r with core := x.1 / 16, unit := x.1 % 16 }
  | none => r

/-! ### The bytes of a save area (Table 3 of R189) -/

/-- The bytes of a slot tag (Table 6 of R195). -/
def Slot.tagBytes (x : Slot) : Nat :=
  x.fmt % 256 + 2 ^ 8 * (x.vr % 256) + 2 ^ 16 * (x.vc % 256) + 2 ^ 24 * (x.state % 256) + 2 ^ 32 * x.sb.toNat +
    2 ^ 128 * x.cb.toNat + 2 ^ 512 * x.exp.toNat

/-- Bits of an element in the slot data: a row of 64 elements takes that many times 8 bytes (R195) (DESIGN CHOICE, unsafe, log entry 18). -/
def slotBits (fmt : Nat) : Nat := if fmt = 1 ∨ fmt = 2 then 16 else if 0xA0 ≤ fmt ∧ fmt < 0xC0 then 4 else 8

/-- Line `j` of a slot's data in a save area (DESIGN CHOICE, unsafe, log entry 18). -/
def Slot.dataLine (x : Slot) (j : Nat) : Nat :=
  let b := slotBits x.fmt
  let n := 512 / b
  (List.range n).foldr (fun i v => (x.data.get (n * j + i) 0).toNat % 2 ^ b + 2 ^ b * v) 0

/-- Line `j` of an accumulator in a save area. -/
def Accum.dataLine (x : Accum) (j : Nat) : Nat :=
  (List.range 16).foldr (fun i v => (x.data.get (16 * j + i) 0).toNat + 2 ^ 32 * v) 0

/-- What a save area holds of its listed resources, as offsets with the values of 64 bytes there. -/
def Saved.lines (a : Saved) : Res → List (Nat × Nat)
  | .slot n =>
    let x := a.slots.get n {}
    [(0x800 + 128 * n, x.tagBytes % 2 ^ 512), (0x840 + 128 * n, x.tagBytes / 2 ^ 512)] ++
      (List.range 64).map fun j => (0x2000 + 4096 * n + 64 * j, x.dataLine j)
  | .acc n =>
    let x := a.accs.get n {}
    (List.range 256).map fun j => (0x12000 + 16384 * n + 64 * j, x.dataLine j)
  | .tid n => [(0x1000 + 64 * n, (a.tensors.get n {}).data.toNat)]

/-- SAVEDR and SAVEDT. -/
def Saved.header (a : Saved) : Nat :=
  a.slots.foldl (fun v x => v + 2 ^ x.1) 0 + a.accs.foldl (fun v x => v + 2 ^ (16 + x.1)) 0 +
    a.tensors.foldl (fun v x => v + 2 ^ (64 + x.1)) 0

/-- Where bytes of a save area lie in memory, for the loom of a core. -/
def State.savePlace (s : State) (core : Nat) (a : Saved) (off : Nat) : Option Nat :=
  match s.lookup core a.procid true (a.lsave.toNat + off) with
  | none => none
  | some (t, _) => match s.placeOf t (a.lsave.toNat + off) with
    | .mem pa => some pa
    | _ => none

/-- The loom of a core writes bytes of a save area, as its engine writes memory (R246, R253, R255). -/
def State.saveWrite (s : State) (core : Nat) (a : Saved) (off n v : Nat) : State :=
  match s.savePlace core a off with
  | some pa => s.engineMem core {} pa n v
  | none => s

/-- SAVEDR and SAVEDT are written. -/
def State.saveHeader (s : State) (core : Nat) (a : Saved) : State := s.saveWrite core a 0 16 a.header

/-- The task with a key, changed, wherever it is. -/
def State.mapKey (s : State) (key : Nat) (f : Task → Task) : State :=
  let g := fun (t : Task) => if t.key = key then f t else t
  { s with
    ctxs := s.ctxs.map fun x => (x.1, { x.2 with task := g x.2.task })
    cores := s.cores.map fun x => (x.1, { x.2 with
      inbound := x.2.inbound.map g
      held := x.2.held.map fun h => (h.1, g h.2) })
    pkg := { s.pkg with shuttles := s.pkg.shuttles.map fun h => (g h.1, h.2) } }

/-- Everything a task holds on a core. -/
def Core.heldBy (c : Core) (key : Nat) : List Res :=
  (c.slots.filter (·.2.holder = some key)).map (fun x => .slot x.1) ++
    (c.accs.filter (·.2.holder = some key)).map (fun x => .acc x.1) ++
    (c.tensors.filter (·.2.holder = some key)).map (fun x => .tid x.1)

/-- HV of a task is 1 while a holding is present in the loom of its holding core (R188). -/
def State.noteGone (s : State) (core key : Nat) : State :=
  if (s.coreAt core).heldBy key = [] then
    s.mapKey key fun t => if t.lheldCore.toNat = core then { t with lheldV := false } else t
  else s

/-- A resource's content is written into its holder's save area; the resource is then free on the core
(R190, eviction) (DESIGN CHOICE, unsafe, log entry 18). -/
def State.evict (s : State) (core key : Nat) (r : Res) : Except Stop State :=
  let c := s.coreAt core
  match s.pkg.saves.find key with
  | none => .ok ((s.setCoreAt core (c.release r)).noteGone core key)
  | some a =>
    let s := s.supplySave core a r
    match s.saveMiss core a true r with
    | some off => .error (.saveFault (s.saveRecord a key core off true) key)
    | none =>
      let a := match r with
        | .slot n => { a with slots := a.slots.put n (c.slots.get n {}) }
        | .acc n => { a with accs := a.accs.put n (c.accs.get n {}) }
        | .tid n => { a with tensors := a.tensors.put n (c.tensors.get n {}) }
      let s := (s.setCoreAt core (c.release r)).setPkg { s.pkg with saves := s.pkg.saves.put key a }
      let s := (a.lines r).foldl (fun s x => s.saveWrite core a x.1 64 x.2) s
      .ok ((s.saveHeader core a).noteGone core key)

/-- Obtains a resource for a task (R187): a newly obtained one is empty, one already held keeps its
content; or the claim waits for its holder. -/
def State.obtain (s : State) (core key procid : Nat) (r : Res) : Except Stop State :=
  let give := fun (s : State) => s.setCoreAt core ((s.coreAt core).give key r)
  match (s.coreAt core).holder r with
  | none => .ok (give s)
  | some h =>
    if h = key then .ok s
    else match s.occupant core h with
      | none => (s.evict core h r).map give
      | some k =>
        let x := s.ctxAt k
        if x.task.procid.toNat ≠ procid && x.claiming then (s.evict core h r).map give
        else .error (.retry 3 (.claim h))

/-- Obtains resources one after the other. -/
def State.obtainAll (s : State) (core key procid : Nat) : List Res → Except Stop State
  | [] => .ok s
  | r :: rest => match s.obtain core key procid r with
    | .ok s => s.obtainAll core key procid rest
    | .error e => .error e

/-- The resources whose content lies in a task's save area. -/
def Saved.all (a : Saved) : List Res :=
  a.slots.map (fun x => .slot x.1) ++ a.accs.map (fun x => .acc x.1) ++ a.tensors.map (fun x => .tid x.1)

/-- Does the executing task have a resource in its save area? -/
def State.hasSaved (s : State) : Bool := match s.pkg.saves.find s.task.key with | some a => !a.all.isEmpty | none => false

/-- An instruction that names a loom resource waits for a recall from another core, then for a restore
(R190). -/
def State.loomReady (s : State) (k : Result) : Result :=
  if s.task.lheldV && s.task.lheldCore.toNat ≠ s.curCore then .error .recall
  else if s.hasSaved then .error .restore
  else k

/-- A claiming instruction (R187): a task without a save area takes a loom fault; the resources are
obtained on the executing core, which becomes the holding core. -/
def State.claim (s : State) (rs : List Res) (k : State → Result) : Result :=
  let t := s.task
  if t.lsave = 0 then .error (.trap 8 0 0 0)
  else match s.obtainAll s.curCore t.key t.procid.toNat rs with
    | .error e => .error e
    | .ok s =>
      let p := s.pkg
      let s := if (p.saves.find t.key).isSome then s
        else s.setPkg { p with saves := p.saves.put t.key { procid := t.procid.toNat, lsave := t.lsave } }
      let t := s.task
      k (s.setTask { t with
        lheldCore := BitVec.ofNat 8 s.curCore, lheldV := true
        lheldSlots := rs.foldl (fun m r => match r with | .slot n => m ||| (1#16 <<< n) | _ => m) t.lheldSlots
        lheldAccs := rs.foldl (fun m r => match r with | .acc n => m ||| (1#4 <<< n) | _ => m) t.lheldAccs
        theld := rs.foldl (fun m r => match r with | .tid n => m ||| (1#64 <<< n) | _ => m) t.theld })

/-- Does the executing task hold a resource on its core? -/
def State.holds (s : State) (r : Res) : Bool := (s.coreAt s.curCore).holder r = some s.task.key

/-! ### Tensor descriptors (R191) -/

/-- The fields of a tensor descriptor (Table 4). -/
structure Desc where
  base : Nat
  stride : Nat
  rows : Nat
  cols : Nat
  fmt : Nat
  pl : Bool
  sb : Int
  plane : Nat
  pstride : Nat
  cb : BitVec 128
  /-- A reserved field is nonzero. -/
  bad : Bool
  deriving DecidableEq, Repr

/-- Bits [lo + n − 1 : lo] of a record. -/
def field (d : BitVec 512) (lo n : Nat) : Nat := (d >>> lo).toNat % 2 ^ n

/-- The fields of a 64-byte record. -/
def Desc.ofRecord (d : BitVec 512) : Desc :=
  { base := field d 0 64, stride := field d 64 64, rows := field d 128 32, cols := field d 160 32
    fmt := field d 192 8, pl := field d 200 1 = 1, sb := (BitVec.ofNat 16 (field d 208 16)).toInt
    plane := field d 256 64, pstride := field d 320 32, cb := BitVec.ofNat 128 (field d 384 128)
    bad := field d 201 7 ≠ 0 || field d 224 32 ≠ 0 || field d 352 32 ≠ 0 || 2 ^ 32 ≤ field d 64 64 }

/-- A binary8 format code (R138). -/
def isB8 (f : Nat) : Bool := 0x80 ≤ f && f < 0xA0 && f % 8 ≠ 0

/-- A K4 format code (R138). -/
def isK4 (f : Nat) : Bool := 0xA0 ≤ f && f < 0xC0 && f % 8 ≠ 0

/-- Bits of an element of a format; 0 for a reserved code. -/
def elemBits (f : Nat) : Nat :=
  if f = 0x00 ∨ f = 0x08 then 32 else if f = 0x01 ∨ f = 0x02 then 16
  else if f = 0x09 ∨ f = 0x0A ∨ isB8 f then 8 else if isK4 f then 4 else 0

/-- Bytes of a row of `n` elements. -/
def rowBytes (f n : Nat) : Nat := (n * elemBits f + 7) / 8

/-- The records that `tdef` refuses (R192). -/
def Desc.refused (d : Desc) : Bool :=
  let size := Nat.max 1 (elemBits d.fmt / 8)
  let scaled := isB8 d.fmt || isK4 d.fmt
  d.bad || elemBits d.fmt = 0 || d.rows = 0 || 2 ^ 31 ≤ d.rows || d.cols = 0 || 2 ^ 31 ≤ d.cols ||
    d.stride < rowBytes d.fmt d.cols || d.base % size ≠ 0 || d.stride % size ≠ 0 ||
    (d.pl && (!scaled || d.pstride < (d.cols + 63) / 64)) ||
    (!d.pl && (d.plane ≠ 0 || d.pstride ≠ 0)) || (d.cb ≠ 0 && !isK4 d.fmt)

/-- The value of an element's code with the scales of R146; `be` is the block's exponent. -/
def elemValue (fmt : Nat) (sb : Int) (cb : BitVec 128) (be : Int) (code : Nat) : Num :=
  if fmt = 0 then fp32.decode code
  else if fmt = 1 then bf16.decode code
  else if fmt = 2 then fp16.decode code
  else if fmt = 0x08 then .ofInt (BitVec.ofNat 32 code).toInt
  else if fmt = 0x09 then .ofInt (BitVec.ofNat 8 code).toInt
  else if fmt = 0x0A then .ofInt code
  else if isB8 fmt then ((binary8 (fmt % 32)).decode code).scale (sb + be)
  else ((binary8 (fmt % 32)).decode ((cb >>> (8 * code)).toNat % 256)).scale (sb + be)

/-- The descriptor of a tensor identifier that an instruction names (R177): held, valid, in a format that
the instruction accepts; otherwise a descriptor fault. -/
def State.descriptor (s : State) (t : Nat) (accept : Nat → Bool) : Except Stop Desc :=
  let e := (s.coreAt s.curCore).tensors.get t {}
  let d := Desc.ofRecord e.data
  if e.holder = some s.task.key && accept d.fmt then .ok d else .error (.trap 9 0 0 (BitVec.ofNat 64 t))

/-- The position of an address in a tensor (R182, R198): row and column of the element there. -/
def Desc.position (d : Desc) (ea : Word) : Option (Nat × Nat) :=
  let off := (ea - BitVec.ofNat 64 d.base).toNat
  let r := off / d.stride
  let u := off % d.stride
  let bits := elemBits d.fmt
  if u * 8 % bits ≠ 0 then none
  else
    let c := u * 8 / bits
    if r < d.rows ∧ c < d.cols then some (r, c) else none

/-- The offset of an element (R191); for K4, of the byte that holds it. -/
def Desc.offset (d : Desc) (r c : Nat) : Word := BitVec.ofNat 64 (d.base + r * d.stride + c * elemBits d.fmt / 8)

/-- The offset of a block's exponent in the plane (Table 4). -/
def Desc.planeOffset (d : Desc) (r b : Nat) : Word := BitVec.ofNat 64 (d.plane + r * d.pstride + b)

end Sys2Proof.Machine
end

