-- ==== Sys2Proof/Machine/Vector.lean ====
section
/-! DEFINITION. The vector engine's register instructions (06_vector R156 to R177): lane arithmetic,
compare and select, lane moves, reduction, long operations, conversion and requantisation. -/

namespace Sys2Proof

/-- Lane width of a lane type (Table 1). -/
def LaneTy.bits : LaneTy → Nat
  | .f32 | .i32 => 32
  | .bf16 | .f16 => 16
  | .i8 | .ui8 => 8

/-- Lanes of a lane type. -/
def LaneTy.count (t : LaneTy) : Nat := 1024 / t.bits

/-- Element width in bits of a width suffix (Table 1). -/
def Width.bits : Width → Nat
  | .w32 => 32 | .w16 => 16 | .w8 => 8

/-- Lanes of a width suffix. -/
def Width.count (w : Width) : Nat := 1024 / w.bits

/-- The floating-point format of a lane type; none for an integer type. -/
def LaneTy.float : LaneTy → Option Machine.Fmt
  | .f32 => some Machine.fp32 | .bf16 => some Machine.bf16 | .f16 => some Machine.fp16
  | _ => none

/-- The value of an integer lane. -/
def LaneTy.int (t : LaneTy) (c : Nat) : Int :=
  match t with
  | .ui8 => c
  | _ => if 2 ^ (t.bits - 1) ≤ c then (c : Int) - (2 ^ t.bits : Nat) else c

/-- Least value of an integer lane type. -/
def LaneTy.lo (t : LaneTy) : Int := match t with | .ui8 => 0 | _ => -(2 ^ (t.bits - 1) : Nat)

/-- Greatest value of an integer lane type. -/
def LaneTy.hi (t : LaneTy) : Int := match t with | .ui8 => 255 | _ => (2 ^ (t.bits - 1) : Nat) - 1

/-- The lane of an exact integer result: wrapped, or clamped with SAT (R162). -/
def LaneTy.ofExact (t : LaneTy) (sat : Bool) (v : Int) : Nat :=
  let v := if sat then (if v < t.lo then t.lo else if t.hi < v then t.hi else v) else v
  (v % (2 ^ t.bits : Nat)).toNat

end Sys2Proof

namespace Sys2Proof.Machine

/-! ### Lanes (R156) -/

/-- Lane `i` of width `w`. -/
def lane (w : Nat) (x : Vec) (i : Nat) : Nat := (x >>> (w * i)).toNat % 2 ^ w

/-- A register from its lanes, lowest first; each is below 2^w. -/
def ofLanes (w : Nat) (l : List Nat) : Vec := BitVec.ofNat 1024 (l.foldr (fun a r => a + 2 ^ w * r) 0)

/-- The code of an integer on `w` bits. -/
def codeOf (w : Nat) (v : Int) : Nat := (v % (2 ^ w : Nat)).toNat

/-- The OR of the flags of all elements (R154). -/
def allFlags (l : List (Nat × Word)) : Word := l.foldl (fun f x => f ||| x.2) 0

/-- The draw of an instruction that names no destination tensor (R149, T = 64); 0 unless RND is
stochastic. -/
def State.drawOf (s : State) (rnd : Nat) (e : Nat) : Nat := if rnd = 4 then draw s.task.skey 64 e else 0

/-- SKEY advances after an instruction with T = 64 and stochastic rounding (R149). -/
def State.stepKey (s : State) (rnd : Nat) : State :=
  if rnd = 4 then s.setTask { s.task with skey := s.task.skey + 1 } else s

/-- A vector result is written, its flags merged, SKEY advanced (R154, R149). -/
def State.finishV (s : State) (e : Ext) (w : Nat) (l : List (Nat × Word)) : State :=
  (((s.setV e.d.toNat (ofLanes w (l.map (·.1)))).mergeFlags (allFlags l)).stepKey e.rnd.toNat).advance e.words

/-- A general-register result of a vector instruction. -/
def State.finishG (s : State) (e : Ext) (v f : Word) : State :=
  (((s.setG e.d.toNat v).mergeFlags f).stepKey e.rnd.toNat).advance e.words

/-! ### Arithmetic lanes (R161 to R167) -/

/-- A lane function of up to three operands, with the lane's draw: the code and its flags. -/
abbrev LaneFn := LaneTy → (rnd draw : Nat) → (sat : Bool) → (a b c : Nat) → Nat × Word

/-- A + B. -/
def addLane : LaneFn := fun t rnd dr sat a b _ =>
  match t.float with
  | some f =>
    let (x, g) := (f.decode a).add (f.decode b) (rnd = 3)
    let (c, h) := f.encode (.ofCode rnd) dr sat x
    (c, g ||| h)
  | none => (t.ofExact sat (t.int a + t.int b), 0)

/-- A − B. -/
def subLane : LaneFn := fun t rnd dr sat a b _ =>
  match t.float with
  | some f =>
    let (x, g) := (f.decode a).add (f.decode b).negate (rnd = 3)
    let (c, h) := f.encode (.ofCode rnd) dr sat x
    (c, g ||| h)
  | none => (t.ofExact sat (t.int a - t.int b), 0)

/-- A × B. -/
def mulLane : LaneFn := fun t rnd dr sat a b _ =>
  match t.float with
  | some f =>
    let (x, g) := (f.decode a).mul (f.decode b)
    let (c, h) := f.encode (.ofCode rnd) dr sat x
    (c, g ||| h)
  | none => (t.ofExact sat (t.int a * t.int b), 0)

/-- A × B + C with one rounding. -/
def fmaLane : LaneFn := fun t rnd dr sat a b c =>
  match t.float with
  | some f =>
    let (x, g) := (f.decode a).fma (f.decode b) (f.decode c) (rnd = 3)
    let (r, h) := f.encode (.ofCode rnd) dr sat x
    (r, g ||| h)
  | none => (0, 0)

/-- The smaller (or larger) lane (R164). -/
def pickLane (larger : Bool) : LaneFn := fun t _ _ _ a b _ =>
  match t.float with
  | some f =>
    let x := f.decode a
    let y := f.decode b
    if x.isNan || y.isNan then (f.nan, flagIf (x.isSnan || y.isSnan) fNV)
    else (if (if larger then x.below y else y.below x) then b else a, 0)
  | none => (if (if larger then t.int a < t.int b else t.int b < t.int a) then b else a, 0)

/-- |A| (R165). -/
def absLane : LaneFn := fun t _ _ sat a _ _ =>
  match t.float with
  | some f => let x := f.decode a; if x.isNan then (f.nan, flagIf x.isSnan fNV) else (a % 2 ^ (f.w - 1), 0)
  | none => (t.ofExact sat (t.int a).natAbs, 0)

/-- A shifted left by the lane's count (R167). -/
def shlLane : LaneFn := fun t _ _ _ a b _ => (if t.bits ≤ b then 0 else a * 2 ^ b % 2 ^ t.bits, 0)

/-- A shifted right, filling with zeros. -/
def shrLane : LaneFn := fun t _ _ _ a b _ => (if t.bits ≤ b then 0 else a / 2 ^ b, 0)

/-- A shifted right, filling with the sign. -/
def sraLane : LaneFn := fun t _ _ _ a b _ =>
  (codeOf t.bits (t.int a / (2 ^ (if t.bits ≤ b then t.bits else b) : Nat)), 0)

/-- The first `n` of the source registers A, B and C. -/
def sources (e : Ext) (n : Nat) : List Nat := [e.a.toNat, e.b.toNat, e.c.toNat].take n

/-- A lane-by-lane instruction on `n` sources, all read before D is written (R163). -/
def laneOp (n : Nat) (f : LaneFn) (t : LaneTy) (e : Ext) (s : State) : State :=
  s.instr [] (sources e n) [] false (vwr := [e.d.toNat]) fun s =>
    let (a, b, c) := (s.vreg e.a.toNat, s.vreg e.b.toNat, s.vreg e.c.toNat)
    .ok (s.finishV e t.bits ((List.range t.count).map fun i =>
      f t e.rnd.toNat (s.drawOf e.rnd.toNat i) e.sat (lane t.bits a i) (lane t.bits b i) (lane t.bits c i)))

/-- A bitwise instruction on `n` sources over all 1,024 bits (R166, R169, R172). -/
def bitOp (n : Nat) (f : Vec → Vec → Vec → Vec) (e : Ext) (s : State) : State :=
  s.instr [] (sources e n) [] false (vwr := [e.d.toNat]) fun s =>
    .ok ((s.setV e.d.toNat (f (s.vreg e.a.toNat) (s.vreg e.b.toNat) (s.vreg e.c.toNat))).advance e.words)

/-! ### Compare and masks (R168, R170) -/

/-- Does "x cc y" hold, and with which flags (R168)? -/
def compareLane (t : LaneTy) (cc a b : Nat) : Bool × Word :=
  match t.float with
  | some f =>
    let x := f.decode a
    let y := f.decode b
    if x.isNan || y.isNan then (cc = 1, flagIf (x.isSnan || y.isSnan || cc ≠ 0 && cc ≠ 1) fNV)
    else
      let eq := x.same y
      let lt := x.below y && !eq
      (match cc with
        | 0 => eq | 1 => !eq | 2 => lt | 3 => !lt | 6 => !lt && !eq | _ => lt || eq, 0)
  | none =>
    let x := t.int a
    let y := t.int b
    (match cc with
      | 0 => x = y | 1 => x ≠ y | 2 => x < y | 3 => y ≤ x | 6 => y < x | _ => x ≤ y, 0)

/-- `vcmp` (R168). -/
def compare (t : LaneTy) (cc : Nat) (e : Ext) (s : State) : State :=
  s.instr [] [e.a.toNat, e.b.toNat] [] false (vwr := [e.d.toNat]) fun s =>
    .ok (s.finishV e t.bits ((List.range t.count).map fun i =>
      let r := compareLane t cc (lane t.bits (s.vreg e.a.toNat) i) (lane t.bits (s.vreg e.b.toNat) i)
      (if r.1 then 2 ^ t.bits - 1 else 0, r.2)))

/-- One bits among the low `n` of a number. -/
def countBits (v : Nat) : Nat → Nat
  | 0 => 0
  | n + 1 => v % 2 + countBits (v / 2) n

/-- The lowest one bit at or after `i`, of the `n` bits of `v`; `i + n` when there is none. -/
def firstBit (v i : Nat) : Nat → Nat
  | 0 => i
  | n + 1 => if v % 2 = 1 then i else firstBit (v / 2) (i + 1) n

/-- `vcnt` and `vfirst` (R170). -/
def maskCount (f : Nat → Nat) (e : Ext) (s : State) : State :=
  s.instr [] [e.a.toNat] [] false (wr := [e.d.toNat]) fun s =>
    .ok ((s.setG e.d.toNat (BitVec.ofNat 64 (f (s.vreg e.a.toNat).toNat))).advance e.words)

/-! ### Moving lanes (R171, R172) -/

/-- `vperm` (R171). -/
def permute (w : Width) (e : Ext) (s : State) : State :=
  s.instr [] [e.a.toNat, e.b.toNat] [] false (vwr := [e.d.toNat]) fun s =>
    .ok ((s.setV e.d.toNat (ofLanes w.bits ((List.range w.count).map fun i =>
      let k := lane w.bits (s.vreg e.b.toNat) i
      if k < w.count then lane w.bits (s.vreg e.a.toNat) k else 0))).advance e.words)

/-- `vbcast` (R172). -/
def broadcast (w : Width) (e : Ext) (s : State) : State :=
  s.instr [e.a.toNat] [] e.syn false (vwr := [e.d.toNat]) fun s =>
    .ok ((s.setV e.d.toNat (ofLanes w.bits ((List.range w.count).map fun _ => (s.g e.a.toNat).toNat % 2 ^ w.bits))).advance e.words)

/-- `vext` (R172). -/
def extract (w : Width) (e : Ext) (s : State) : State :=
  s.instr [e.b.toNat] [e.a.toNat] e.syn false (wr := [e.d.toNat]) fun s =>
    let k := (s.g e.b.toNat).toNat
    .ok ((s.setG e.d.toNat (if k < w.count then BitVec.ofNat 64 (lane w.bits (s.vreg e.a.toNat) k) else 0)).advance e.words)

/-! ### Reduction (R173) -/

/-- The exact sum of finite values: sum of integers over a common exponent. -/
def exactSum (l : List Num) (down : Bool) : Num := l.foldl (fun x y => (x.add y down).1) (.dy true 0 0)

/-- The smallest (or largest) of values, none a NaN; −0 below +0. -/
def extremeOf (larger : Bool) : List Num → Num → Num
  | [], m => m
  | x :: r, m => extremeOf larger r (if (if larger then m.below x else x.below m) then x else m)

/-- `vred` on a floating type: the FP32 code and the flags (DEDUCED, unsafe, log entry 42). -/
def reduceFloat (f : Fmt) (op rnd dr : Nat) (sat : Bool) (l : List Nat) : Nat × Word :=
  let xs := l.map f.decode
  if xs.any Num.isNan then (fp32.nan, flagIf (xs.any Num.isSnan) fNV)
  else if op = 0 then
    let infs := xs.filter Num.isInf
    if infs.any Num.neg && infs.any (!Num.neg ·) then (fp32.nan, fNV)
    else match infs with
      | x :: _ => fp32.encode .rne 0 false x
      | [] => fp32.encode (.ofCode rnd) dr sat
          (if xs.all fun x => x.isZero && !x.neg then .dy false 0 0 else exactSum xs (rnd = 3))
  else match xs with
    | [] => (0, 0)
    | x :: r => ((fp32.encode .rne 0 false (extremeOf (op = 2) r x)).1, 0)

/-- `vred` on an integer type. -/
def reduceInt (t : LaneTy) (op : Nat) (l : List Nat) : Int :=
  let xs := l.map t.int
  match xs with
  | [] => 0
  | x :: r => r.foldl (fun m y => if op = 0 then m + y else if op = 1 then (if y < m then y else m) else (if m < y then y else m)) x

/-- `vred` (R173). -/
def reduce (t : LaneTy) (op : Nat) (e : Ext) (s : State) : State :=
  s.instr [] [e.a.toNat] [] false (wr := [e.d.toNat]) fun s =>
    let l := (List.range t.count).map (lane t.bits (s.vreg e.a.toNat))
    match t.float with
    | some f =>
      let r := reduceFloat f op e.rnd.toNat (s.drawOf e.rnd.toNat 0) e.sat l
      .ok (s.finishG e (BitVec.ofNat 64 r.1) r.2)
    | none => .ok (s.finishG e (BitVec.ofInt 64 (reduceInt t op l)) 0)

/-! ### Long operations (R159, R174) -/

/-- The long operations. -/
inductive LongOp where
  | rcp | rsq | exp2 | log2
  deriving DecidableEq, Repr

/-- The value of a long operation and its flags (R174, Table 3). -/
def LongOp.value (o : LongOp) (x : Num) : Num × Word :=
  match x with
  | .nan s => (.nan false, flagIf s fNV)
  | .inf neg => match o with
    | .rcp => (.dy neg 0 0, 0)
    | .rsq => if neg then (.nan false, fNV) else (.dy false 0 0, 0)
    | .exp2 => if neg then (.dy false 0 0, 0) else (.inf false, 0)
    | .log2 => if neg then (.nan false, fNV) else (.inf false, 0)
  | .fin neg m e _ => match o with
    | .rcp => if m = 0 then (.inf neg, 0) else (recip neg m e, 0)
    | .rsq => if m = 0 then (.inf neg, 0) else if neg then (.nan false, fNV) else (recipSqrt m e, 0)
    | .exp2 => if m = 0 then (.dy false 1 0, 0) else (Machine.exp2 neg m e, 0)
    | .log2 => if m = 0 then (.inf true, 0) else if neg then (.nan false, fNV) else (log2Of m e, 0)

/-- A long operation on one lane. -/
def longLane (o : LongOp) (f : Fmt) (rnd dr : Nat) (a : Nat) : Nat × Word :=
  let (x, g) := o.value (f.decode a)
  let (c, h) := f.encode (.ofCode rnd) dr false x
  (c, g ||| h)

/-- A long operation (R159): it is held while the queue of two is full; the context parks with PARKWHY 2
until D is written (DEDUCED, unsafe, log entry 42). -/
def longOp (o : LongOp) (t : LaneTy) (e : Ext) (s : State) : State :=
  s.instr [] [e.a.toNat] [] false (vwr := [e.d.toNat]) (held := 2 ≤ (s.coreAt s.curCore).vlongs.length) fun s =>
    let c := s.coreAt s.curCore
    let f := t.float.getD fp32
    let l := (List.range t.count).map fun i =>
      longLane o f e.rnd.toNat (s.drawOf e.rnd.toNat i) (lane t.bits (s.vreg e.a.toNat) i)
    let s := s.setCoreAt s.curCore { c with vlongs := c.vlongs ++ [s.curCtx] }
    .ok (((s.stepKey e.rnd.toNat).park 2 (.vlong e.d.toNat (ofLanes t.bits (l.map (·.1))) (allFlags l) e.words)).push
      (.vectorLongDone (coreId s.curCore)))

/-- VECTOR_LONG_DONE (R159): the oldest long operation of the core writes D and merges its flags, and its
context is READY. -/
def vectorLongDone (core : Nat) (s : State) : State :=
  let c := s.coreAt core
  match c.vlongs with
  | [] => s
  | x :: rest =>
    let s := s.setCoreAt core { c with vlongs := rest }
    let k := ctxKey core x
    let y := s.ctxAt k
    match y.wait with
    | .vlong d v f n =>
      let t := y.task.setV d v
      s.setCtxAt k ({ y with task := { t with flags := t.flags ||| f, pc := t.pc + BitVec.ofNat 64 (4 * n) } }.satisfy)
    | _ => s

/-! ### Conversion (R175, R176) -/

/-- A conversion of one element: the code and its flags. -/
def convertLane (src dst : Fmt) (rnd dr : Nat) (sat : Bool) (a : Nat) : Nat × Word := dst.encode (.ofCode rnd) dr sat (src.decode a)

/-- `vcvt`, element by element: source width, destination width, number of elements, function (Table 4). -/
def cvtFn (v : Cvt) (d : Desc) (rnd : Nat) (dr : Nat → Nat) (sat : Bool) : Nat × Nat × Nat × (Nat → Nat → Nat × Word) :=
  let m := Rnd.ofCode rnd
  let b8 := binary8 (d.fmt % 32)
  match v with
  | .bf16F32 => (32, 16, 32, fun i a => convertLane fp32 bf16 rnd (dr i) sat a)
  | .f16F32 => (32, 16, 32, fun i a => convertLane fp32 fp16 rnd (dr i) sat a)
  | .f32Bf16 => (16, 32, 32, fun _ a => fp32.encode .rne 0 false (bf16.decode a))
  | .f32F16 => (16, 32, 32, fun _ a => fp32.encode .rne 0 false (fp16.decode a))
  | .b8F32 => (32, 8, 32, fun i a => b8.encode m (dr i) sat ((fp32.decode a).scale (-d.sb)))
  | .f32B8 => (8, 32, 32, fun i a => fp32.encode m (dr i) sat ((b8.decode a).scale d.sb))
  | .i32F32 => (32, 32, 32, fun i a =>
      let r := encodeInt LaneTy.i32.lo LaneTy.i32.hi m (dr i) sat (fp32.decode a); (codeOf 32 r.1, r.2))
  | .f32I32 => (32, 32, 32, fun i a => fp32.encode m (dr i) sat (.ofInt (LaneTy.i32.int a)))
  | .i8F32 => (32, 8, 32, fun i a =>
      let r := encodeInt LaneTy.i8.lo LaneTy.i8.hi m (dr i) sat (fp32.decode a); (codeOf 8 r.1, r.2))
  | .f32I8 => (8, 32, 32, fun _ a => fp32.encode .rne 0 false (.ofInt (LaneTy.i8.int a)))
  | .b8K4 => (4, 8, 128, fun _ a => ((d.cb >>> (8 * a)).toNat % 256, 0))
  | .bf16F16 => (16, 16, 64, fun i a => convertLane fp16 bf16 rnd (dr i) sat a)
  | .f16Bf16 => (16, 16, 64, fun i a => convertLane bf16 fp16 rnd (dr i) sat a)
  | .i8I32 => (32, 8, 32, fun _ a =>
      let r := encodeInt LaneTy.i8.lo LaneTy.i8.hi .rne 0 sat (.ofInt (LaneTy.i32.int a)); (codeOf 8 r.1, r.2))
  | .i32I8 => (8, 32, 32, fun _ a => (codeOf 32 (LaneTy.i8.int a), 0))
  | .i32Ui8 => (8, 32, 32, fun _ a => (a, 0))

/-- The formats that `vcvt` accepts through B; none for the variants that name no identifier (R177). -/
def cvtAccepts : Cvt → Option (Nat → Bool)
  | .b8F32 | .f32B8 => some isB8
  | .b8K4 => some isK4
  | _ => none

/-- `vcvt` (R175): lanes of D from n upward are written zero. -/
def convert (v : Cvt) (e : Ext) (s : State) : State :=
  s.instr [] [e.a.toNat] [] false (vwr := [e.d.toNat]) fun s =>
    let run := fun (d : Desc) =>
      let (sw, dw, n, f) := cvtFn v d e.rnd.toNat (s.drawOf e.rnd.toNat) e.sat
      Except.ok (s.finishV e dw ((List.range n).map fun i => f i (lane sw (s.vreg e.a.toNat) i)))
    match cvtAccepts v with
    | none => run (Desc.ofRecord 0)
    | some p => s.loomReady (match s.descriptor e.b.toNat p with
      | .error x => .error x
      | .ok d => run d)

/-- `vrq` (R176): the 128 codes of A carried from B's format and scale to C's. -/
def requantise (e : Ext) (s : State) : State :=
  s.instr [] [e.a.toNat] [] false (vwr := [e.d.toNat]) fun s => s.loomReady <|
    match s.descriptor e.b.toNat isB8, s.descriptor e.c.toNat isB8 with
    | .error x, _ => .error x
    | _, .error x => .error x
    | .ok b, .ok c =>
      let fb := binary8 (b.fmt % 32)
      let fc := binary8 (c.fmt % 32)
      .ok (s.finishV e 8 ((List.range 128).map fun i =>
        fc.encode (.ofCode e.rnd.toNat) (s.drawOf e.rnd.toNat i) e.sat
          ((fb.decode (lane 8 (s.vreg e.a.toNat) i)).scale (b.sb - c.sb))))

/-! ### The instructions -/

/-- `vadd` (R163). -/
def execVadd (t : LaneTy) (e : Ext) (s : State) : Host.Outcome State Fault Refusal := done (laneOp 2 addLane t e s)

/-- `vsub` (R163). -/
def execVsub (t : LaneTy) (e : Ext) (s : State) : Host.Outcome State Fault Refusal := done (laneOp 2 subLane t e s)

/-- `vmul` (R163). -/
def execVmul (t : LaneTy) (e : Ext) (s : State) : Host.Outcome State Fault Refusal := done (laneOp 2 mulLane t e s)

/-- `vfma` (R163). -/
def execVfma (t : LaneTy) (e : Ext) (s : State) : Host.Outcome State Fault Refusal := done (laneOp 3 fmaLane t e s)

/-- `vmin` (R164). -/
def execVmin (t : LaneTy) (e : Ext) (s : State) : Host.Outcome State Fault Refusal := done (laneOp 2 (pickLane false) t e s)

/-- `vmax` (R164). -/
def execVmax (t : LaneTy) (e : Ext) (s : State) : Host.Outcome State Fault Refusal := done (laneOp 2 (pickLane true) t e s)

/-- `vabs` (R165). -/
def execVabs (t : LaneTy) (e : Ext) (s : State) : Host.Outcome State Fault Refusal := done (laneOp 1 absLane t e s)

/-- `vshl` (R167). -/
def execVshl (t : LaneTy) (e : Ext) (s : State) : Host.Outcome State Fault Refusal := done (laneOp 2 shlLane t e s)

/-- `vshr` (R167). -/
def execVshr (t : LaneTy) (e : Ext) (s : State) : Host.Outcome State Fault Refusal := done (laneOp 2 shrLane t e s)

/-- `vsra` (R167). -/
def execVsra (t : LaneTy) (e : Ext) (s : State) : Host.Outcome State Fault Refusal := done (laneOp 2 sraLane t e s)

/-- `vand` (R166). -/
def execVand (e : Ext) (s : State) : Host.Outcome State Fault Refusal := done (bitOp 2 (fun a b _ => a &&& b) e s)

/-- `vor` (R166). -/
def execVor (e : Ext) (s : State) : Host.Outcome State Fault Refusal := done (bitOp 2 (fun a b _ => a ||| b) e s)

/-- `vxor` (R166). -/
def execVxor (e : Ext) (s : State) : Host.Outcome State Fault Refusal := done (bitOp 2 (fun a b _ => a ^^^ b) e s)

/-- `vnot` (R166). -/
def execVnot (e : Ext) (s : State) : Host.Outcome State Fault Refusal := done (bitOp 1 (fun a _ _ => ~~~a) e s)

/-- `vsel` (R169). -/
def execVsel (e : Ext) (s : State) : Host.Outcome State Fault Refusal := done (bitOp 3 (fun a b c => (a &&& c) ||| (b &&& ~~~c)) e s)

/-- `vmov` (R172). -/
def execVmov (e : Ext) (s : State) : Host.Outcome State Fault Refusal := done (bitOp 1 (fun a _ _ => a) e s)

/-- `vcmp` (R168). -/
def execVcmp (t : LaneTy) (cc : BitVec 4) (e : Ext) (s : State) : Host.Outcome State Fault Refusal := done (compare t cc.toNat e s)

/-- `vcnt` (R170). -/
def execVcnt (e : Ext) (s : State) : Host.Outcome State Fault Refusal := done (maskCount (countBits · 1024) e s)

/-- `vfirst` (R170). -/
def execVfirst (e : Ext) (s : State) : Host.Outcome State Fault Refusal := done (maskCount (firstBit · 0 1024) e s)

/-- `vperm` (R171). -/
def execVperm (w : Width) (e : Ext) (s : State) : Host.Outcome State Fault Refusal := done (permute w e s)

/-- `vbcast` (R172). -/
def execVbcast (w : Width) (e : Ext) (s : State) : Host.Outcome State Fault Refusal := done (broadcast w e s)

/-- `vext` (R172). -/
def execVext (w : Width) (e : Ext) (s : State) : Host.Outcome State Fault Refusal := done (extract w e s)

/-- `vred` (R173). -/
def execVred (t : LaneTy) (op : BitVec 2) (e : Ext) (s : State) : Host.Outcome State Fault Refusal := done (reduce t op.toNat e s)

/-- `vrcp` (R174). -/
def execVrcp (t : LaneTy) (e : Ext) (s : State) : Host.Outcome State Fault Refusal := done (longOp .rcp t e s)

/-- `vrsq` (R174). -/
def execVrsq (t : LaneTy) (e : Ext) (s : State) : Host.Outcome State Fault Refusal := done (longOp .rsq t e s)

/-- `vexp2` (R174). -/
def execVexp2 (t : LaneTy) (e : Ext) (s : State) : Host.Outcome State Fault Refusal := done (longOp .exp2 t e s)

/-- `vlog2` (R174). -/
def execVlog2 (t : LaneTy) (e : Ext) (s : State) : Host.Outcome State Fault Refusal := done (longOp .log2 t e s)

/-- `vcvt` (R175). -/
def execVcvt (v : Cvt) (e : Ext) (s : State) : Host.Outcome State Fault Refusal := done (convert v e s)

/-- `vrq` (R176). -/
def execVrq (e : Ext) (s : State) : Host.Outcome State Fault Refusal := done (requantise e s)

/-- VECTOR_LONG_DONE (R159). -/
def execVectorLongDone (core : CoreId) (s : State) : Host.Outcome State Fault Refusal := done (vectorLongDone core.toNat s)

end Sys2Proof.Machine
end

