-- ==== Sys2Proof/Machine/Loom.lean ====
section
/-! DEFINITION. The loom's instructions and commands (07_loom R185 to R213): identifiers, the creel, tile
loads, products, accumulators, the command queue, recall and restore. -/

namespace Sys2Proof.Machine

/-! ### Identifiers and the creel -/

/-- A loom fault (Table 10). -/
def loomFault : Stop := .trap 8 0 0 0

/-- A descriptor fault naming an identifier. -/
def descriptorFault (t : Nat) : Stop := .trap 9 0 0 (BitVec.ofNat 64 t)

/-- `tdef` once its record has been read (R194). -/
def State.finishTdef (s : State) (t : Nat) (record : BitVec 512) (words : Nat) : Result :=
  if (Desc.ofRecord record).refused then .error (descriptorFault t)
  else s.claim [.tid t] fun s =>
    let c := s.coreAt s.curCore
    .ok ((s.setCoreAt s.curCore { c with
      tensors := c.tensors.put t { holder := some s.task.key, data := record } }).advance words)

/-- `tdef` (R194). -/
def tensorDefine (e : Ext) (s : State) : State :=
  s.instr [e.a.toNat] [] e.syn false fun s =>
    s.loomReady <|
    let m := s.extArgNoIndex e
    match s.checkNear .load (s.selOf m) m.ea 64 64 with
    | .error x => .error x
    | .ok p => match s.guardOf [⟨p, 64⟩] with
      | some w => .error (.retry 1 w)
      | none =>
        if p.isOwn s.curCore then s.finishTdef e.d.toNat (BitVec.ofNat 512 (s.ownValue ⟨p, 64⟩)) m.words
        else .ok (s.request [⟨p, 64⟩] [] (.tensor e.d.toNat) m (s.selOf m) none)

/-- The slots of a range. -/
def slotRange (d n : Nat) : List Res := (List.range n).map fun i => .slot (d + i)

/-- `tclaim` (R196). -/
def tileClaim (e : Ext) (s : State) : State :=
  s.instr [] [] [] false fun s =>
    s.loomReady <| s.claim (slotRange e.d.toNat e.imm.value.toNat) fun s => .ok (s.advance e.words)

/-- The other slot of a 16-bit tile of which `n` is one, by the tag of `n`. -/
def pairOf (n : Nat) (x : Slot) : Option Nat :=
  if x.state = 2 then some (n - 1)
  else if x.state = 1 ∧ (x.fmt = 1 ∨ x.fmt = 2) then some (n + 1)
  else none

/-- A map of slots with one made empty, if the task holds it. -/
def emptySlot (m : Store Slot) (key n : Nat) : Store Slot :=
  match m.find n with
  | some x => if x.holder = some key then m.put n { holder := some key } else m
  | none => m

/-- The slots of one storage with one released: its pair becomes empty and stays held. -/
def releaseSlot (m : Store Slot) (key n : Nat) : Store Slot :=
  match m.find n with
  | none => m
  | some x =>
    if x.holder ≠ some key then m
    else (match pairOf n x with | some p => emptySlot m key p | none => m).drop n

/-- One slot released for the executing task at its holding core, with its saved content (R197). -/
def State.releaseOne (s : State) (n : Nat) : State :=
  let t := s.task
  let key := t.key
  let h := t.lheldCore.toNat
  let saved := match s.pkg.saves.find key with | some a => a.slots | none => []
  let x := if t.lheldV then (s.coreAt h).slots.find n else none
  let pair := match x.filter (·.holder = some key) with
    | some x => pairOf n x
    | none => (saved.find n).bind (pairOf n)
  let s := if t.lheldV then
      let c := s.coreAt h
      let m := releaseSlot c.slots key n
      (s.setCoreAt h { c with slots := match pair with | some p => emptySlot m key p | none => m }).noteGone h key
    else s
  let s := match s.pkg.saves.find key with
    | some a =>
      let m := a.slots.drop n
      let a := { a with slots := match pair with | some p => emptySlot m key p | none => m }
      let s := s.setPkg { s.pkg with saves := s.pkg.saves.put key a }
      let s := match pair.bind a.slots.find with
        | some x => s.saveWrite h a (0x800 + 128 * pair.getD 0) 64 (x.tagBytes % 2 ^ 512)
        | none => s
      if (saved.find n).isSome then s.saveHeader h a else s
    | none => s
  s.setTask { s.task with lheldSlots := s.task.lheldSlots &&& ~~~(1#16 <<< n) }

/-- `trel` (R197). -/
def tileRelease (e : Ext) (s : State) : State :=
  s.instr [] [] [] false fun s =>
    let s := (List.range e.imm.value.toNat).foldl (fun s i =>
      if s.task.lheldSlots.getLsbD (e.a.toNat + i) then s.releaseOne (e.a.toNat + i) else s) s
    .ok ((s.push (.loomClaimRetry s.task.lheldCore.toNat s.task.key)).advance e.words)

/-- `acz` (R207). -/
def accZero (e : Ext) (s : State) : State :=
  s.instr [] [] [] false fun s =>
    s.loomReady <| s.claim [.acc e.d.toNat] fun s =>
      let c := s.coreAt s.curCore
      .ok ((s.setCoreAt s.curCore { c with accs := c.accs.put e.d.toNat { holder := some s.task.key } }).advance e.words)

/-- `acrd` (R210). -/
def accRead (e : Ext) (s : State) : State :=
  s.instr [] [] [] false (vwr := [e.d.toNat]) fun s =>
    s.loomReady <|
    if !s.holds (.acc e.a.toNat) then .error loomFault
    else
      let h := e.imm.value.toNat
      let x := (s.coreAt s.curCore).accs.get e.a.toNat {}
      let ls := (List.range 32).map fun i => (x.data.get (64 * (h / 2) + 32 * (h % 2) + i) 0).toNat
      .ok ((s.setV e.d.toNat (ofLanes 32 ls)).advance e.words)

/-! ### Tiles -/

/-- Formats that `tld` and `mmam` accept (R198, R204). -/
def tileFormats (f : Nat) : Bool := isB8 f || isK4 f || f = 1 || f = 2 || f = 0x09 || f = 0x0A

/-- A tile or slice of a tensor: its descriptor, first row and column, and how much of it is valid. -/
structure Tile where
  d : Desc
  r : Nat
  c : Nat
  vr : Nat
  vc : Nat
  deriving DecidableEq, Repr

/-- The tile at a position of a tensor (R198): up to 64 rows and columns. -/
def tileAt (d : Desc) (r c : Nat) : Tile :=
  { d, r, c, vr := Nat.min 64 (d.rows - r), vc := Nat.min 64 (d.cols - c) }

/-- The position of an address that starts a tile: the column is a multiple of 64. -/
def Desc.tileStart (d : Desc) (ea : Word) : Option (Nat × Nat) :=
  match d.position ea with
  | some (r, c) => if c % 64 = 0 then some (r, c) else none
  | none => none

/-- Bytes of one row of a tile. -/
def Tile.rowLen (t : Tile) : Nat := rowBytes t.d.fmt t.vc

/-- The pieces of a tile's rows, in order. -/
def Tile.rowPieces (t : Tile) : List (List (Word × Nat)) :=
  (List.range t.vr).map fun i => pieces (t.d.offset (t.r + i) t.c) t.rowLen

/-- The exponents' addresses, one for each valid row. -/
def Tile.planePieces (t : Tile) : List (Word × Nat) :=
  if t.d.pl then (List.range t.vr).map fun i => (t.d.planeOffset (t.r + i) (t.c / 64), 1) else []

/-- All the pieces of a tile, its exponents last. -/
def Tile.pieces (t : Tile) : List (Word × Nat) := t.rowPieces.flatten ++ t.planePieces

/-- Splits a list into lists of the given lengths. -/
def splitBy {α : Type} : List Nat → List α → List (List α)
  | [], _ => []
  | n :: ns, l => l.take n :: splitBy ns (l.drop n)

/-- The codes of one row, from its bytes. -/
def rowCodes (bits n v : Nat) : List Nat := (List.range n).map fun k => v / 2 ^ (bits * k) % 2 ^ bits

/-- A slot's content from the bytes of its tile: one number for each row, and the exponents (R195). -/
def Tile.slot (t : Tile) (holder : Nat) (rows exps : List Nat) : Slot :=
  let cells := (List.range t.vr).flatMap fun i =>
    (List.range t.vc).zip (rowCodes (elemBits t.d.fmt) t.vc (rows.getD i 0)) |>.map fun x => (64 * i + x.1, x.2)
  { holder := some holder, fmt := t.d.fmt, vr := t.vr, vc := t.vc, state := 1
    sb := BitVec.ofInt 16 t.d.sb, cb := t.d.cb
    exp := BitVec.ofNat 512 (exps.foldr (fun a r => a % 256 + 256 * r) 0)
    data := cells.foldl (fun (m : Store (BitVec 16)) x => m.set x.1 (BitVec.ofNat 16 x.2) 0) [] }

/-- val(i, k) of a slot (R195). -/
def Slot.val (x : Slot) (i k : Nat) : Num :=
  if x.vr ≤ i ∨ x.vc ≤ k then .dy false 0 0
  else
    let be := asSigned 8 ((x.exp >>> (8 * i)).toNat % 256)
    elemValue x.fmt x.sb.toInt x.cb be (x.data.get (64 * i + k) 0).toNat

/-! ### The product (R202, R203) -/

/-- The exact sum of a group's products, with its flags (DEDUCED, unsafe, log entry 42). -/
def groupSum (ps : List (Num × Word)) : Num × Word :=
  let f := ps.foldl (fun f p => f ||| p.2) 0
  let posInf := ps.any fun p => p.1 = .inf false
  let negInf := ps.any fun p => p.1 = .inf true
  let f := f ||| flagIf (posInf && negInf) fNV
  if ps.any (·.1.isNan) || (posInf && negInf) then (.nan false, f)
  else if posInf then (.inf false, f)
  else if negInf then (.inf true, f)
  else
    let t := ps.foldl (fun a p => (a.add p.1 false).1) (.dy false 0 0)
    (if t.isZero then .dy false 0 0 else t, f)

/-- One accumulator element after the four groups. -/
def productElem (a b : Slot) (m n : Nat) (acc : BitVec 32) : BitVec 32 × Word :=
  (List.range 4).foldl (fun r g =>
    let ps := (List.range 16).map fun i => (a.val m (16 * g + i)).mul (b.val n (16 * g + i))
    let s := groupSum ps
    let t := (fp32.decode r.1.toNat).add s.1 false
    let x := fp32.encode (.ofCode 0) 0 false t.1
    (BitVec.ofNat 32 x.1, r.2 ||| s.2 ||| t.2 ||| x.2)) (acc, 0)

/-- The accumulator and the flags after A × Bᵀ has been added. -/
def product (a b : Slot) (acc : Store (BitVec 32)) : Store (BitVec 32) × Word :=
  (List.range 4096).foldl (fun r i =>
    let x := productElem a b (i / 64) (i % 64) (acc.get i 0)
    (r.1.set i x.1 0, r.2 ||| x.2)) (acc, 0)

/-! ### Commands at issue (R199) -/

/-- A command that passes its issue checks enters the queue, and the context parks. -/
def State.enterLoom (s : State) (op : LoomOp) (d a b : Nat) (sel : BitVec 16) (ea : Word) (ord : Bool) (scope ty rnd : Nat)
    (sat : Bool) (words : Nat) : Result :=
  let n := s.pkg.serial + 1
  let s := s.setPkg { s.pkg with serial := n }
  let c := s.coreAt s.curCore
  let s := s.setCoreAt s.curCore { c with
    loomq := c.loomq ++ [{ serial := n, ctx := s.curCtx, op, d, a, b, sel, ea, ord, scope, ty, rnd, sat, words }] }
  .ok ((s.park 3 (.loomCmd n words)).push (.loomCmdStart (coreId s.curCore)))

/-- Held by a full queue, for want of a token, or because the turn is not the context's own (R199). -/
def State.loomHeld (s : State) (token : Bool) : Bool :=
  s.passed ≠ 0 || 2 ≤ (s.coreAt s.curCore).loomq.length || (token && s.task.tokHeld = 0)

/-- The slot `n` is held by the task and holds the first slot of a tile, with its pair held too. -/
def State.tileHeld (s : State) (n : Nat) : Bool :=
  let x := (s.coreAt s.curCore).slots.get n {}
  s.holds (.slot n) && x.state = 1 && (if x.fmt = 1 ∨ x.fmt = 2 then s.holds (.slot (n + 1)) else true)

/-- `tld` at issue (R198). -/
def tileLoad (e : Ext) (s : State) : State :=
  s.instr [e.a.toNat] [] e.syn false (held := s.loomHeld false) fun s =>
    s.loomReady <|
    let m := s.extArgNoIndex e
    match s.descriptor e.b.toNat tileFormats with
    | .error x => .error x
    | .ok d =>
      let n := e.d.toNat
      if !s.holds (.slot n) || (elemBits d.fmt = 16 && (14 < n || !s.holds (.slot (n + 1)))) then .error loomFault
      else match d.tileStart m.ea with
        | none => .error (descriptorFault e.b.toNat)
        | some _ => s.enterLoom .tld n 0 e.b.toNat (s.selOf m) m.ea m.acq m.scope 0 0 false m.words

/-- `mma` at issue (R202). -/
def tileProduct (e : Ext) (s : State) : State :=
  s.instr [] [] [] false (held := s.loomHeld true) fun s =>
    s.loomReady <|
    if !s.holds (.acc e.d.toNat) || !s.tileHeld e.a.toNat || !s.tileHeld e.b.toNat then .error loomFault
    else s.enterLoom .mma e.d.toNat e.a.toNat e.b.toNat 0 0 false 0 0 0 false e.words

/-- Slots that each tile of the A operand takes. -/
def State.widthA (s : State) (a : Nat) : Nat :=
  let x := (s.coreAt s.curCore).slots.get a {}
  if x.fmt = 1 ∨ x.fmt = 2 then 2 else 1

/-- Slices of a stream (R204). -/
def Desc.slices (d : Desc) (c0 : Nat) : Nat := (d.cols - c0 + 63) / 64

/-- The first address of a stream that its space refuses, over all of it; the trap names the effective address (R204, R380). -/
def State.streamMiss (s : State) (sel : BitVec 16) (d : Desc) (r c0 : Nat) : Option Word :=
  let t := tileAt d r c0
  let rows := (List.range t.vr).map fun i => (d.offset (r + i) c0, rowBytes d.fmt (d.cols - c0))
  let planes := if d.pl then (List.range t.vr).map fun i => (d.planeOffset (r + i) (c0 / 64), d.slices c0) else []
  ((rows ++ planes).find? fun p => !s.limitOk s.curCore s.task.procid.toNat sel p.1 p.2).map (·.1)

/-- `mmam` at issue (R204). -/
def streamProduct (e : Ext) (s : State) : State :=
  s.instr [e.c.toNat] [] e.syn false (held := s.loomHeld true) fun s =>
    s.loomReady <|
    let sel := s.task.space e.sp.toNat
    let ea := s.g e.c.toNat
    if !s.holds (.acc e.d.toNat) then .error loomFault
    else match s.descriptor e.b.toNat tileFormats with
    | .error x => .error x
    | .ok d => match d.tileStart ea with
      | none => .error (descriptorFault e.b.toNat)
      | some (r, c0) =>
        let w := s.widthA e.a.toNat
        let n := d.slices c0
        if 16 < e.a.toNat + w * n || !((List.range n).all fun j => s.tileHeld (e.a.toNat + w * j)) then .error loomFault
        else match s.streamMiss sel d r c0 with
          | some _ => .error (.trap 4 0 sel ea)
          | none => s.enterLoom .mmam e.d.toNat e.a.toNat e.b.toNat sel ea false 0 0 0 false e.words

/-- `acld` at issue (R208): the accumulator is claimed. -/
def accLoad (e : Ext) (s : State) : State :=
  s.instr [e.a.toNat] [] e.syn false (held := s.loomHeld false) fun s =>
    s.loomReady <| s.claim [.acc e.d.toNat] fun s =>
      let m := s.extArgNoIndex e
      s.enterLoom .acld e.d.toNat 0 0 (s.selOf m) m.ea m.acq m.scope 0 0 false m.words

/-- Element size of `acst`'s destination (R209). -/
def storeSize (ty : Nat) : Nat := if ty = 0 then 4 else 2

/-- `acst` at issue (R209); `ty` is 0 for f32, 1 for bf16, 2 for f16. -/
def accStore (ty : Nat) (e : Ext) (s : State) : State :=
  s.instr [e.a.toNat] [] e.syn false (held := s.loomHeld false) fun s =>
    s.loomReady <|
    let m := s.extArgNoIndex e
    if !s.holds (.acc e.c.toNat) then .error loomFault
    else s.enterLoom .acst e.c.toNat 0 0 (s.selOf m) m.ea m.rel m.scope ty e.rnd.toNat e.sat m.words

/-! ### The queue's commands -/

/-- The queue without a command. -/
def State.dropCmd (s : State) (core serial : Nat) : State :=
  let c := s.coreAt core
  s.setCoreAt core { c with loomq := c.loomq.filter (·.serial ≠ serial) }

/-- A command that ends in a fault leaves the queue; the fault is taken at the command (R199). -/
def State.failCmd (s : State) (core : Nat) (q : LoomCmd) (e : Stop) : State :=
  (s.dropCmd core q.serial).within (ctxKey core q.ctx) fun s => s.late e

/-- A command completes: its effect, PROG cleared (R206), the context goes on. -/
def State.finishCmd (s : State) (core : Nat) (q : LoomCmd) (f : State → State) : State :=
  (s.dropCmd core q.serial).within (ctxKey core q.ctx) fun s =>
    let s := f s
    ((s.setTask { s.task with progV := false }).advance q.words).wakeMe

/-- The tile that a `tld` loads. -/
def State.cmdTile (s : State) (core : Nat) (q : LoomCmd) : Option Tile :=
  let d := Desc.ofRecord ((s.coreAt core).tensors.get q.b {}).data
  (d.tileStart q.ea).map fun x => tileAt d x.1 x.2

/-- Slice `j` of an `mmam`'s stream. -/
def State.cmdSlice (s : State) (core : Nat) (q : LoomCmd) (j : Nat) : Option Tile :=
  let d := Desc.ofRecord ((s.coreAt core).tensors.get q.b {}).data
  (d.tileStart q.ea).map fun x => tileAt d x.1 (x.2 + 64 * j)

/-- Slices of an `mmam`. -/
def State.cmdSlices (s : State) (core : Nat) (q : LoomCmd) : Nat :=
  let d := Desc.ofRecord ((s.coreAt core).tensors.get q.b {}).data
  match d.tileStart q.ea with | some x => d.slices x.2 | none => 0

/-- The pieces of memory that a command reads or writes: `acld` and `acst`. -/
def LoomCmd.pieces (q : LoomCmd) : List (Word × Nat) :=
  Machine.pieces q.ea (4096 * (if q.op = .acst then storeSize q.ty else 4))

/-- The accesses of a command of the loader, checked for the executing context (R198, R208, R209). -/
def State.cmdAccs (s : State) (core : Nat) (q : LoomCmd) : Except Stop (List Acc) :=
  match q.op with
  | .tld => match s.cmdTile core q with
    | none => .error (descriptorFault q.b)
    | some t => atBase q.ea (s.checkPieces .load q.sel t.pieces)
  | .acld => if q.ea.toNat % 4 ≠ 0 then .error (.trap 3 0 q.sel q.ea) else atBase q.ea (s.checkPieces .load q.sel q.pieces)
  | .acst =>
    if q.ea.toNat % storeSize q.ty ≠ 0 then .error (.trap 3 0 q.sel q.ea) else atBase q.ea (s.checkPieces .store q.sel q.pieces)
  | _ => .ok []

/-- Does a command use the loader, and the array (Table 7)? -/
def LoomOp.units : LoomOp → Bool × Bool
  | .mma => (false, true)
  | .mmam => (true, true)
  | _ => (true, false)

/-- May the first command that has not started start now (R200, R201)? A command of the loader comes after every earlier store of its
context (R271), and after its split loads, so that the accesses of one location keep their order (R263). -/
def State.cmdReady (s : State) (core : Nat) (q : LoomCmd) : Bool :=
  let k := ctxKey core q.ctx
  let busy := (s.coreAt core).loomq.filter (·.started)
  let free := busy.all fun x => !((x.op.units.1 && q.op.units.1) || (x.op.units.2 && q.op.units.2))
  let order := match q.op with
    | .tld | .mmam | .acld => (s.ctxAt k).task.storecnt = 0 && (s.ctxAt k).task.pend = 0
    | .acst => (s.ctxAt k).task.storecnt = 0 && (s.ctxAt k).task.pend = 0 && (!q.ord || s.drainedAt k)
    | .mma => true
  free && order

/-- The command marked as started. -/
def State.markCmd (s : State) (core : Nat) (q : LoomCmd) : State :=
  let c := s.coreAt core
  s.setCoreAt core { c with loomq := c.loomq.map fun x => if x.serial = q.serial then q else x }

/-- A command starts (R200): the loader's checks, the event's logging (R209), and where an `mmam` goes on
(R205). -/
def State.startCmd (s : State) (core : Nat) (q : LoomCmd) : State :=
  let k := ctxKey core q.ctx
  let x := s.ctxAt k
  match q.op with
  | .mma => (s.markCmd core { q with started := true }).push (.loomCmdDone (coreId core) q.serial)
  | .mmam =>
    let t := x.task
    let next := if t.progV && t.progPc = t.pc then t.progNext.toNat else 0
    ((s.setTaskAt k { t with progV := false }).markCmd core { q with started := true, next }).push (.mmamSliceDone (coreId core) q.serial)
  | _ =>
    let here := { s with cur := k }
    match here.cmdAccs core q with
    | .error e => s.failCmd core q e
    | .ok es =>
      let go : Result := if q.op = .acst then here.eventWrite es .ok else .ok here
      match go with
      | .error e => s.failCmd core q e
      | .ok s' => ({ s' with cur := s.cur }.markCmd core { q with started := true, accs := es }).push (.loomCmdDone (coreId core) q.serial)

/-- LOOM_CMD_START (R199 to R201): the oldest command that has not started starts, when its units are free
and its order is met. -/
def loomCmdStart (core : Nat) (s : State) : State :=
  match (s.coreAt core).loomq.find? (!·.started) with
  | none => s
  | some q =>
    if (s.ctxAt (ctxKey core q.ctx)).state = .stopped then
      (s.dropCmd core q.serial).within (ctxKey core q.ctx) State.wakeMe
    else if s.cmdReady core q then s.startCmd core q
    else s.push (.loomCmdStart (coreId core))

/-- Is a command of the loader an acquire that its lines' home slices serve (R201, R246)? -/
def LoomCmd.atHome (q : LoomCmd) : Bool := q.ord && 4 ≤ q.scope

/-- Reads of a tile made: the slot's content, or the wait or data error they meet; `home` asks for the home slices. -/
def State.readTile (s : State) (core key : Nat) (t : Tile) (es : List Acc) (home : Bool := false) : Got Slot :=
  match s.engineReads core 0 es home (Nat.max 1 (elemBits t.d.fmt / 8)) with
  | .wait s => .wait s
  | .bad n => .bad n
  | .ok vs s =>
    let lens := t.rowPieces.map List.length
    let body := splitBy lens (es.zip vs)
    let exps := (vs.drop lens.sum)
    .ok (t.slot key (body.map joinPieces) exps) s

/-- The checks of a slice of an `mmam`, and its reads (R205). -/
def State.readSlice (s : State) (core key : Nat) (q : LoomCmd) (t : Tile) : Except Stop (Got Slot) :=
  match atBase q.ea (s.checkPieces .load q.sel t.pieces) with
  | .error e => .error e
  | .ok es => .ok (s.readTile core key t es)

/-- The steps of an acquire after a command of the loader (R201, R247), whose bytes may have carried no time of the die. -/
def State.cmdAcquire (s : State) (core : Nat) (q : LoomCmd) : State :=
  if q.ord then s.acquireAll core q.scope (s.coreAt core).sread else s

/-- The data-error trap of a command at access `n` of its pieces (R211) (DEDUCED, unsafe, log entry 15). -/
def LoomCmd.dataError (q : LoomCmd) (ps : List (Word × Nat)) (n : Nat) : Stop := .trap 6 0 q.sel (ps.getD n (q.ea, 0)).1

/-- A `tld` completes: its slots take the tile. The other slot of a 16-bit tile, one slot of which the command takes, becomes
empty; the second slot's tag carries the format, extent and scale base of the first; a data error empties slot D alone
(DESIGN CHOICE, unsafe, log entry 45). -/
def State.doneTld (s : State) (core : Nat) (q : LoomCmd) : State :=
  let k := ctxKey core q.ctx
  let key := (s.ctxAt k).task.key
  match s.cmdTile core q with
  | none => s.failCmd core q (descriptorFault q.b)
  | some t => match { s with cur := k }.readTile core key t q.accs q.atHome with
    | .wait s' => { s' with cur := s.cur }.push (.loomCmdDone (coreId core) q.serial)
    | .bad n =>
      let c := s.coreAt core
      (s.setCoreAt core { c with slots := emptySlot c.slots key q.d }).failCmd core q (q.dataError t.pieces n)
    | .ok x s' =>
      let s := { s' with cur := s.cur }
      let c := s.coreAt core
      let m := match pairOf q.d (c.slots.get q.d {}) with | some p => emptySlot c.slots key p | none => c.slots
      let m := match pairOf (q.d + 1) (m.get (q.d + 1) {}) with
        | some p => if elemBits t.d.fmt = 16 then emptySlot m key p else m
        | none => m
      let m := m.put q.d x
      let m := if elemBits t.d.fmt = 16 then
          m.put (q.d + 1) { holder := some key, fmt := t.d.fmt, vr := t.vr, vc := t.vc, state := 2, sb := x.sb }
        else m
      ((s.setCoreAt core { c with slots := m }).cmdAcquire core q).finishCmd core q id

/-- An `mma` completes. -/
def State.doneMma (s : State) (core : Nat) (q : LoomCmd) : State :=
  let c := s.coreAt core
  let x := c.accs.get q.d {}
  let r := product (c.slots.get q.a {}) (c.slots.get q.b {}) x.data
  (s.setCoreAt core { c with accs := c.accs.put q.d { x with data := r.1 } }).finishCmd core q fun s => s.mergeFlags r.2

/-- An `acld` completes (R208). -/
def State.doneAcld (s : State) (core : Nat) (q : LoomCmd) : State :=
  match s.engineReads core 0 q.accs q.atHome 4 with
  | .wait s => s.push (.loomCmdDone (coreId core) q.serial)
  | .bad n => s.failCmd core q (q.dataError q.pieces n)
  | .ok vs s =>
    let all := joinPieces (q.accs.zip vs)
    let c := s.coreAt core
    let x := c.accs.get q.d {}
    let data := (rowCodes 32 4096 all).zip (List.range 4096) |>.foldl (fun (m : Store (BitVec 32)) y => m.set y.2 (BitVec.ofNat 32 y.1) 0) []
    ((s.setCoreAt core { c with accs := c.accs.put q.d { x with data } }).cmdAcquire core q).finishCmd core q id

/-- One element of `acst` with its flags (R209). -/
def storedElem (q : LoomCmd) (key : Word) (i : Nat) (v : BitVec 32) : Nat × Word :=
  if q.ty = 0 then (v.toNat, 0)
  else
    let f := if q.ty = 1 then bf16 else fp16
    f.encode (.ofCode q.rnd) (if q.rnd = 4 then draw key 64 i else 0) q.sat (fp32.decode v.toNat)

/-- An `acst` writes (R201, R209): its writes are stores of the context, counted in STORECNT, and it completes when all of
them are acknowledged. -/
def State.doneAcst (s : State) (core : Nat) (q : LoomCmd) : State :=
  let x := (s.coreAt core).accs.get q.d {}
  let t := (s.ctxAt (ctxKey core q.ctx)).task
  let key := t.skey
  let out := (List.range 4096).map fun i => storedElem q key i (x.data.get i 0)
  let all := out.foldr (fun a r => a.1 + 2 ^ (8 * storeSize q.ty) * r) 0
  let vals := (q.accs.foldl (fun r a => (r.1 ++ [(a, r.2 % 256 ^ a.size)], r.2 / 256 ^ a.size)) (([] : List (Acc × Nat)), all)).1
  let again := fun (s : State) n => (s.markCmd core { q with next := n }).push (.loomCmdDone (coreId core) q.serial)
  match s.engineStores core 0 { owner := q.serial, ctx := q.ctx, tid := t.tid } q.next (vals.drop q.next) (storeSize q.ty) with
  | (n, .wait s) => again s n
  | (_, .bad n) => s.failCmd core q (q.dataError q.pieces n)
  | (n, .ok _ s) =>
    if s.engineWaits core q.serial then again s n
    else s.finishCmd core q fun s => (s.mergeFlags (out.foldl (fun f x => f ||| x.2) 0)).stepKey q.rnd

/-- LOOM_CMD_DONE (R200): a command other than `mmam` completes. -/
def loomCmdDone (core serial : Nat) (s : State) : State :=
  match (s.coreAt core).loomq.find? (·.serial = serial) with
  | none => s
  | some q =>
    match q.op with
    | .tld => s.doneTld core q
    | .mma => s.doneMma core q
    | .mmam => s
    | .acld => s.doneAcld core q
    | .acst => s.doneAcst core q

/-- The progress of an `mmam` recorded at slice `j` (R205). -/
def State.recordProg (s : State) (core : Nat) (q : LoomCmd) (j : Nat) : State :=
  let k := ctxKey core q.ctx
  let t := (s.ctxAt k).task
  s.setTaskAt k { t with progNext := BitVec.ofNat 4 j, progV := true, progPc := t.pc }

/-- MMAM_SLICE_DONE (R205): the next slice is translated, read and added whole; a stop or a pre-emption
takes effect at the end of a slice, with PROG recorded (R212). -/
def mmamSliceDone (core serial : Nat) (s : State) : State :=
  match (s.coreAt core).loomq.find? (·.serial = serial) with
  | none => s
  | some q =>
    let k := ctxKey core q.ctx
    let key := (s.ctxAt k).task.key
    if s.cmdSlices core q ≤ q.next then s.finishCmd core q id
    else match s.cmdSlice core q q.next with
    | none => s.failCmd core q (descriptorFault q.b)
    | some t => match { s with cur := k }.readSlice core key q t with
      | .error e => (s.recordProg core q q.next).failCmd core q e
      | .ok (.wait s') => { s' with cur := s.cur }.push (.mmamSliceDone (coreId core) serial)
      | .ok (.bad n) => (s.recordProg core q q.next).failCmd core q (q.dataError t.pieces n)
      | .ok (.ok y s') =>
        let s := { s' with cur := s.cur }
        let c := s.coreAt core
        let x := c.accs.get q.d {}
        let a := c.slots.get q.a {}
        let w := if a.fmt = 1 ∨ a.fmt = 2 then 2 else 1
        let r := product (c.slots.get (q.a + w * q.next) {}) y x.data
        let s := s.setCoreAt core { c with accs := c.accs.put q.d { x with data := r.1 } }
        let s := s.within k fun s => s.mergeFlags r.2
        let j := q.next + 1
        if s.cmdSlices core q ≤ j then s.finishCmd core q id
        else if (s.ctxAt k).state = .stopped || (s.ctxAt k).preempt then
          ((s.recordProg core q j).dropCmd core serial).within k State.wakeMe
        else (s.markCmd core { q with next := j }).push (.mmamSliceDone (coreId core) serial)

/-! ### Claims, recall and restore (R187, R190) -/

/-- LOOM_CLAIM_RETRY (R187): the claims that wait for a holder on a core are decided again. -/
def loomClaimRetry (core holder : Nat) (s : State) : State :=
  { s with ctxs := s.ctxs.map fun x =>
      if x.1 / 16 = core && (x.2.wait = .claim holder || x.2.wait = .saved holder) && holder ≠ x.2.task.key then (x.1, x.2.satisfy) else x }

/-- A task's holdings on a core are written to its save area, one after the other. -/
def State.evictAll (s : State) (core key : Nat) : List Res → Except Stop State
  | [] => .ok s
  | r :: rest => match s.evict core key r with
    | .ok s => s.evictAll core key rest
    | .error e => .error e

/-- LOOM_RECALL_DONE (R190): the holding core's loom evicts everything that the task holds there; HV
becomes 0. -/
def loomRecallDone (s : State) : State :=
  if s.me.wait ≠ .loomRecall then s
  else
    let t := s.task
    let h := t.lheldCore.toNat
    match s.evictAll h t.key ((s.coreAt h).heldBy t.key) with
    | .ok s =>
      let s := s.setTask { s.task with lheldV := false }
      (s.wakeMe).push (.loomClaimRetry h t.key)
    | .error (.saveFault r h) => let s := s.reportMiss r; s.setMe { s.me with wait := .saved h }
    | .error _ => s

/-- A slot's content after a program has written to the save area: free values (R189) (DESIGN CHOICE, unsafe, log entry 18). -/
def State.freeSlot (s : State) : Slot × State :=
  let (fmt, s) := s.pick 256
  let (vr, s) := s.pick 65
  let (vc, s) := s.pick 65
  let (state, s) := s.pick 3
  let (sb, s) := s.freshWord
  let (exp, s) := s.freshLine
  let (cb, s) := s.freshLine
  let r := (List.range 4096).foldl (fun (r : Store (BitVec 16) × State) i =>
    let w := r.2.freshWord
    (r.1.set i (BitVec.ofNat 16 (w.1.toNat % 2 ^ elemBits fmt)) 0, w.2)) ([], s)
  ({ fmt, vr, vc, state, sb := sb.truncate 16, cb := cb.truncate 128, exp, data := r.1 }, r.2)

/-- The content of a save area is free (R189) (DESIGN CHOICE, unsafe, log entry 18). -/
def State.freeSaved (s : State) (a : Saved) : Saved × State :=
  let x := a.slots.foldl (fun (r : Store Slot × State) y => let z := r.2.freeSlot; (r.1.put y.1 z.1, z.2)) ([], s)
  let y := a.accs.foldl (fun (r : Store Accum × State) y =>
    let z := (List.range 4096).foldl (fun (r : Store (BitVec 32) × State) i =>
      let w := r.2.freshWord
      (r.1.set i (w.1.truncate 32) 0, w.2)) ([], r.2)
    (r.1.put y.1 { data := z.1 }, z.2)) ([], x.2)
  let z := a.tensors.foldl (fun (r : Store Tensor × State) y =>
    let w := r.2.freshLine
    (r.1.put y.1 { data := w.1 }, w.2)) ([], y.2)
  ({ a with slots := x.1, accs := y.1, tensors := z.1 }, z.2)

/-- The loom of a core reads bytes of a save area at their homes, once every write of them is performed: do they hold what the loom wrote
there (R189)? -/
def State.saveKept (s : State) (core : Nat) (a : Saved) (off n v : Nat) : Got Bool :=
  match s.savePlace core a off with
  | none => .ok true s
  | some pa =>
    if !isPeerMem pa && !s.backed pa then .ok true s
    else if s.dies.any fun d => d.2.unapplied pa n then .wait s
    else match s.engineReadMem core pa n true with
      | .ok x s => .ok (decide (x = v)) s
      | .wait s => .wait s
      | .bad n => .bad n

/-- The same for several pieces, each an offset, a size and a value. -/
def State.saveKeptAll (s : State) (core : Nat) (a : Saved) : List (Nat × Nat × Nat) → Got Bool
  | [] => .ok true s
  | x :: rest => match s.saveKept core a x.1 x.2.1 x.2.2 with
    | .ok k s => (match s.saveKeptAll core a rest with
      | .ok l s => .ok (k && l) s
      | g => g)
    | g => g

/-- The pieces of a save area that a restore reads, with what the loom wrote there. -/
def Saved.pieces (a : Saved) : List (Nat × Nat × Nat) :=
  (0, 16, a.header) :: (a.all.flatMap a.lines).map fun x => (x.1, 64, x.2)

/-- The saved content of the executing task back on its core, where `kept` says whether what the loom wrote is there still; its SAVED bits
are cleared (R189, R190) (DESIGN CHOICE, unsafe, log entry 18). -/
def State.reload (s : State) (kept : Bool) : State :=
  let t := s.task
  match s.pkg.saves.find t.key with
  | none => s
  | some a =>
    let (a, s) := if kept then (a, s) else s.freeSaved a
    let s := s.saveHeader s.curCore { a with slots := [], accs := [], tensors := [] }
    let c := s.coreAt s.curCore
    let c := { c with
      slots := a.slots.foldl (fun m x => m.put x.1 { x.2 with holder := some t.key }) c.slots
      accs := a.accs.foldl (fun m x => m.put x.1 { x.2 with holder := some t.key }) c.accs
      tensors := a.tensors.foldl (fun m x => m.put x.1 { x.2 with holder := some t.key }) c.tensors }
    let s := (s.setCoreAt s.curCore c).setPkg { s.pkg with
      saves := s.pkg.saves.put t.key { a with slots := [], accs := [], tensors := [] } }
    s.setTask { t with lheldCore := BitVec.ofNat 8 s.curCore, lheldV := true }

/-- LOOM_RESTORE_DONE (R190): the task obtains again everything that lies in its save area, and reloads it; an uncorrectable data error of
the area is a trap of class 6 at the waiting instruction (DESIGN CHOICE, unsafe, log entry 18). -/
def loomRestoreDone (s : State) : State :=
  if s.me.wait ≠ .loomRestore then s
  else
    let t := s.task
    match s.pkg.saves.find t.key with
    | none => s.wakeMe
    | some a =>
      let s := a.all.foldl (fun s r => s.supplySave s.curCore a r) s
      let fault := fun (s : State) (r : FaultRec) (h : Nat) => (let s := s.reportMiss r; (s.setMe { s.me with wait := .saved h }).noteWait (.saved h))
      match a.all.findSome? fun r => s.saveMiss s.curCore a false r with
      | some off => fault s (s.saveRecord a t.key s.curCore off false) t.key
      | none => match s.saveKeptAll s.curCore a a.pieces with
        | .wait s => s.push (.loomRestoreDone (coreId s.curCore) (ctxId s.curCtx))
        | .bad _ => s.late (.trap 6 0 1 t.lsave)
        | .ok kept s => match s.obtainAll s.curCore t.key t.procid.toNat a.all with
          | .ok s => (s.reload kept).wakeMe
          | .error (.retry _ w) => (s.setMe { s.me with wait := w }).noteWait w
          | .error (.saveFault r h) => fault s r h
          | .error _ => s

/-! ### Meanings -/

/-- `tdef` (R194). -/
def execTdef (e : Ext) (s : State) : Host.Outcome State Fault Refusal := done (tensorDefine e s)

/-- `tclaim` (R196). -/
def execTclaim (e : Ext) (s : State) : Host.Outcome State Fault Refusal := done (tileClaim e s)

/-- `trel` (R197). -/
def execTrel (e : Ext) (s : State) : Host.Outcome State Fault Refusal := done (tileRelease e s)

/-- `tld` (R198). -/
def execTld (e : Ext) (s : State) : Host.Outcome State Fault Refusal := done (tileLoad e s)

/-- `mma` (R202). -/
def execMma (e : Ext) (s : State) : Host.Outcome State Fault Refusal := done (tileProduct e s)

/-- `mmam` (R204). -/
def execMmam (e : Ext) (s : State) : Host.Outcome State Fault Refusal := done (streamProduct e s)

/-- `acz` (R207). -/
def execAcz (e : Ext) (s : State) : Host.Outcome State Fault Refusal := done (accZero e s)

/-- `acld` (R208). -/
def execAcld (e : Ext) (s : State) : Host.Outcome State Fault Refusal := done (accLoad e s)

/-- `acst` (R209). -/
def execAcst (t : LaneTy) (e : Ext) (s : State) : Host.Outcome State Fault Refusal :=
  done (accStore (match t with | .f32 => 0 | .bf16 => 1 | _ => 2) e s)

/-- `acrd` (R210). -/
def execAcrd (e : Ext) (s : State) : Host.Outcome State Fault Refusal := done (accRead e s)

/-- LOOM_CMD_START (R200). -/
def execLoomCmdStart (core : CoreId) (s : State) : Host.Outcome State Fault Refusal := done (loomCmdStart core.toNat s)

/-- LOOM_CMD_DONE (R200). -/
def execLoomCmdDone (core : CoreId) (serial : Nat) (s : State) : Host.Outcome State Fault Refusal :=
  done (loomCmdDone core.toNat serial s)

/-- MMAM_SLICE_DONE (R205). -/
def execMmamSliceDone (core : CoreId) (serial : Nat) (s : State) : Host.Outcome State Fault Refusal :=
  done (mmamSliceDone core.toNat serial s)

/-- LOOM_CLAIM_RETRY (R187). -/
def execLoomClaimRetry (core holder : Nat) (s : State) : Host.Outcome State Fault Refusal :=
  done (loomClaimRetry core holder s)

/-- LOOM_RECALL_DONE (R190). -/
def execLoomRecallDone (core : CoreId) (ctx : CtxId) (s : State) : Host.Outcome State Fault Refusal :=
  done (s.within (ctxKey core.toNat ctx.toNat) loomRecallDone)

/-- LOOM_RESTORE_DONE (R190). -/
def execLoomRestoreDone (core : CoreId) (ctx : CtxId) (s : State) : Host.Outcome State Fault Refusal :=
  done (s.within (ctxKey core.toNat ctx.toNat) loomRestoreDone)

end Sys2Proof.Machine
end

