-- ==== Sys2Proof/Machine/Copy.lean ====
section
/-! DEFINITION. The copy engine (09_copy R217 to R242): templates, the checks and entry of a command, the
copy instructions, and the progress of a running copy. -/

namespace Sys2Proof.Machine

/-! ### Templates (R221, R222) -/

/-- A template record (Table 3). -/
structure Template where
  ssel : BitVec 16
  dsel : BitVec 16
  shadow : Bool
  post : Bool
  token : Bool
  amode : Nat
  cscope : Nat
  src : Word
  dst : Word
  rowbytes : Nat
  rows : Nat
  sstride : Word
  dstride : Word
  mbox : Nat
  minc : BitVec 32
  node : Word
  /-- A reserved field is nonzero. -/
  bad : Bool
  deriving DecidableEq, Repr

/-- Bits [lo + n − 1 : lo] of a 64-byte record. -/
def recField (d : BitVec 512) (lo n : Nat) : Nat := (d >>> lo).toNat % 2 ^ n

/-- The fields of a 64-byte record. -/
def Template.ofRecord (d : BitVec 512) : Template :=
  let w := fun lo => BitVec.ofNat 64 (recField d lo 64)
  { ssel := BitVec.ofNat 16 (recField d 0 16), dsel := BitVec.ofNat 16 (recField d 16 16)
    shadow := d.getLsbD 32, post := d.getLsbD 33, token := d.getLsbD 34, amode := recField d 35 2
    cscope := recField d 40 3, src := w 64, dst := w 128, rowbytes := recField d 192 32, rows := recField d 224 32
    sstride := w 256, dstride := w 320, mbox := recField d 384 32, minc := BitVec.ofNat 32 (recField d 416 32)
    node := w 448, bad := recField d 37 3 ≠ 0 || recField d 43 5 ≠ 0 || recField d 48 16 ≠ 0 }

/-- A scratchpad selector. -/
def isScratchSel (x : BitVec 16) : Bool := (0x1000 ≤ x.toNat && x.toNat ≤ 0x10FF) || (0x1F00 ≤ x.toNat && x.toNat ≤ 0x1F03)

/-- A selector that a template may name (R222). -/
def isCopySel (x : BitVec 16) : Bool := x.toNat ≤ 1 || isScratchSel x || (0x2000 ≤ x.toNat && x.toNat ≤ 0x2003)

/-- The records that R222 refuses. -/
def Template.refused (t : Template) : Bool :=
  t.bad || 6 ≤ t.cscope || t.rowbytes = 0 || 2 ^ 24 < t.rowbytes || t.rows = 0 || 2 ^ 24 < t.rows ||
    !isCopySel t.ssel || !isCopySel t.dsel ||
    (isScratchSel t.dsel && (t.dstride.msb || (1 < t.rows && t.dstride.toInt < t.rowbytes))) ||
    (t.shadow && (1 < t.dsel.toNat || t.dst.toNat % 65536 ≠ 0 || (1 < t.rows && t.dstride.toInt ≠ t.rowbytes) ||
      t.rowbytes * t.rows % 65536 ≠ 0)) ||
    (if t.post then t.mbox % 4 ≠ 0 else t.mbox ≠ 0 || t.minc ≠ 0) ||
    (if t.token then t.node.toNat % 64 ≠ 0 else t.node ≠ 0)

/-- A record resolved with its argument (R228). -/
def Template.resolve (t : Template) (arg : Word) : Template :=
  match t.amode with
  | 1 => { t with src := t.src + arg }
  | 2 => { t with dst := t.dst + arg }
  | 3 => { t with src := t.src + (arg.truncate 32).signExtend 64, dst := t.dst + (arg >>> 32 |>.truncate 32).signExtend 64 }
  | _ => t

/-- Every row of an array lies in [0, limit): the rows form an arithmetic progression. -/
def rowsWithin (base stride : Word) (rowbytes rows limit : Nat) : Bool :=
  let a : Int := base.toNat
  let b : Int := a + (rows - 1 : Nat) * stride.toInt
  0 ≤ a && 0 ≤ b && a + rowbytes ≤ limit && b + rowbytes ≤ limit

/-- The offset limit of a space for a process, on a core; none where it holds no allocation. -/
def State.spaceLimit (s : State) (procid : Nat) : Space → Option Nat
  | .shared => some (2 ^ 57)
  | .priv => some (2 ^ 48)
  | .scratch c => (s.alloc c procid).map (·.size)
  | .weight _ => some (2 ^ 31)
  | .mailbox => none

/-- The start checks of R228 on a resolved record: the cause of the first that fails (Table 6). -/
def State.startCheck (s : State) (core procid : Nat) (t : Template) : Option Nat :=
  let within := fun (sel : BitVec 16) (base stride : Word) => match spaceOf core sel.toNat with
    | none => false
    | some sp => match s.spaceLimit procid sp with
      | none => false
      | some l => rowsWithin base stride t.rowbytes t.rows l
  let inCluster := match spaceOf core t.ssel.toNat with
    | some (.scratch c) => clusterOf c = clusterOf core
    | _ => true
  let own := match spaceOf core t.dsel.toNat with | some (.scratch c) => c = core | _ => true
  if !own then some 7
  else if isScratchSel t.dsel && !within t.dsel t.dst t.dstride then some 2
  else if !inCluster then some 7
  else if isScratchSel t.ssel && !within t.ssel t.src t.sstride then some 2
  else if t.shadow && t.dst.toNat % 65536 ≠ 0 then some 2
  else if !within t.dsel t.dst t.dstride || !within t.ssel t.src t.sstride then some 2
  else none

/-- The address of a template of a process, if it has a table (R221). -/
def State.templateAt (s : State) (procid idx : Nat) : Option Word :=
  match (s.process procid).pools.find 9 with
  | some p => if p.count = 0 then none else some (p.base + BitVec.ofNat 64 (64 * idx))
  | none => none

/-- Reads 64 bytes in a space of a process for an engine of a core, as its accesses are made (R246, R255, R257); `home` asks for the home
slice (R226); none where they are not readable. -/
def State.readRecord (s : State) (core procid : Nat) (sel : BitVec 16) (off : Word) (home : Bool) : Option (Got (BitVec 512)) :=
  match s.locate ⟨core, procid, true⟩ .load sel off 64 with
  | .error (.owned l) => some (.wait (s.askHost l))
  | .error _ => none
  | .ok p => match s.engineRead core 0 ⟨p, 64⟩ home 8 with
    | .ok v s => some (.ok (BitVec.ofNat 512 v) s)
    | .wait s => some (.wait s)
    | .bad n => some (.bad n)

/-- The template record that a context's `xfer` reads: its own stores are in it (R225). -/
def State.xferRecord (s : State) (off : Word) : Option (Got (BitVec 512)) :=
  let pid := s.task.procid.toNat
  (s.readRecord s.curCore pid 1 off false).map fun g => match g, s.locate ⟨s.curCore, pid, true⟩ .load 1 off 64 with
    | .ok v t, .ok (.mem pa) => .ok (BitVec.ofNat 512 (t.ownBytes s.curCore s.curCtx s.task.tid pa 64 v.toNat)) t
    | g, _ => g

/-! ### Channels (R217 to R220) -/

/-- A resolved command enters the queue (R225): the guard of a scratchpad destination begins (R230). -/
def State.enterCopy (s : State) (core ch procid tindex : Nat) (t : Template) (after : List Nat)
    (walker : Option (Nat × Word)) : State :=
  let n := s.pkg.serial + 1
  let s := s.setPkg { s.pkg with serial := n }
  let (lo, hi) := match spaceOf core t.dsel.toNat, s.alloc core procid with
    | some (.scratch _), some a =>
      (a.base + t.dst.toNat, a.base + t.dst.toNat + (t.rows - 1) * t.dstride.toNat + t.rowbytes)
    | _, _ => (0, 0)
  let x : Copy := {
    serial := n, ch, procid, tindex, ssel := t.ssel, dsel := t.dsel, shadow := t.shadow, post := t.post
    token := t.token, cscope := t.cscope, src := t.src, dst := t.dst, rowbytes := t.rowbytes, rows := t.rows
    sstride := t.sstride, dstride := t.dstride, mbox := BitVec.ofNat 64 t.mbox, minc := t.minc, node := t.node
    walker, after, lo, hi, wm := lo }
  let c := s.coreAt core
  let y := c.chan ch
  let y := { y with state := if y.state = 2 ∨ y.state = 3 then y.state else 1 }
  (s.setCoreAt core { c with copies := c.copies ++ [x], chans := c.chans.put ch y }).push (.copyStart (coreId core))

/-- The end of a binding that `xfer` made, when the channel has come to rest (R219) (DEDUCED, unsafe, log entry 35). -/
def Core.unbind (c : Core) (ch : Nat) : Core :=
  let y := c.chan ch
  if !y.pin && c.qcount ch = 0 && (c.runningCopy ch).isNone && (y.state = 0 || y.state = 5) then
    { c with chans := c.chans.put ch { y with v := false } }
  else c

/-! ### Instructions -/

/-- A copy fault (Table 6): EINFO is the template index (DEDUCED, unsafe, log entry 15). -/
def copyFault (cause idx : Nat) : Stop := .trap 10 cause 0 (BitVec.ofNat 64 idx)

/-- `xdef` once its record has been read (R224). -/
def State.finishXdef (s : State) (idx : Nat) (record : BitVec 512) (words : Nat) : Result :=
  if (Template.ofRecord record).refused then .error (copyFault 3 idx)
  else match s.templateAt s.task.procid.toNat idx with
    | none => .error (copyFault 8 idx)
    | some a =>
      let n := s.pkg.serial + 1
      match (s.setPkg { s.pkg with serial := n }).engineWrite s.curCore s.task.procid.toNat a 64 record.toNat { owner := n } with
      | none => .error (.miss 1 a true false)
      | some s => .ok (if s.engineWaits s.curCore n then s.park 1 (.xcan n words) else s.advance words)

/-- `xdef` (R224). -/
def copyDefine (e : Ext) (s : State) : State :=
  s.instr [e.a.toNat, e.c.toNat] [] e.syn false fun s => s.notTimed <|
    let idx := (s.g e.c.toNat).toNat
    let m := s.extArgNoIndex e
    if 255 < idx || (s.templateAt s.task.procid.toNat idx).isNone then .error (copyFault 8 idx)
    else match s.checkNear .load (s.selOf m) m.ea 64 64 with
      | .error x => .error x
      | .ok p => match s.guardOf [⟨p, 64⟩] with
        | some w => .error (.retry 1 w)
        | none =>
          if p.isOwn s.curCore then s.finishXdef idx (BitVec.ofNat 512 (s.ownValue ⟨p, 64⟩)) m.words
          else .ok (s.request [⟨p, 64⟩] [] (.template idx) m (s.selOf m) none)

/-- `xfer` (R225); an uncorrectable data error of the template's read is a trap of class 6, as of a load (R113) (DEDUCED, unsafe, log entry 35). -/
def copyStartInstr (e : Ext) (s : State) : State :=
  s.instr [e.a.toNat, e.b.toNat] [] e.syn false (held := 4 ≤ ((s.coreAt s.curCore).copies.filter (!·.running)).length) fun s => s.notTimed <|
    let c := s.coreAt s.curCore
    let ch := e.d.toNat
    let idx := (s.g e.a.toNat).toNat
    let pid := s.task.procid.toNat
    match (if 255 < idx then none else s.templateAt pid idx) with
    | none => .error (copyFault 8 idx)
    | some a =>
      let x := c.chan ch
      if x.v && x.procid ≠ pid then .error (copyFault 1 idx)
      else match s.xferRecord a with
        | none => .error (.miss 1 a false false)
        | some (.wait s) => s.again 1 .engineRead
        | some (.bad _) => .error (.trap 6 0 1 a)
        | some (.ok r s) =>
          let t := Template.ofRecord r
          if t.refused then .error (copyFault 3 idx)
          else
            let t := t.resolve (s.g e.b.toNat)
            match s.startCheck s.curCore pid t with
            | some cause => .error (copyFault cause idx)
            | none =>
              let s := s.enterCopy s.curCore ch pid idx t s.ownUnacked none
              let c := s.coreAt s.curCore
              let y := c.chan ch
              .ok ((s.setCoreAt s.curCore { c with
                chans := c.chans.put ch (if y.v then y else { y with v := true, pin := false, procid := pid }) }).advance e.words)

/-- Has a channel come to rest, for `xwait` (R234)? -/
def Core.atRest (c : Core) (ch : Nat) : Bool :=
  c.qcount ch = 0 && (c.runningCopy ch).isNone && ((c.chan ch).state = 0 || (c.chan ch).state = 4 || (c.chan ch).state = 5)

/-- The end of `xwait` on a channel at rest, in the executing context (R234) (DEDUCED, unsafe, log entry 35). -/
def State.finishXwait (s : State) (ch words : Nat) : State :=
  let c := s.coreAt s.curCore
  let y := c.chan ch
  let s := s.setCoreAt s.curCore ({ c with
    chans := c.chans.put ch { y with state := if y.state = 4 then 0 else y.state, v := y.v && y.pin } })
  if y.state = 4 then s.settle (.error (copyFault y.cause y.tindex))
  else (s.acquireAll s.curCore y.cscope (s.dieTime s.curCore)).advance words

/-- `xwait` (R234); on a channel that is not bound to the process it completes, as an acquire at the scope of the channel's last
completed copy. -/
def copyWait (e : Ext) (s : State) : State :=
  s.instr [] [] [] false fun s => s.notTimed <|
    let ch := e.a.toNat
    let c := s.coreAt s.curCore
    let y := c.chan ch
    if !y.v || y.procid ≠ s.task.procid.toNat then .ok ((s.acquireAll s.curCore y.cscope (s.dieTime s.curCore)).advance e.words)
    else if c.atRest ch then .ok (s.finishXwait ch e.words)
    else .ok (s.park 11 (.channel ch e.words))

/-- The contexts of a core that wait for a channel at rest go on, in order of number. -/
def State.wakeChannel (s : State) (core ch : Nat) : State :=
  if !(s.coreAt core).atRest ch then s
  else (List.range 16).foldl (fun s i =>
    match (s.ctxAt (ctxKey core i)).wait with
    | .channel h w => if h = ch then s.within (ctxKey core i) fun s => s.wakeMe.finishXwait ch w else s
    | _ => s) s

/-- `xstat` (R235). -/
def copyStatus (e : Ext) (s : State) : State :=
  s.instr [] [] [] false (wr := [e.d.toNat]) fun s =>
    let ch := e.a.toNat
    let c := s.coreAt s.curCore
    let y := c.chan ch
    let v : Word := if !y.v then 0 else if y.procid = s.task.procid.toNat then c.chstat ch else 7
    .ok ((s.setG e.d.toNat v).advance e.words)

/-- The copies of a channel are withdrawn (R236, R240), with a translation fault that waits to be reported: those of graph nodes fault
their nodes. The fault of a node whose copy is cancelled has cause 0 (DESIGN CHOICE, unsafe, log entry 35). -/
def State.withdrawCopies (s : State) (core ch : Nat) (state cause : Nat) (run : Bool) : State :=
  let c := s.coreAt core
  let gone := c.copies.filter fun x => x.ch = ch
  let y := c.chan ch
  let c := { c with
    copies := c.copies.filter fun x => x.ch ≠ ch
    chans := c.chans.put ch { y with state, cause := if run then cause else y.cause, done := y.done + BitVec.ofNat 32 gone.length } }
  let s := s.setPkg { s.pkg with records := s.pkg.records.filter fun r => !(r.kind = 4 && r.core = core && r.unit = ch) }
  gone.foldl (fun s x => match x.walker with
    | some (l, a) => s.push (.nodeFault l a cause)
    | none => s) (s.setCoreAt core (c.unbind ch))

/-- The granules of a range of a process that have shadows: key, shadow frame. -/
def State.shadowsIn (s : State) (procid : Nat) (priv : Bool) (base n : Nat) : List (Nat × Nat) :=
  (s.process procid).shadows.filter fun x =>
    let k := priv.toNat * 2 ^ 64 + base
    k ≤ x.1 && x.1 < k + 65536 * n

/-- Is a write to a frame of 64 KiB on its way to its home? -/
def State.writesFrame (s : State) (frame : Nat) : Bool :=
  s.dies.any fun (d : Nat × Die) =>
    d.2.outbound.any (fun o => o.pa / 65536 = frame / 65536) || d.2.heldWrites.any fun o => o.pa / 65536 = frame / 65536

/-- Does a shadowed copy write into a range of a process: one that entered before number `serial`, or one that has been withdrawn with
writes in flight (R232, R236)? -/
def State.shadowBusy (s : State) (procid : Nat) (priv : Bool) (base n serial : Nat) : Bool :=
  (s.cores.any fun c => c.2.copies.any fun x =>
    0 < n && x.shadow && x.procid = procid && x.serial < serial && (x.dsel = 1) = priv &&
      x.dst.toNat < base + 65536 * n && base < x.dst.toNat + x.rowbytes * x.rows) ||
    (s.shadowsIn procid priv base n).any fun x => s.writesFrame x.2

/-- Are writes of copies that have been withdrawn still to be acknowledged (R236, R369)? -/
def State.withdrawnBusy (s : State) : Bool :=
  let live := fun (core owner : Nat) => owner = 0 || (s.coreAt core).copies.any (·.serial = owner) || (s.coreAt core).loomq.any (·.serial = owner)
  s.dies.any fun (d : Nat × Die) => d.2.outbound.any (fun o => !live o.core o.owner) || d.2.heldWrites.any fun o => !live o.core o.owner

/-- Every leased or visitor copy of a line of a page ends, but for the pending bytes of R254: no translation names the page
any more, or names it anew (R232) (DEDUCED, unsafe, log entry 35). -/
def State.dropFrame (s : State) (frame : Nat) : State :=
  let other := fun (line : Nat) => line / 64 ≠ frame / 4096
  { s with
    cores := s.cores.map fun (c : Nat × Core) => (c.1, { c.2 with
      l1 := c.2.l1.filter fun l => other l.1
      icache := c.2.icache.filter fun l => other l.1 })
    dies := s.dies.map fun (d : Nat × Die) => (d.1, { d.2 with
      visitors := d.2.visitors.filter fun (v : Nat × Visitor) => other v.1 || v.2.pending ≠ 0 }) }

/-- The page that the tables name for an offset of a process, before any publication: its physical address (R423). -/
def State.visiblePage (s : State) (procid : Nat) (priv : Bool) (off : Nat) : Option Nat :=
  (s.lookup 256 procid priv off).map fun x =>
    let a := x.1.pa + off % 2 ^ x.1.log2
    (if x.1.dpa then a else s.hostToPa a) / 4096 * 4096

/-- The pages of a granule, each with its offset in it. -/
def State.granulePages (s : State) (procid : Nat) (k : Nat) : List (Nat × Nat) :=
  (List.range 16).filterMap fun i => (s.visiblePage procid (2 ^ 64 ≤ k) (k % 2 ^ 64 + 4096 * i)).map fun pa => (4096 * i, pa)

/-- The publication event for one page: the remap names a page of the shadow, and no host holds a line of the old one (DESIGN CHOICE, safe, log entry 7). -/
def State.publishPage (s : State) (visible new : Nat) : State :=
  let old := s.frame visible
  let remap := if new = visible then s.pkg.remap.drop (visible / 4096) else s.pkg.remap.put (visible / 4096) (new / 4096)
  let stale := fun (key : Nat) => old / 64 ≤ key / 2 && key / 2 < old / 64 + 64
  ((s.dropFrame old).dropFrame new).setPkg { s.pkg with
    remap
    hostLines := s.pkg.hostLines.filter fun (x : Nat × Nat) => !stale x.1
    backInv := s.pkg.backInv.filter fun (x : Nat) => !stale x
    snoops := s.pkg.snoops.filter fun (x : Nat) => !stale x }

/-- The publication event for one granule (R232, R423): the remap names the shadow, and the old frame returns to the pool; where its
pages do not lie in one frame, none returns (DESIGN CHOICE, safe, log entry 35). -/
def State.publishOne (s : State) (procid : Nat) (k frame : Nat) : State :=
  let pages := s.granulePages procid k
  let olds := pages.map fun x => (x.1, s.frame x.2)
  let whole := match olds with
    | x :: _ => if pages.length = 16 ∧ x.2 % 65536 = 0 ∧ olds.all (fun y => y.2 = x.2 + y.1) then [x.2] else []
    | [] => []
  let s := pages.foldl (fun s x => s.publishPage x.2 (frame + x.1)) s
  let p := s.process procid
  s.setPkg { s.pkg with procs := s.pkg.procs.put procid { p with shadows := p.shadows.drop k, frames := p.frames ++ whole } }

/-- Every granule of a range is published at once. -/
def State.publish (s : State) (procid : Nat) (priv : Bool) (base n : Nat) : State :=
  (s.shadowsIn procid priv base n).foldl (fun s x => s.publishOne procid x.1 x.2) s

/-- `xpub` (R232): a shadowed copy has entered before it if it entered before it issued (DEDUCED, unsafe, log entry 35). -/
def copyPublish (e : Ext) (s : State) : State :=
  s.instr [e.a.toNat, e.b.toNat] [] e.syn false fun s => s.notTimed <|
    let m := s.extArgNoIndex e
    let n := (s.g e.b.toNat).toNat
    let sel := s.selOf m
    if m.ea.toNat % 65536 ≠ 0 then .error (.trap 3 0 sel m.ea)
    else if 1 < sel.toNat then .error (.trap 4 0 sel m.ea)
    else if 16384 < n then .error (copyFault 9 0)
    else match s.checkAll .store sel 1 1 ((List.range (16 * n)).map fun i => m.ea + BitVec.ofNat 64 (4096 * i)) with
      | .error x => .error x
      | .ok _ =>
        let serial := s.pkg.serial + 1
        let s := s.setPkg { s.pkg with serial }
        if !s.drained || s.shadowBusy s.task.procid.toNat (sel = 1) m.ea.toNat n serial then
          .ok (s.park 1 (.publish (sel = 1) m.ea.toNat n serial m.words))
        else .ok ((s.publish s.task.procid.toNat (sel = 1) m.ea.toNat n).advance m.words)

/-- The publications whose contexts have drained and whose copies have ended are performed, and their contexts go on (R232). -/
def State.tryPublish (s : State) : State :=
  s.ctxs.foldl (fun s x => match x.2.wait with
    | .publish priv base n serial words =>
      let pid := x.2.task.procid.toNat
      if !s.drainedAt x.1 || s.shadowBusy pid priv base n serial then s
      else (s.publish pid priv base n).within x.1 fun s => (s.advance words).wakeMe
    | _ => s) s

/-- `xcan` (R236). -/
def copyCancel (e : Ext) (s : State) : State :=
  s.instr [] [] [] false fun s => s.notTimed <|
    let ch := e.a.toNat
    let y := (s.coreAt s.curCore).chan ch
    if !y.v || y.procid ≠ s.task.procid.toNat then .ok (s.advance e.words)
    else
      let k := s.curCore
      let gone := (s.coreAt k).runningCopy ch
      let s := (s.withdrawCopies k ch 5 0 false).wakeChannel k ch
      match gone.filter fun x => s.engineWaits k x.serial with
      | some x => .ok (s.park 1 (.xcan x.serial e.words)).tryPublish
      | none => .ok (s.advance e.words).tryPublish

/-- The value of `wsref` on a die (R239, R430). -/
def Die.wsref (d : Die) : Word :=
  let p := d.real % 44800
  let b := p / 1400
  let q := p % 1400
  let f := fun n => if d.hold then (n + 1) / 2 else n
  if q < 700 then BitVec.ofNat 64 (f (1400 - q) * 2 ^ 32 + f (700 - q) * 2 ^ 16 + 32 + b)
  else BitVec.ofNat 64 (f (1400 - q) * 2 ^ 32 + (b + 1) % 32)

/-- `wsref` of `n` words (R239). -/
def weightRefresh (n d : Nat) (s : State) : State :=
  s.instr [] [] [] false (wr := [d]) fun s => .ok ((s.setG d (s.dieAt (dieOf s.curCore)).wsref).advance n)

/-! ### A copy runs (R220, R229 to R231, R240) -/

/-- Is a command held by an `xpub` that issued before it, to a granule of its range (R232)? -/
def State.heldByPublish (s : State) (x : Copy) : Bool :=
  x.shadow && s.ctxs.any fun c => match c.2.wait with
    | .publish priv base n serial _ =>
      0 < n && c.2.task.procid.toNat = x.procid && serial < x.serial && (x.dsel = 1) = priv &&
        x.dst.toNat < base + 65536 * n && base < x.dst.toNat + x.rowbytes * x.rows
    | _ => false

/-- The oldest queued command that may start (R220, R229): its channel's first. -/
def State.startable (s : State) (core : Nat) : Option Copy :=
  let c := s.coreAt core
  c.copies.find? fun x => !x.running && (c.runningCopy x.ch).isNone &&
    ((c.copies.find? fun y => y.ch = x.ch).any fun y => y.serial = x.serial) && (x.after.all fun i => !c.unacked.any fun u => u.2.2 = i) && !s.heldByPublish x

/-- A copy of a core replaced. -/
def State.setCopy (s : State) (core : Nat) (x : Copy) : State :=
  let c := s.coreAt core
  s.setCoreAt core { c with copies := c.copies.map fun y => if y.serial = x.serial then x else y }

/-- COPY_START (R220): the oldest command whose channel is free starts (DEDUCED, unsafe, log entry 35). -/
def copyStart (core : Nat) (s : State) : State :=
  if s.coreHalted core then s.push (.copyStart (coreId core))
  else match s.startable core with
  | none => if (s.coreAt core).copies.any (!·.running) then s.push (.copyStart (coreId core)) else s
  | some x =>
    let s := s.setCopy core { x with running := true }
    let c := s.coreAt core
    let y := c.chan x.ch
    (s.setCoreAt core { c with chans := c.chans.put x.ch { y with state := 2, tindex := x.tindex } }).push
      (.copyLineWritten (coreId core) x.serial)

/-- The next piece of a copy: source offset, destination offset, size; at most one line of each side. The pieces are taken in
ascending order of rows and of bytes, which is one of the orders that R229 allows (DESIGN CHOICE, unsafe, log entry 35). -/
def Copy.piece (x : Copy) : Word × Word × Nat :=
  let i := x.pos / x.rowbytes
  let o := x.pos % x.rowbytes
  let a := x.src + BitVec.ofNat 64 i * x.sstride + BitVec.ofNat 64 o
  let b := x.dst + BitVec.ofNat 64 i * x.dstride + BitVec.ofNat 64 o
  (a, b, Nat.min (x.rowbytes - o) (Nat.min (64 - a.toNat % 64) (64 - b.toNat % 64)))

/-- Is a die's weight-store gate open (R237)? -/
def State.gate (s : State) (d : Nat) : Bool := (s.dieAt d).gateOpen

/-- Is a place in a frame of 64 KiB? -/
def Place.inFrame (frame : Nat) : Place → Bool
  | .mem pa => pa / 65536 = frame / 65536
  | _ => false

/-- Is an access whose address was fixed before a publication still to be performed in a frame that has been returned to its pool (R231)? -/
def State.frameBusy (s : State) (frame : Nat) : Bool :=
  s.writesFrame frame ||
    (s.cores.any fun (c : Nat × Core) => c.2.wbuf.any (·.place.inFrame frame) || c.2.splits.any (·.place.inFrame frame) ||
      c.2.loomq.any fun q => q.accs.any (·.place.inFrame frame)) ||
    s.ctxs.any fun x => match x.2.wait with
      | .req r | .watch r => r.todo.any (·.place.inFrame frame)
      | _ => false

/-- Size and alignment of the element of a pool (R329). -/
def poolElem : Nat → Nat × Nat
  | 0 => (4096, 4096)
  | 1 => (8192, 8192)
  | 2 => (16384, 16384)
  | 3 => (139264, 4096)
  | 4 => (12288, 64)
  | 5 => (65536, 65536)
  | 6 => (2 ^ 20, 4096)
  | 7 => (65536, 65536)
  | 8 => (32, 64)
  | _ => (64, 16384)

/-- The lowest element of a pool whose bytes no element in use has: none is handed out twice (R329). -/
def Pool.fresh (x : Pool) (size : Nat) : Option Nat :=
  (List.range x.count).find? fun i =>
    let a := x.base.toNat + size * i
    x.used.all fun u => u + size ≤ a || a + size ≤ u

/-- Takes a shadow frame of a process (R231, R350): its address (DEDUCED, unsafe, log entry 35). -/
def State.takeFrame (s : State) (procid : Nat) : Option (Nat × State) :=
  let p := s.process procid
  let pool := p.pools.get 5 {}
  match p.frames.find? fun f => !s.frameBusy f with
  | some f => some (f, s.setPkg { s.pkg with procs := s.pkg.procs.put procid { p with frames := p.frames.erase f } })
  | none => (pool.fresh 65536).map fun i =>
    let a := pool.base.toNat + 65536 * i
    (a, s.setPkg { s.pkg with procs := s.pkg.procs.put procid { p with pools := p.pools.put 5 { pool with used := pool.used ++ [a] } } })

/-- A pool of a process is empty (R350): one record of KIND 7 for each process and pool, until its descriptor is taken
in anew (DEDUCED, unsafe, log entry 33). -/
def State.poolEmpty (s : State) (procid pool core : Nat) : State :=
  let p := s.process procid
  if pool ∈ p.reported then s
  else (s.setPkg { s.pkg with procs := s.pkg.procs.put procid { p with reported := p.reported ++ [pool] } }).report
    { kind := 7, procid, core, info := BitVec.ofNat 64 pool }

/-- The visible granules that the remap table names, or will name once the shadows that there are have been published (R423). -/
def State.remapUsed (s : State) : List Nat :=
  (s.pkg.remap.map (fun (x : Nat × Nat) => x.1 / 16) ++ s.pkg.procs.flatMap fun (p : Nat × Process) =>
    p.2.shadows.flatMap fun (x : Nat × Nat) => (s.granulePages p.1 x.1).map fun (y : Nat × Nat) => y.2 / 65536).eraseDups

/-- Does the remap table lack room for a granule that has no shadow yet (R423)? -/
def State.remapFull (s : State) (procid k : Nat) : Bool :=
  let used := s.remapUsed
  65536 < used.length + (((s.granulePages procid k).map fun y => y.2 / 65536).eraseDups.filter (· ∉ used)).length

/-- Do the current contents of a granule have an uncorrectable error (R240)? -/
def State.granuleBad (s : State) (procid k : Nat) : Bool :=
  (s.granulePages procid k).any fun p => s.pkg.badLines.any fun l => l / 64 = s.frame p.2 / 4096

/-- The physical address, in its shadow, of an address that a shadowed copy writes: a new shadow is filled page by page with what its
granule holds (R231); or the cause of its fault. -/
def State.shadowPlace (s : State) (core procid : Nat) (priv : Bool) (off pa : Nat) : Except (Nat × State) (Nat × State) :=
  if 0x8000000000 ≤ pa ∨ !s.backed pa then .error (2, s)
  else
    let k := priv.toNat * 2 ^ 64 + off / 65536 * 65536
    match (s.process procid).shadows.find k with
    | some f => .ok (f + off % 65536, s)
    | none =>
      if s.remapFull procid k then .error (5, s)
      else if s.granuleBad procid k then .error (6, s)
      else match s.takeFrame procid with
        | none => .error (5, s.poolEmpty procid 5 core)
        | some (f, s) =>
          let p := s.process procid
          let s := s.setPkg { s.pkg with procs := s.pkg.procs.put procid { p with shadows := p.shadows.put k f } }
          .ok (f + off % 65536, (s.granulePages procid k).foldl (fun s x => s.writePa (f + x.1) 4096 (s.readPa (s.frame x.2) 4096)) s)

/-- A granule whose shadow is to be filled, with lines that a host owns: the state with the snoops sent (R231, R257). -/
def State.askGranule (s : State) (x : Copy) (off : Nat) : Option State :=
  let k := (decide (x.dsel = 1)).toNat * 2 ^ 64 + off / 65536 * 65536
  if s.pkg.hostLines.isEmpty || ((s.process x.procid).shadows.find k).isSome then none
  else
    let lines := (s.granulePages x.procid k).flatMap fun p => (List.range 64).map fun i => s.frame p.2 / 64 + i
    let owned := lines.filter s.hostOwns
    if owned.isEmpty then none else some (owned.foldl State.askHost s)

/-- What the next piece of a copy comes to. -/
inductive PieceOut where
  | ok (s : State)
  | wait (s : State)
  | tfault (sel : BitVec 16) (off : Word) (w : Bool)
  | fault (cause : Nat) (s : State)
  deriving DecidableEq, Repr

/-- The next piece of a copy is read and written. -/
def State.copyPiece (s : State) (core : Nat) (x : Copy) : PieceOut :=
  let (a, b, n) := x.piece
  let g : Agent := ⟨core, x.procid, true⟩
  match s.locate g .load x.ssel a n with
  | .error .space => .fault 2 s
  | .error .absent => .tfault x.ssel a false
  | .error (.owned l) => .wait (s.askHost l)
  | .ok src =>
    let dst : Except Refused Place := match spaceOf core x.dsel.toNat with
      | some (.weight d) => .ok (.weight d b.toNat)
      | _ => s.locate g .store x.dsel b n
    match dst with
    | .error .space => .fault 2 s
    | .error .absent => .tfault x.dsel b true
    | .error (.owned l) => .wait (s.askHost l)
    | .ok dst =>
      let shut := match dst with | .weight d _ => !s.gate d | _ => false
      let asked := match dst with | .mem _ => if x.shadow then s.askGranule x b.toNat else none | _ => none
      if shut then .fault 4 s
      else if let some s := asked then .wait s
      else match s.engineRead core x.serial ⟨src, n⟩ with
        | .wait s => .wait s
        | .bad _ => .fault 6 s
        | .ok v s =>
          let dest : Except (Nat × State) (Place × State) := match dst with
            | .mem pa => if x.shadow then (s.shadowPlace core x.procid (x.dsel = 1) b.toNat pa).map fun r => (.mem r.1, r.2) else .ok (dst, s)
            | .signal _ => if x.shadow then .error (2, s) else .ok (dst, s)
            | _ => .ok (dst, s)
          match dest with
          | .error (cause, s) => .fault cause s
          | .ok (p, s) => match s.engineStore core x.serial { owner := x.serial } ⟨p, n⟩ v with
            | .wait s => .wait s
            | .bad _ => .fault 6 s
            | .ok _ s => .ok (s.bump core 8 n)

/-- The watermark after `pos` bytes have been written (R230): the line that holds the next byte (DEDUCED, unsafe, log entry 35). -/
def Copy.watermark (x : Copy) (pos : Nat) : Nat :=
  if x.rowbytes * x.rows ≤ pos then x.hi
  else Nat.max x.lo ((x.lo + pos / x.rowbytes * x.dstride.toNat + pos % x.rowbytes) / 64 * 64)

/-- COPY_LINE_WRITTEN (R229, R230): a running copy writes its next piece, and the watermark moves. -/
def copyLineWritten (core serial : Nat) (s : State) : State :=
  match (s.coreAt core).copies.find? fun x => x.serial = serial && x.running && !x.tfault with
  | none => s
  | some x =>
    if s.coreHalted core then s.push (.copyLineWritten (coreId core) serial)
    else match s.copyPiece core x with
      | .wait s => s.push (.copyLineWritten (coreId core) serial)
      | .tfault sel off w => s.push (.copyTfault (coreId core) serial sel off w)
      | .fault c s => s.push (.copyRunFault (coreId core) serial c)
      | .ok s =>
        let pos := x.pos + x.piece.2.2
        let s := s.setCopy core { x with pos, wm := if x.lo < x.hi then x.watermark pos else x.wm }
        if x.rowbytes * x.rows ≤ pos then s.push (.copyComplete (coreId core) serial)
        else s.push (.copyLineWritten (coreId core) serial)

/-- COPY_TFAULT (R240): the channel waits on a recoverable fault, and a record of KIND 4 reports it. -/
def copyTfault (core serial : Nat) (sel : BitVec 16) (off : Word) (w : Bool) (s : State) : State :=
  match (s.coreAt core).copies.find? fun x => x.serial = serial && x.running with
  | none => s
  | some x =>
    let s := s.setCopy core { x with tfault := true }
    let c := s.coreAt core
    let y := c.chan x.ch
    (s.setCoreAt core { c with chans := c.chans.put x.ch { y with state := 3 } }).report
      { kind := 4, w, procid := x.procid, core, unit := x.ch, info := off, sel }

/-- COPY_RUN_FAULT (R240): a running copy stops, its queued successors are cancelled, and the fault is
reported. -/
def copyRunFault (core serial cause : Nat) (s : State) : State :=
  match (s.coreAt core).copies.find? fun x => x.serial = serial && x.running with
  | none => s
  | some x =>
    let s := (s.withdrawCopies core x.ch 4 cause true).report
      { kind := 5, cause, procid := x.procid, core, unit := x.ch, info := BitVec.ofNat 64 x.tindex }
    (s.wakeChannel core x.ch).tryPublish

/-! ### Meanings -/

/-- `xdef` (R224). -/
def execXdef (e : Ext) (s : State) : Host.Outcome State Fault Refusal := done (copyDefine e s)

/-- `xfer` (R225). -/
def execXfer (e : Ext) (s : State) : Host.Outcome State Fault Refusal := done (copyStartInstr e s)

/-- `xwait` (R234). -/
def execXwait (e : Ext) (s : State) : Host.Outcome State Fault Refusal := done (copyWait e s)

/-- `xstat` (R235). -/
def execXstat (e : Ext) (s : State) : Host.Outcome State Fault Refusal := done (copyStatus e s)

/-- `xcan` (R236). -/
def execXcan (e : Ext) (s : State) : Host.Outcome State Fault Refusal := done (copyCancel e s)

/-- `xpub` (R232). -/
def execXpub (e : Ext) (s : State) : Host.Outcome State Fault Refusal := done (copyPublish e s)

/-- `wsref` (R239). -/
def execWsref (d : BitVec 7) (s : State) : Host.Outcome State Fault Refusal := done (weightRefresh 1 d.toNat s)

/-- `wsref` (R239). -/
def execWsrefX (e : Ext) (s : State) : Host.Outcome State Fault Refusal := done (weightRefresh e.words e.d.toNat s)

/-- COPY_START (R220). -/
def execCopyStart (core : CoreId) (s : State) : Host.Outcome State Fault Refusal := done (copyStart core.toNat s)

/-- COPY_LINE_WRITTEN (R229). -/
def execCopyLineWritten (core : CoreId) (serial : Nat) (s : State) : Host.Outcome State Fault Refusal :=
  done (copyLineWritten core.toNat serial s)

/-- COPY_TFAULT (R240). -/
def execCopyTfault (core : CoreId) (serial : Nat) (sel : BitVec 16) (off : Word) (w : Bool) (s : State) :
    Host.Outcome State Fault Refusal :=
  done (copyTfault core.toNat serial sel off w s)

/-- COPY_RUN_FAULT (R240). -/
def execCopyRunFault (core : CoreId) (serial cause : Nat) (s : State) : Host.Outcome State Fault Refusal :=
  done (copyRunFault core.toNat serial cause s)

end Sys2Proof.Machine
end

