-- ==== Sys2Proof/Machine/Messages.lean ====
section
/-! DEFINITION. The message engine (11_messages R274 to R302): mailbox counters with their interrupts
(R413, R415), send queues, rings and save buffers, `send` and `recv`, and subscriptions. -/

namespace Sys2Proof.Machine

/-! ### Interrupts to the host (R413) -/

/-- Raises vector `v` at the active host: the entry is read by an acquire at system scope, the host that owns its line supplying it at
once, and PEND is written at its home (R413) (DEDUCED, unsafe, log entry 25). -/
def State.raise (s : State) (v : Nat) : State :=
  let p := s.pkg
  if p.ivtcount ≤ v then s.setPkg { p with idrop := p.idrop + 1 }
  else
    let a := (if p.port then p.ivtbase1 else p.ivtbase0).toNat + 16 * v
    let s := s.hostSupply (lineOf a)
    let s := s.setPkg { s.pkg with peerLines := [] }
    let b := s.readPlace (.mem (a + 12)) 1
    if b % 2 = 1 then s.ioWrite (.mem (a + 12)) 1 (b ||| 2)
    else s.setPkg { s.pkg with
      sent := s.pkg.sent ++ [(p.port, BitVec.ofNat 64 (s.readPlace (.mem a) 8), BitVec.ofNat 32 (s.readPlace (.mem (a + 8)) 4))] }

/-! ### Mailbox counters (R274 to R279, R415) -/

/-- Has a counter reached a target (R278)? -/
def reached (count target : BitVec 32) : Bool := (count - target).toNat < 2 ^ 31

/-- The interrupt of a counter that meets its target (R415). -/
def State.checkIrq (s : State) (core m : Nat) : State :=
  let c := s.coreAt core
  let x := c.counters.get m {}
  if x.en && reached x.count x.target then
    (s.setCoreAt core { c with counters := c.counters.put m { x with en := false } }).raise x.vector.toNat
  else s

/-- A counter takes a value by a post or `mset`: WAKE is set, and waiting contexts decide again (R274, R278). -/
def State.setCounter (s : State) (core m : Nat) (v : BitVec 32) : State :=
  let c := s.coreAt core
  let x := c.counters.get m {}
  ((s.setCoreAt core { c with counters := c.counters.put m { x with count := v, wake := true } }).push (.mwaitWake core m)).checkIrq core m

/-- A store is acknowledged to its sender (R108). -/
def State.ackStore (s : State) (core ctx tid id : Nat) : State :=
  let c := s.coreAt core
  (s.setCoreAt core { c with acks := c.acks ++ [{ ctx, tid, id, wts := 0 }] }).push (.storeAck (coreId core) (ctxId ctx))

/-- The offset of a counter in the form of R23. -/
def counterOffset (core m : Nat) : Nat := core / 64 * 2 ^ 14 + coreY core * 2 ^ 11 + coreX core * 2 ^ 8 + 4 * m

/-- POST_ARRIVE (R275, R277): the post is applied or discarded, and acknowledged (DEDUCED, unsafe, log entry 26). -/
def postArrive (p : PostPkt) (s : State) : State :=
  let x := (s.coreAt p.core).counters.get p.index {}
  let s := if x.v && (p.asOwner || x.owner.toNat = p.procid) then s.setCounter p.core p.index (x.count + p.inc)
    else s.report { kind := 8, procid := p.procid, core := p.src % 256, info := BitVec.ofNat 64 (counterOffset p.core p.index) }
  if p.acks then s.ackStore p.src p.ctx p.tid p.id else s

/-- The contexts of a core, in order of number. -/
def ctxRange : List Nat := List.range 16

/-- MWAIT_WAKE (R278): WAKE falls, and the parked waits on the counter are decided again. -/
def mwaitWake (core m : Nat) (s : State) : State :=
  let c := s.coreAt core
  let x := c.counters.get m {}
  let s := s.setCoreAt core { c with counters := c.counters.put m { x with wake := false } }
  ctxRange.foldl (fun s i =>
    let k := ctxKey core i
    match (s.ctxAt k).wait with
    | .counter n t => if n = m ∧ reached x.count t then
        s.within k fun s => ((s.wakeMe.acquireAll core 5 (s.dieTime core)).advance 3)
      else s
    | _ => s) s

/-- A counter of the executing core that is bound to the task's process (R275). -/
def State.ownCounter (s : State) (m : Nat) : Except Stop Counter :=
  let x := (s.coreAt s.curCore).counters.get m {}
  if 64 ≤ m then .error s.illegal
  else if x.v && x.owner = s.task.procid then .ok x else .error (.trap 11 4 0 0)

/-- `mwait` (R278). -/
def counterWait (e : Ext) (s : State) : State :=
  s.instr [e.b.toNat] [] e.syn false fun s => s.notTimed <|
    match s.ownCounter e.a.toNat with
    | .error x => .error x
    | .ok x =>
      let t := (s.g e.b.toNat).truncate 32
      if reached x.count t then .ok ((s.acquireAll s.curCore 5 (s.dieTime s.curCore)).advance e.words)
      else .ok (s.park 7 (.counter e.a.toNat t))

/-- `mrd` (R279) (DEDUCED, unsafe, log entry 42). -/
def counterRead (e : Ext) (s : State) : State :=
  s.instr [] [] e.syn false (wr := [e.d.toNat]) fun s => match s.ownCounter e.a.toNat with
    | .error x => .error x
    | .ok x => .ok ((s.setG e.d.toNat (x.count.zeroExtend 64)).advance e.words)

/-- `mset` (R279). -/
def counterSet (e : Ext) (s : State) : State :=
  s.instr [e.b.toNat] [] e.syn false fun s => s.notTimed <|
    match s.ownCounter e.a.toNat with
    | .error x => .error x
    | .ok _ => .ok ((s.setCounter s.curCore e.a.toNat ((s.g e.b.toNat).truncate 32)).advance e.words)

/-! ### The send queue (R277, R280) -/

/-- A post that leaves the queue is an earlier access of the posts behind it (R277). -/
def QEntry.afterPost (id : Nat) : QEntry → QEntry
  | .post p => .post (if p.release then { p with after := p.after ++ [id] } else p)
  | q => q

/-- The number that a post has, or will have when it leaves the queue. -/
def State.postId (s : State) (p : PostEntry) : Nat := if p.counted then p.after.getLastD 0 else (s.coreAt s.curCore).storeSerial

/-- A positive has left its send queue: the anti-message that waits for it follows it (R317). -/
def State.sendHeldAnti (s : State) (core : Nat) (m : TMsg) : State :=
  let c := s.coreAt core
  match c.antis.find? (·.serial = m.serial) with
  | none => s
  | some a => (s.setCoreAt core { c with antis := c.antis.erase a }).sendPacket 5 core a.core (.antiMsgArrive a)

/-- The entries of the executing context's send queue that may leave are sent, in order; one without a stream to its
destination waits, and those behind it (R280). -/
def State.pumpSend (s : State) : (fuel : Nat) → State
  | 0 => s
  | n + 1 =>
    let go := fun (net dest : Nat) => !s.mute s.curCore && ((s.coreAt s.curCore).mayEmit net dest).isSome
    match s.task.sendq with
    | [] => s
    | .post p :: rest =>
      let t := if p.release then s.flushUpdates s.task.tid else s
      if t.postReady p && go 2 p.core then
        ((t.setTask { t.task with sendq := rest.map (.afterPost (t.postId p)) }).sendPost p).pumpSend n
      else t
    | .timed m :: rest =>
      if go 5 m.core then (((s.setTask { s.task with sendq := rest }).sendPacket 5 s.curCore m.core (.tmsgArrive m)).sendHeldAnti s.curCore m).pumpSend n
      else s
    | .packets d k e :: rest =>
      if !go 2 d then s
      else if k ≤ 1 then ((s.setTask { s.task with sendq := rest }).sendPacket 2 s.curCore d e).pumpSend n
      else ((s.setTask { s.task with sendq := .packets d (k - 1) e :: rest }).sendPacket 2 s.curCore d e true).pumpSend n

/-- An entry enters the executing context's send queue, from which the engine takes what may leave (R280). -/
def State.enqueue (s : State) (q : QEntry) : State := (s.setTask { s.task with sendq := s.task.sendq ++ [q] }).pumpSend 40

/-- `post` (R277). -/
def postCounter (e : Ext) (s : State) : State :=
  s.instr [e.a.toNat, e.b.toNat] [] e.syn false fun s => s.notTimed <|
    let off := (s.g e.a.toNat).toNat
    if 0x10000 ≤ off ∨ off % 4 ≠ 0 then .error (.trap 4 0 0x3000 (s.g e.a.toNat))
    else if 8 ≤ s.task.sendq.length then .error (.retry 6 .sendRoom)
    else
      let p : PostEntry := { core := (counterOf off).1, index := (counterOf off).2, inc := (s.g e.b.toNat).truncate 32
                             release := true, after := s.ownUnacked, counted := false }
      .ok ((s.enqueue (.post p)).advance e.words)

/-! ### Rings and save buffers (R282 to R287) -/

/-- RSZ of a partition (R282). -/
def Part.ringSize : Part → Nat
  | .p16 => 512 | .p8 => 1024 | .p4 => 2048

/-- Image offset of the save buffer (R282). -/
def Part.saveOffset : Part → Nat
  | .p16 => 0xC00 | .p8 => 0x1600 | .p4 => 0x2A00

/-- Size of a record with `n` payload bytes (R283). -/
def recordSize (n : Nat) : Nat := 16 + 16 * ((n + 15) / 16)

/-- Where a record of `size` bytes goes (R284): the bytes of a pad before it, if it fits. -/
def ringRoom (head tail rsz size : Nat) : Option Nat :=
  let used := (tail + 2 ^ 32 - head) % 2 ^ 32
  let toEnd := rsz - tail % rsz
  if size ≤ toEnd then (if used + size ≤ rsz then some 0 else none)
  else if used + toEnd + size ≤ rsz then some toEnd else none

/-- The ring with a record placed at its tail; none when it does not fit. -/
def Ring.place (r : Ring) (rsz : Nat) (m : MsgRec) : Option Ring :=
  (ringRoom r.head r.tail rsz m.size).map fun pad =>
    { r with
      tail := (r.tail + pad + m.size) % 2 ^ 32
      recs := r.recs ++ (if pad = 0 then [m] else [{ pad := true, size := pad, len := 0 }, m]) }

/-- Frees the pads at the head. -/
def Ring.dropPads (r : Ring) : Ring :=
  match r.recs with
  | m :: rest => if m.pad then { r with head := (r.head + m.size) % 2 ^ 32, recs := rest } else r
  | [] => r

/-- The bytes of a record that lie in a ring or save buffer (Table 3 of R283). -/
def MsgRec.bytes (m : MsgRec) : Nat :=
  m.len + 2 ^ 16 * (if m.pad then 2 else 1) + 2 ^ 32 * m.size + 2 ^ 64 * m.sender.toNat +
    2 ^ 128 * m.data.foldr (fun b r => b.toNat + 256 * r) 0

/-- What placing a record at a tail writes: each record, a pad before it where it wraps, with its position (R284). -/
def placed (tail rsz pad : Nat) (m : MsgRec) : List (Nat × MsgRec) :=
  if pad = 0 then [(tail % rsz, m)] else [(tail % rsz, { pad := true, size := pad, len := 0 }), (0, m)]

/-- A ring lies in the message area of its core (R282, R283): what placing a record writes there. -/
def State.writeRing (s : State) (core ctx tail rsz pad : Nat) (m : MsgRec) : State :=
  (placed tail rsz pad m).foldl (fun s x => s.writeScratch core (ctx * rsz + x.1) x.2.size x.2.bytes 0) s

/-- A save buffer lies in the image (R282): what placing a record writes there. -/
def State.writeSave (s : State) (core procid : Nat) (image : Word) (part : Part) (tail pad : Nat) (m : MsgRec) : State :=
  (placed tail part.ringSize pad m).foldl (fun s x =>
    (s.engineWrite core procid (image + BitVec.ofNat 64 (part.saveOffset + x.1)) x.2.size x.2.bytes).getD s) s

/-- Frees the oldest record. -/
def Ring.take (r : Ring) : Ring :=
  match r.recs with
  | m :: rest => { r with head := (r.head + m.size) % 2 ^ 32, recs := rest }
  | [] => r

/-- The engine line of the image (Tables 4 of R285 and 3 of 12_timed R307) at offset 0x180. -/
def Task.engineLine (t : Task) : Nat :=
  let tlp := match t.tlp with
    | some (c, k) => c + 256 * k + 1024 + (if t.inEvent then 2048 else 0)
    | none => 0
  t.saveBuf.head + 2 ^ 32 * t.saveBuf.tail +
    2 ^ 64 * (t.msgOpen.toNat + 2 ^ 8 * t.rcore + 2 ^ 16 * t.rctx) +
    2 ^ 256 * tlp + 2 ^ 320 * t.evaddr.toNat

/-- The engines keep the image's engine line current in memory (R81). -/
def State.storeLine (s : State) (core : Nat) (t : Task) : State :=
  (s.engineWrite core t.procid.toNat (t.image + 0x180) 64 t.engineLine).getD s

/-- The image that an endpoint word names (R281). -/
def endpointImage (w : Word) : Word := w &&& 0x0000FFFFFFFFF000#64

/-- The own endpoint word of the executing context (R281). -/
def State.endpoint (s : State) : Word := endpointImage s.task.image ||| BitVec.ofNat 64 (s.curCtx * 256 + s.curCore)

/-- The packets that a message takes: its record has 64 bytes in each (R16) (DEDUCED, safe, log entry 46). -/
def messagePackets (len : Nat) : Nat := (recordSize len + 63) / 64

/-- A message packet's record. -/
def messageRecord (p : MsgPkt) : MsgRec := { size := recordSize p.len, len := p.len, sender := p.sender, data := p.data }

/-- The reply to an offered message. -/
def State.replySend (s : State) (p : MsgPkt) (code : Nat) : State :=
  s.push (.sendReply (coreId p.src) (ctxId p.srcCtx) p.tid code)

/-- A record is delivered into a task's receive wait: the context decides again (R289). -/
def State.wakeReceiver (s : State) (k : Nat) : State :=
  match (s.ctxAt k).wait with
  | .message => s.within k State.wakeMe
  | _ => s

/-- The record is appended to the save buffer of a task, in memory (R286); none when it does not fit (DESIGN CHOICE, unsafe, log entry 18). -/
def State.appendSave (s : State) (core : Nat) (t : Task) (m : MsgRec) : Option State :=
  (t.saveBuf.place t.part.ringSize m).map fun r =>
    let pad := (ringRoom t.saveBuf.head t.saveBuf.tail t.part.ringSize m.size).getD 0
    let s := s.mapTask t.tid fun x => { x with saveBuf := r }
    (s.writeSave core t.procid.toNat t.image t.part t.saveBuf.tail pad m).storeLine core { t with saveBuf := r }

/-- The lines of words of an image come from the hosts at once, and the tables that a walk to them reads (DEDUCED, unsafe, log entry 11). -/
def State.hostsSupply (s : State) (core procid : Nat) (image : Word) (offs : List Nat) : State :=
  offs.foldl (fun s o =>
    let s := s.supplyWalk core procid 1 (image + BitVec.ofNat 64 o)
    match s.locate ⟨core, procid, true⟩ .load 1 (image + BitVec.ofNat 64 o) 8 with
    | .ok (.mem pa) => s.hostSupply (lineOf pa)
    | _ => s) s

/-- A record for an image that no task has: what its pages hold decides (R287, R286). -/
def State.deliverMemory (s : State) (p : MsgPkt) (image : Word) : State :=
  let g : Agent := ⟨p.core, p.procid, true⟩
  match s.locate g .load 1 (image + 0x188) 8 with
  | .error (.owned l) => (s.askHost l).pushFront (.msgDeliver p)
  | .error _ => s.replySend p 3
  | .ok pl =>
    let s := (s.hostsSupply p.core p.procid image [0x10, 0x180])
    let stat := s.readPlace pl 8
    if stat % 2 = 0 then
      s.sendPackets 2 p.core (stat / 2 ^ 8 % 2 ^ 8) (.msgDeliver { p with core := stat / 2 ^ 8 % 2 ^ 8, ctx := stat / 2 ^ 16 % 2 ^ 4 })
        (messagePackets p.len)
    else
      let word := fun (o : Nat) => match s.locate g .load 1 (image + BitVec.ofNat 64 o) 8 with
        | .ok pl => s.readPlace pl 8
        | .error _ => 0
      let save := word 0x180
      let part := Part.ofCode (word 0x10 / 2 ^ 9 % 4)
      let m := (messageRecord p)
      match ringRoom (save % 2 ^ 32) (save / 2 ^ 32) part.ringSize m.size with
      | none => s.replySend p 1
      | some pad =>
        let tail := (save / 2 ^ 32 + pad) % 2 ^ 32
        let s := s.writeSave p.core p.procid image part (save / 2 ^ 32) pad m
        let s := (s.engineWrite p.core p.procid (image + 0x184) 4 ((tail + m.size) % 2 ^ 32)).getD s
        s.replySend p 0

/-- MSG_DELIVER (R286): a record is placed in the ring or the save buffer, forwarded, or refused. -/
def msgDeliver (p : MsgPkt) (s : State) : State :=
  let image := endpointImage p.word
  let k := ctxKey p.core p.ctx
  let x := s.ctxAt k
  let m := (messageRecord p)
  let mine := fun (t : Task) => t.image = image && t.procid.toNat = p.procid
  if x.state ≠ .free ∧ mine x.task then
    let t := x.task
    if t.saveBuf.recs.any (!·.pad) then
      match s.appendSave p.core t m with
      | some s => (s.wakeReceiver k).replySend p 0
      | none => s.replySend p 1
    else match t.ring.place t.part.ringSize m with
      | some r =>
        let s := s.writeRing p.core p.ctx t.ring.tail t.part.ringSize ((ringRoom t.ring.head t.ring.tail t.part.ringSize m.size).getD 0) m
        ((s.setTaskAt k { t with ring := r }).wakeReceiver k).replySend p 0
      | none => s.replySend p 1
  else match s.tasks.find? mine with
    | none => s.deliverMemory p image
    | some t => match s.locate ⟨p.core, p.procid, true⟩ .load 1 (image + 0x188) 8 with
      | .error (.owned l) => (s.askHost l).pushFront (.msgDeliver p)
      | .error _ => s.replySend p 3
      | .ok _ =>
        if !t.msgOpen then s.sendPackets 2 p.core t.rcore (.msgDeliver { p with core := t.rcore, ctx := t.rctx }) (messagePackets p.len)
        else match s.appendSave p.core t m with
          | some s => s.replySend p 0
          | none => s.replySend p 1

/-- Refused messages for a task are offered again when its ring or save buffer frees space (R288). -/
def State.reoffer (s : State) (t : Task) : State :=
  s.ctxs.foldl (fun s x => match x.2.wait, x.2.task.sendOut with
    | .sendReply _, some (w, _) =>
      if x.2.task.sendRefused ∧ endpointImage w = t.image ∧ x.2.task.procid = t.procid then
        s.push (.sendReoffer (coreId (x.1 / 16)) (ctxId (x.1 % 16)) x.2.task.tid)
      else s
    | _, _ => s) s

/-- Installation of a task in the executing context (R287). -/
def State.installRing (s : State) : State :=
  let t := { s.task with ring := {}, msgOpen := false, rcore := s.curCore, rctx := s.curCtx }
  (s.setTask t).storeLine s.curCore t

/-- The executing task leaves its context (R287): the ring's records, if it has any, go to the start of the save buffer, which is
then empty, without pads (DESIGN CHOICE, unsafe, log entry 18). -/
def State.leaveRing (s : State) : State :=
  let t := s.task
  let recs := t.ring.recs.filter (!·.pad)
  let (saved, s) := if recs.isEmpty then (t.saveBuf, s)
    else recs.foldl (fun (a : Ring × State) m =>
      ({ a.1 with tail := a.1.tail + m.size, recs := a.1.recs ++ [m] },
        a.2.writeSave s.curCore t.procid.toNat t.image t.part a.1.tail 0 m)) ({}, s)
  let t := { t with saveBuf := saved, ring := {}, msgOpen := true }
  (((s.setTask t).storeLine s.curCore t)).reoffer t

/-! ### `send` and `recv` (R288, R289) -/

/-- The message that the executing context offers enters its send queue (R280). -/
def State.offer (s : State) (w : Word) (m : MsgRec) : State :=
  s.enqueue (.packets (w.toNat % 256) (messagePackets m.len) (.msgDeliver
    { core := w.toNat % 256, ctx := w.toNat / 256 % 16, word := w, len := m.len, sender := m.sender, data := m.data
      procid := s.task.procid.toNat, src := s.curCore, srcCtx := s.curCtx, tid := s.task.tid }))

/-- The low `n` bytes of a number. -/
def bytesOf (v n : Nat) : List Byte := (List.range n).map fun i => BitVec.ofNat 8 (v / 256 ^ i)

/-- `send` (R288). -/
def sendMessage (e : Ext) (s : State) : State :=
  s.instr [e.a.toNat, e.b.toNat, e.c.toNat] [] e.syn false fun s => s.notTimed <|
    let w := s.g e.a.toNat
    let base := s.g e.b.toNat
    let n := (s.g e.c.toNat).toNat
    let sel := s.task.space e.sp.toNat
    if w >>> 48 ≠ 0 then .error (.trap 11 1 0 0)
    else if 240 < n then .error (.trap 11 2 0 0)
    else match s.checkRange .load sel base n with
      | .error x => .error x
      | .ok es =>
        if 8 ≤ s.task.sendq.length then .error (.retry 6 .sendRoom)
        else if !s.drained then .error (.retry 6 .drained)
        else match s.guardOf es with
          | some g => .error (.retry 1 g)
          | none => match s.engineReads s.curCore 0 es with
            | .wait s => s.again 6 .engineRead
            | .bad i => .error (.trap 6 0 sel ((pieces base n).getD i (base, 0)).1)
            | .ok vs s =>
              let m : MsgRec := { size := recordSize n, len := n, sender := s.endpoint, data := bytesOf (joinPieces (es.zip vs)) n }
              let s := s.setTask { s.task with sendOut := some (w, m), sendRefused := false }
              .ok ((s.park 6 (.sendReply e.words)).offer w m)

/-- Does a refused message fit now, where it is addressed? The space was then freed after the refusal (R288). -/
def State.messageFits (s : State) (procid : Nat) (w : Word) (m : MsgRec) : Bool :=
  let image := endpointImage w
  let fits := fun (head tail rsz : Nat) => (ringRoom head tail rsz m.size).isSome
  match s.tasks.find? fun t => t.image = image && t.procid.toNat = procid with
  | some t =>
    let r := if t.msgOpen || t.saveBuf.recs.any (!·.pad) then t.saveBuf else t.ring
    fits r.head r.tail t.part.ringSize
  | none =>
    let word := fun (o : Nat) => (s.locate ⟨s.curCore, procid, true⟩ .load 1 (image + BitVec.ofNat 64 o) 8).toOption.map fun p => s.readPlace p 8
    match word 0x180, word 0x188, word 0x10 with
    | some save, some stat, some part => stat % 2 = 0 || fits (save % 2 ^ 32) (save / 2 ^ 32) (Part.ofCode (part / 2 ^ 9 % 4)).ringSize
    | _, _, _ => true

/-- SEND_REPLY (R288): accepted (0), refused for space (1), refused with cause 3. A message refused for space is offered again
when space frees, or has been freed since. -/
def sendReply (tid code : Nat) (s : State) : State :=
  match s.me.wait, s.task.sendOut with
  | .sendReply words, some (w, m) =>
    if s.task.tid ≠ tid then s
    else
      let clear := fun (s : State) => s.setTask { s.task with sendOut := none, sendRefused := false }
      if code = 0 then (clear s).wakeMe.advance words
      else if code = 3 then (clear s).late (.trap 11 3 0 0)
      else if endpointImage w = endpointImage s.task.image then (clear s).late (.trap 11 9 0 0)
      else
        let s := s.setTask { s.task with sendRefused := true }
        if s.messageFits s.task.procid.toNat w m then s.push (.sendReoffer (coreId s.curCore) (ctxId s.curCtx) tid) else s
  | _, _ => s

/-- SEND_REOFFER (R288). -/
def sendReoffer (tid : Nat) (s : State) : State :=
  match s.me.wait, s.task.sendOut with
  | .sendReply _, some (w, m) =>
    if s.task.tid = tid ∧ s.task.sendRefused then (s.setTask { s.task with sendRefused := false }).offer w m else s
  | _, _ => s

/-- The oldest message of the task, and the task without it (R289). -/
def Task.received (t : Task) : Option (MsgRec × Task) :=
  if t.saveBuf.recs.any (!·.pad) then
    let r := t.saveBuf.dropPads
    r.recs.head?.map fun m => (m, { t with saveBuf := r.take })
  else
    let r := t.ring.dropPads
    match r.recs with
    | m :: _ => some (m, { t with ring := r.take })
    | [] => none

/-- Frees the pads before the oldest message (R289). -/
def State.freePads (s : State) : State :=
  let t := s.task
  let u := if t.saveBuf.recs.any (!·.pad) then { t with saveBuf := t.saveBuf.dropPads } else { t with ring := t.ring.dropPads }
  if (t.saveBuf.recs.head?.any (·.pad)) || (t.ring.recs.head?.any (·.pad)) then ((s.setTask u).storeLine s.curCore u).reoffer u else s

/-- The record of the message that `recv` has stored is freed, and D takes its length (R289). -/
def State.finishRecv (s : State) (d len : Nat) : State :=
  match s.task.received with
  | none => s
  | some (_, t) =>
    let s := s.setTask { s.task with saveBuf := t.saveBuf, ring := t.ring }
    let s := s.storeLine s.curCore s.task
    ((s.reoffer s.task).acquireAll s.curCore 4 (s.dieTime s.curCore)).setG d (BitVec.ofNat 64 len)

/-- `recv` (R289); where the buffer lies in another core's scratchpad, the record stays until it has been stored there. -/
def receiveMessage (e : Ext) (s : State) : State :=
  s.instr [e.a.toNat, e.b.toNat] [] e.syn false (wr := [e.d.toNat]) fun s => s.notTimed <|
    let base := s.g e.a.toNat
    let cap := (s.g e.b.toNat).toNat
    let sel := s.task.space e.sp.toNat
    if cap = 0 then .ok ((s.setG e.d.toNat s.endpoint).advance e.words)
    else match s.task.received with
      | none => .error (.retry 7 .message)
      | some (m, _) =>
        if cap < m.size then .ok ((s.freePads.setG e.d.toNat (BitVec.ofNat 64 (2 ^ 63 + m.size))).advance e.words)
        else if base.toNat % 16 ≠ 0 then .error (.trap 3 0 sel base)
        else match s.checkRange .store sel base m.size with
          | .error x => .error x
          | .ok es =>
            let vals := (es.foldl (fun (a : List (Acc × Nat) × Nat) x => (a.1 ++ [(x, a.2 % 256 ^ x.size)], a.2 / 256 ^ x.size)) ([], m.bytes)).1
            let arg : MemArg := { sp := e.sp.toNat, ea := base, words := e.words, acq := false, rel := false, scope := 0, hint := 0 }
            let far := es.any fun a => match a.place with | .scratch c _ => c ≠ s.curCore | _ => false
            match s.storeElems vals arg (k := .recv e.d.toNat m.len) with
            | .error x => .error x
            | .ok s => .ok (if far then s else s.finishRecv e.d.toNat m.len)

/-! ### Subscriptions (R292 to R299) -/

/-- `sub` (R293). -/
def subscribe (e : Ext) (s : State) : State :=
  s.instr [e.a.toNat, e.b.toNat, e.c.toNat] [] e.syn false (wr := [e.d.toNat]) fun s => s.notTimed <|
    let core := s.curCore
    let sel := s.task.space e.sp.toNat
    let a := (s.g e.a.toNat).toNat
    let d := (s.g e.b.toNat).toNat
    let n := (s.g e.c.toNat).toNat
    let procid := s.task.procid.toNat
    let own := match spaceOf core sel.toNat with | some (.scratch c) => c = core | _ => false
    let size := match s.alloc core procid with | some al => al.size | none => 0
    if !own || a % 64 ≠ 0 || n % 64 ≠ 0 || n < 64 || 65536 < n || size < a + n then .error (.trap 11 5 0 0)
    else if d / 256 % 2 ^ 24 ≠ 0 || d % 256 = core || d / 2 ^ 32 % 64 ≠ 0 then .error (.trap 11 7 0 0)
    else
      let c := s.coreAt core
      match c.subscribers.firstFree 0 16 with
      | none => .ok ((s.setG e.d.toNat 0).advance e.words)
      | some i =>
        let u : Subscriber := { state := 0, procid, loff := a, len := n, score := d % 256, sent := 16 }
        let s := s.setCoreAt core { c with subscribers := c.subscribers.put i u }
        .ok ((s.park 1 (.subReply e.d.toNat e.words)).push (.subRequestArrive
          { core, entry := i, procid, len := n, source := d % 256, soff := d / 2 ^ 32, ctx := s.curCtx, tid := s.task.tid }))

/-- The source entry that a request joins or takes (R293). -/
def Core.sourceFor (c : Core) (p : SubReq) : Option Nat :=
  match c.sources.find? fun x => x.2.procid = p.procid && x.2.soff = p.soff && x.2.len = p.len with
  | some x => if x.2.subs.length < 8 then some x.1 else none
  | none => c.sources.firstFree 0 16

/-- A subscriber entry replaced. -/
def State.setSubscriber (s : State) (core i : Nat) (u : Subscriber) : State :=
  let c := s.coreAt core
  s.setCoreAt core { c with subscribers := c.subscribers.put i u }

/-- A subscriber entry freed. -/
def State.dropSubscriber (s : State) (core i : Nat) : State :=
  let c := s.coreAt core
  s.setCoreAt core { c with subscribers := c.subscribers.drop i }

/-- One line of a source region is sent to a subscriber entry. -/
def State.sendRegionLine (s : State) (source core entry base off : Nat) : State :=
  match (s.coreAt core).subscribers.find entry with
  | none => s
  | some u => (s.setSubscriber core entry { u with onWay := u.onWay + 1 }).sendPacket 3 source core
      (.subUpdateApply core entry off (BitVec.ofNat 512 (s.readScratch source (base + off) 64)) (BitVec.allOnes 64) [])

/-- A subscriber entry that its allocation's release has removed, and that is free once no update is on its way to it
(R297, R299). -/
def Subscriber.removed (u : Subscriber) : Bool := u.procid = 1024

/-- A subscriber entry is removed with its allocation (R299): it is freed at once, or when the updates sent to it and its
pending request have come to an end, which change nothing. -/
def State.removeSubscriber (s : State) (core i : Nat) (u : Subscriber) : State :=
  if u.onWay = 0 ∧ u.sent ≠ 16 then s.dropSubscriber core i
  else s.setSubscriber core i { u with state := 2, procid := 1024 }

/-- SUB_REQUEST_ARRIVE (R293): the region is activated, and copied as an update of every line. -/
def subRequestArrive (p : SubReq) (s : State) : State :=
  match s.alloc p.source p.procid with
  | none => s.push (.subReply p 2)
  | some al =>
    if al.size < p.soff + p.len then s.push (.subReply p 2)
    else
      let c := s.coreAt p.source
      match c.sourceFor p, (s.coreAt p.core).subscribers.find p.entry with
      | some k, some u =>
        if u.removed then (s.dropSubscriber p.core p.entry).push (.subReply p 0) else
        let old := c.sources.get k { procid := p.procid, soff := p.soff, len := p.len, subs := [] }
        let s := (s.setCoreAt p.source { c with sources := c.sources.put k { old with subs := old.subs ++ [(p.core, p.entry)] } }).setSubscriber
          p.core p.entry { u with sent := k, copyLeft := p.len / 64 }
        ((List.range (p.len / 64)).foldl (fun s i => s.sendRegionLine p.source p.core p.entry (al.base + p.soff) (64 * i)) s).push
          (.subReply p 0)
      | _, _ => s.push (.subReply p 1)

/-- SUB_REPLY (R293): a refusal, or the handle once the copy has been applied. -/
def subReply (p : SubReq) (code : Nat) (s : State) : State :=
  let k := ctxKey p.core p.ctx
  let finish := fun (s : State) (d words : Nat) (v : Word) => s.within k fun s => (s.wakeMe.setG d v).advance words
  match (s.ctxAt k).wait, (s.coreAt p.core).subscribers.find p.entry with
  | .subReply d words, none => if (s.ctxAt k).task.tid ≠ p.tid then s else finish s d words (BitVec.ofNat 64 (p.entry + 1))
  | .subReply d words, some u =>
    if (s.ctxAt k).task.tid ≠ p.tid then s
    else
      let finish := fun (s : State) (v : Word) => finish s d words v
      if code = 2 then finish (s.dropSubscriber p.core p.entry) (0 - 2)
      else if code = 1 then finish (s.dropSubscriber p.core p.entry) (0 - 1)
      else if 0 < u.copyLeft then s.push (.subReply p code)
      else finish s (BitVec.ofNat 64 (p.entry + 1))
  | _, _ => s

/-- A group's subscriptions are parked: the backing image of the allocation on a core. -/
def State.backingOf (s : State) (core procid : Nat) : Option Word :=
  (s.pkg.groups.find (procid * 64 + clusterOf core)).bind fun g => g.backing.find (positionOf core)

/-- The masked bytes of an update are written, byte by byte. -/
def State.writeMasked (s : State) (data : BitVec 512) (mask : BitVec 64) (w : State → Nat → Nat → State) : State :=
  (List.range 64).foldl (fun s i => if mask.getLsbD i then w s i (getBytes data i 1) else s) s

/-- SUB_UPDATE_APPLY (R294, R298): the update is written at the subscriber, or into the backing image of a
swapped-out allocation; it waits at a copy guard. A byte whose page of the backing image is not mapped for writing is not written
(DESIGN CHOICE, unsafe, log entry 47). -/
def subUpdateApply (core entry off : Nat) (data : BitVec 512) (mask : BitVec 64) (writers : List Nat) (s : State) : State :=
  match (s.coreAt core).subscribers.find entry with
  | none => writers.foldl (fun s w => s.mapTask w fun t => { t with subUnacked := t.subUnacked - 1 }) s
  | some u =>
    let here := (s.alloc core u.procid).map fun a => a.base + u.loff + off
    let blocked := match here with | some b => u.state = 0 && (s.coreAt core).guarded b 64 | none => false
    if blocked then s.pushFront (.subUpdateApply core entry off data mask writers)
    else
      let s := match u.state, here, s.backingOf core u.procid with
        | 0, some b, _ => s.writeMasked data mask fun s i v => s.writeScratch core (b + i) 1 v 0
        | 1, _, some im => s.writeMasked data mask fun s i v =>
            (s.engineWrite core u.procid (im + BitVec.ofNat 64 (u.loff + off + i)) 1 v).getD s
        | _, _, _ => s
      let s := writers.foldl (fun s w => s.mapTask w fun t => { t with subUnacked := t.subUnacked - 1 }) s
      let s := s.setSubscriber core entry { u with onWay := u.onWay - 1, copyLeft := u.copyLeft - 1 }
      if u.onWay ≤ 1 then
        let s := if u.removed then s.dropSubscriber core entry else s
        ctxRange.foldl (fun s i => match (s.ctxAt (ctxKey core i)).wait with
          | .unsub n words => if n = entry then
              (s.dropSubscriber core entry).within (ctxKey core i) fun s => s.wakeMe.advance words
            else s
          | _ => s) s
      else s

/-- SUB_LINE_TIMEOUT (R294): the line leaves, after those that entered before it. -/
def subLineTimeout (core entry off : Nat) (s : State) : State :=
  let c := s.coreAt core
  match c.sources.find entry with
  | none => s
  | some e =>
    match e.buf.findIdx? (·.off = off) with
    | none => s
    | some i => (e.buf.take (i + 1)).foldl (fun s l => s.sendLine core e l)
        (s.setCoreAt core { c with sources := c.sources.put entry { e with buf := e.buf.drop (i + 1) } })

/-- A subscriber is removed from its source entry, which is freed when empty (R297). -/
def State.leaveSource (s : State) (core entry : Nat) (u : Subscriber) : State :=
  let c := s.coreAt u.score
  match c.sources.find u.sent with
  | none => s
  | some e =>
    let subs := e.subs.filter (· ≠ (core, entry))
    s.setCoreAt u.score { c with sources := if subs.isEmpty then c.sources.drop u.sent else c.sources.put u.sent { e with subs } }

/-- `unsub` (R297). -/
def unsubscribe (e : Ext) (s : State) : State :=
  s.instr [e.a.toNat] [] e.syn false fun s => s.notTimed <|
    let h := (s.g e.a.toNat).toNat
    match if h = 0 ∨ 16 < h then none else (s.coreAt s.curCore).subscribers.find (h - 1) with
    | none => .error (.trap 11 6 0 0)
    | some u =>
      if u.procid ≠ s.task.procid.toNat then .error (.trap 11 6 0 0)
      else
        let s := s.leaveSource s.curCore (h - 1) u
        if u.onWay = 0 then .ok ((s.dropSubscriber s.curCore (h - 1)).advance e.words)
        else .ok (s.park 1 (.unsub (h - 1) e.words))

/-- `subflush` (R296). -/
def subFlush (e : Ext) (s : State) : State :=
  s.instr [] [] [] false fun s => s.notTimed <|
    if s.task.subUnacked = 0 && !s.buffered s.task.tid then .ok (s.advance e.words)
    else .error (.retry 1 .subsApplied)

/-- The subscriptions of an allocation end with it (R299): its subscriber entries are removed, and the
subscribers of its source regions become ENDED at once: updates still on their way, and lines that leave the buffer now, change nothing
(DESIGN CHOICE, unsafe, log entry 47). -/
def State.endSubs (s : State) (core procid : Nat) : State :=
  let s := (s.coreAt core).subscribers.foldl (fun s x =>
    if x.2.procid = procid then (s.leaveSource core x.1 x.2).removeSubscriber core x.1 x.2 else s) s
  (s.coreAt core).sources.foldl (fun s x =>
    if x.2.procid = procid then
      let s := x.2.buf.foldl (fun s l => s.sendLine core x.2 l) s
      let s := x.2.subs.foldl (fun s b => match (s.coreAt b.1).subscribers.find b.2 with
        | some u => s.setSubscriber b.1 b.2 { u with state := 2 }
        | none => s) s
      s.setCoreAt core { s.coreAt core with sources := (s.coreAt core).sources.drop x.1 }
    else s) s

/-! ### Writes of counter registers (R410, R414, R415) -/

/-- CBIND_WRITE (R410): COUNT and CIRQ become 0, and the counter is bound or unbound. -/
def cbindWrite (core m : Nat) (v : Word) (s : State) : State :=
  let c := s.coreAt core
  s.setCoreAt core { c with counters := c.counters.put m { owner := v.truncate 10, v := v.getLsbD 10 } }

/-- CIRQ_WRITE (R415): a store that finds its condition met raises at once. -/
def cirqWrite (core m : Nat) (v : Word) (s : State) : State :=
  let c := s.coreAt core
  let x := c.counters.get m {}
  let x := { x with target := v.truncate 32, vector := (v >>> 32).truncate 11, en := v.getLsbD 48 }
  (s.setCoreAt core { c with counters := c.counters.put m x }).checkIrq core m

/-- COUNTER_PAGE_STORE (R414): a 32-bit store posts as the process to which the counter is bound. -/
def counterPageStore (core m value : Nat) (ack : Option (Nat × Nat × Nat × Nat)) (s : State) : State :=
  let x := (s.coreAt core).counters.get m {}
  let (src, ctx, tid, id) := ack.getD (0, 0, 0, 0)
  s.push (.postArrive { core, index := m, inc := BitVec.ofNat 32 value, procid := x.owner.toNat, asOwner := true
                        src, ctx, tid, acks := ack.isSome, id })

/-! ### Meanings -/

/-- `post` (R277). -/
def execPost (e : Ext) (s : State) : Host.Outcome State Fault Refusal := done (postCounter e s)

/-- `mwait` (R278). -/
def execMwait (e : Ext) (s : State) : Host.Outcome State Fault Refusal := done (counterWait e s)

/-- `mrd` (R279). -/
def execMrd (e : Ext) (s : State) : Host.Outcome State Fault Refusal := done (counterRead e s)

/-- `mset` (R279). -/
def execMset (e : Ext) (s : State) : Host.Outcome State Fault Refusal := done (counterSet e s)

/-- `send` (R288). -/
def execSend (e : Ext) (s : State) : Host.Outcome State Fault Refusal := done (sendMessage e s)

/-- `recv` (R289). -/
def execRecv (e : Ext) (s : State) : Host.Outcome State Fault Refusal := done (receiveMessage e s)

/-- `sub` of a subscription (R293). -/
def execSubscribe (e : Ext) (s : State) : Host.Outcome State Fault Refusal := done (subscribe e s)

/-- `unsub` (R297). -/
def execUnsub (e : Ext) (s : State) : Host.Outcome State Fault Refusal := done (unsubscribe e s)

/-- `subflush` (R296). -/
def execSubflush (e : Ext) (s : State) : Host.Outcome State Fault Refusal := done (subFlush e s)

/-- POST_ARRIVE (R277). -/
def execPostArrive (p : PostPkt) (s : State) : Host.Outcome State Fault Refusal := done (postArrive p s)

/-- MWAIT_WAKE (R278). -/
def execMwaitWake (core m : Nat) (s : State) : Host.Outcome State Fault Refusal := done (mwaitWake core m s)

/-- MSG_DELIVER (R286). -/
def execMsgDeliver (p : MsgPkt) (s : State) : Host.Outcome State Fault Refusal := done (msgDeliver p s)

/-- SEND_REPLY (R288). -/
def execSendReply (core : CoreId) (ctx : CtxId) (tid code : Nat) (s : State) : Host.Outcome State Fault Refusal :=
  done (s.within (ctxKey core.toNat ctx.toNat) (sendReply tid code))

/-- SEND_REOFFER (R288). -/
def execSendReoffer (core : CoreId) (ctx : CtxId) (tid : Nat) (s : State) : Host.Outcome State Fault Refusal :=
  done (s.within (ctxKey core.toNat ctx.toNat) (sendReoffer tid))

/-- SUB_REQUEST_ARRIVE (R293). -/
def execSubRequestArrive (p : SubReq) (s : State) : Host.Outcome State Fault Refusal := done (subRequestArrive p s)

/-- SUB_REPLY (R293). -/
def execSubReply (p : SubReq) (code : Nat) (s : State) : Host.Outcome State Fault Refusal := done (subReply p code s)

/-- SUB_UPDATE_APPLY (R294). -/
def execSubUpdateApply (core entry off : Nat) (data : BitVec 512) (mask : BitVec 64) (writers : List Nat) (s : State) :
    Host.Outcome State Fault Refusal :=
  done (subUpdateApply core entry off data mask writers s)

/-- SUB_LINE_TIMEOUT (R294). -/
def execSubLineTimeout (core entry off : Nat) (s : State) : Host.Outcome State Fault Refusal :=
  done (subLineTimeout core entry off s)

/-- CBIND_WRITE (R410). -/
def execCbindWrite (core m : Nat) (value : Stored Word) (s : State) : Host.Outcome State Fault Refusal :=
  done (s.storeFrom value.2 (cbindWrite core m value.1))

/-- CIRQ_WRITE (R415). -/
def execCirqWrite (core m : Nat) (value : Stored Word) (s : State) : Host.Outcome State Fault Refusal :=
  done (s.storeFrom value.2 (cirqWrite core m value.1))

/-- COUNTER_PAGE_STORE (R414). -/
def execCounterPageStore (core m value : Nat) (ack : Stored (Option (Nat × Nat × Nat × Nat))) (s : State) :
    Host.Outcome State Fault Refusal :=
  done (s.storeFrom ack.2 (counterPageStore core m value ack.1))

end Sys2Proof.Machine
end

