-- ==== Sys2Proof/Machine/Timed.lean ====
section
/-! DEFINITION. The timed message engine (12_timed R303 to R326, R438): logical processes, events,
rollbacks and anti-messages, global virtual time, and irrevocable actions. -/

namespace Sys2Proof.Machine

/-! ### Keys and entries (R308, R309) -/

/-- Serial numbers compare by their difference modulo 2^40 (R308). -/
def serialLt (a b : Nat) : Bool := a ≠ b && (b + 2 ^ 40 - a) % 2 ^ 40 < 2 ^ 39

/-- The order of events (R308). -/
def Key.lt (a b : Key) : Bool :=
  a.time < b.time || (a.time = b.time && (a.core < b.core || (a.core = b.core && serialLt a.serial b.serial)))

/-- A logical process in a slot. -/
def State.lpAt (s : State) (core slot : Nat) : Option Lp := (s.coreAt core).lps.find slot

/-- A slot's logical process replaced. -/
def State.setLp (s : State) (core slot : Nat) (lp : Lp) : State :=
  let c := s.coreAt core
  s.setCoreAt core { c with lps := c.lps.put slot lp }

/-- The 32 bytes of an input entry (Table 4) (DESIGN CHOICE, unsafe, log entry 17). -/
def TEntry.bytes (e : TEntry) : Nat :=
  e.key.time.toNat + 2 ^ 64 * (e.key.core + 2 ^ 8 * e.slot + 2 ^ 24 * e.key.serial) + 2 ^ 128 * e.payload.toNat +
    2 ^ 192 * e.state

/-- The offset of an input entry. -/
def Lp.entryAt (lp : Lp) (i : Nat) : Word := lp.iqbase + BitVec.ofNat 64 (32 * i)

/-- An input entry as it stands in memory; none where the area cannot be written (R438) (DESIGN CHOICE, unsafe, log entry 17). -/
def State.writeEntry (s : State) (core : Nat) (lp : Lp) (e : TEntry) : Option State :=
  s.engineWrite core lp.procid (lp.entryAt e.index) 32 e.bytes

/-- The entry with a changed state, in its place. -/
def Lp.mark (lp : Lp) (i st : Nat) : Lp := { lp with inputs := lp.inputs.map fun e => if e.index = i then { e with state := st } else e }

/-- The key of the highest processed event, or that of the binding (R316). -/
def Lp.lastKey (lp : Lp) : Key :=
  (lp.inputs.filter (·.state = 3)).foldl (fun k e => if k.lt e.key then e.key else k) ⟨lp.bound, 0, 0⟩

/-- The entry of lowest key among some. -/
def lowest : List TEntry → Option TEntry
  | [] => none
  | e :: rest => match lowest rest with
    | none => some e
    | some f => if f.key.lt e.key then some f else some e

/-- The processed entry of highest key that a rollback undoes. -/
def Lp.toUndo (lp : Lp) (exclusive : Bool) (k : Key) : Option TEntry :=
  (lp.inputs.filter fun e => e.state = 3 && (k.lt e.key || (!exclusive && e.key = k))).foldl
    (fun b e => match b with
      | none => some e
      | some x => if x.key.lt e.key then some e else some x) none

/-- A message, or an anti-message, has been entered, annihilated or discarded: its time leaves the sender's contribution (R320) (DEDUCED,
unsafe, log entry 32). -/
def State.arrived (s : State) (src slot serial : Nat) (anti : Bool) : State :=
  match s.lpAt src slot with
  | some lp => s.setLp src slot { lp with inTransit := lp.inTransit.filter fun x => x.2 ≠ (serial, anti) }
  | none => s

/-! ### Rollback (R316, R317) -/

/-- An anti-message for a sent message (R317); where its positive has not left the send queue, it follows it. -/
def State.sendAnti (s : State) (core slot : Nat) (lp : Lp) (o : TOut) : State :=
  let isIt := fun (q : QEntry) => match q with
    | .timed m => m.serial = o.serial && m.src = core
    | _ => false
  let s := match s.lpAt core slot with
    | some l => s.setLp core slot { l with inTransit := l.inTransit ++ [(o.rtime, o.serial, true)] }
    | none => s
  let m : TMsg := { core := o.core, slot := o.slot, rtime := o.rtime, src := core, srcSlot := slot, serial := o.serial
                    payload := o.payload, procid := lp.procid }
  if s.tasks.any fun t => t.sendq.any isIt then
    let c := s.coreAt core
    s.setCoreAt core { c with antis := c.antis ++ [m] }
  else s.sendPacket 5 core o.core (.antiMsgArrive m)

/-- The lines that undoing an event restores stand below no copy guard (R230, R316). -/
def State.restorable (s : State) (core : Nat) (lp : Lp) (us : List TUndo) : Bool :=
  match s.alloc core lp.procid with
  | some a => us.all fun u => !(s.coreAt core).guarded (a.base + lp.woff + u.loff) 64
  | none => true

/-- A line of the window is restored, in the allocation or in its backing image (R316). -/
def State.restore (s : State) (core : Nat) (lp : Lp) (u : TUndo) : State :=
  match s.alloc core lp.procid, s.backingOf core lp.procid with
  | some a, _ => s.writeScratch core (a.base + lp.woff + u.loff) 64 u.data.toNat 0
  | none, some im => (s.engineWrite core lp.procid (im + BitVec.ofNat 64 (lp.woff + u.loff)) 64 u.data.toNat).getD s
  | none, none => s

/-- The tables that the walks of an area's reads need come from the hosts at once (R257). -/
def State.supplyAreas (s : State) (core : Nat) (lp : Lp) (offs : List (Word × Nat)) : State :=
  offs.foldl (fun s x => s.supplyWalk core lp.procid 1 x.1) s

/-- The first offset of an area that the slot's engine would read and may not (R438) (DESIGN CHOICE, unsafe, log entry 17). -/
def State.unreadable (s : State) (core : Nat) (lp : Lp) (offs : List (Word × Nat)) : Option Word :=
  (offs.find? fun x => !(s.locate ⟨core, lp.procid, true⟩ .load 1 x.1 x.2).toBool).map (·.1)

/-- The entries that undoing an event reads: of the undo log and of the output log (R316). -/
def Lp.undoReads (lp : Lp) (e : TEntry) : List (Word × Nat) :=
  (lp.undos.filter (·.event = e.index)).map (fun u => (lp.ulbase + BitVec.ofNat 64 (80 * u.index), 80)) ++
    (lp.outputs.filter (·.event = e.index)).map fun o => (lp.olbase + BitVec.ofNat 64 (32 * o.index), 32)

/-- One processed event is undone: its writes, its messages, its actions; it is pending again (R316). -/
def State.undoEvent (s : State) (core slot : Nat) (lp : Lp) (e : TEntry) : Option State :=
  let us := (lp.undos.filter (·.event = e.index)).reverse
  if !s.restorable core lp us then none
  else match s.writeEntry core lp { e with state := 1 } with
    | none => none
    | some s =>
      let s := us.foldl (fun s u => s.restore core lp u) s
      let outs := lp.outputs.filter (·.event = e.index)
      let keep := { lp with
        undos := lp.undos.filter (·.event ≠ e.index), outputs := lp.outputs.filter (·.event ≠ e.index)
        actions := lp.actions.filter (·.key ≠ e.key) }
      some (outs.foldl (fun s o => s.sendAnti core slot lp o) (s.setLp core slot (keep.mark e.index 1)))

/-- Refused messages of a slot are offered again (R315, R438). -/
def State.wakeSlot (s : State) (core slot : Nat) : State :=
  if (s.coreAt core).refused.any (·.2.slot = slot) then s.push (.tmsgReoffer core slot) else s

/-- The end of a rollback: LVT and ROLLS. The entry of an anti-message is then freed (R316, R317). -/
def State.endRollback (s : State) (core slot : Nat) (item : Bool × Key) : State :=
  match s.lpAt core slot with
  | none => s
  | some lp => s.setLp core slot { lp with
      lvt := lp.lastKey, rolls := lp.rolls + 1, rolling := false, work := if item.1 then lp.work.drop 1 else lp.work }

/-- Work is a rollback if it has begun as one; a straggler's always is, an anti-message's if its entry is processed. -/
def Lp.needsRollback (lp : Lp) (item : Bool × Key) : Bool :=
  lp.rolling || item.1 || lp.inputs.any fun e => e.key = item.2 && e.state = 3

/-- A pending entry and its anti-message annihilate (R317). -/
def State.annihilate (s : State) (core slot : Nat) (item : Bool × Key) : State :=
  match s.lpAt core slot with
  | none => s
  | some lp =>
    match lp.inputs.find? (·.key = item.2) with
    | none => s.setLp core slot { lp with work := lp.work.drop 1 }
    | some e => match s.writeEntry core lp { e with state := 0 } with
      | none => s.slotFaulted core slot (lp.entryAt e.index)
      | some s =>
      let s := s.setLp core slot { lp with work := lp.work.drop 1, inputs := lp.inputs.filter (·.index ≠ e.index) }
      (s.arrived e.key.core e.slot e.key.serial true).wakeSlot core slot

/-- The rollbacks and annihilations of a slot are performed as far as they can be; what a copy guard or a
fault holds goes on later. -/
def State.runWork (s : State) (core slot : Nat) : (fuel : Nat) → State
  | 0 => s
  | n + 1 => match s.lpAt core slot with
    | none => s
    | some lp =>
      if lp.waiting then s
      else match lp.work with
        | [] => s
        | item :: _ =>
          if !lp.needsRollback item then (s.annihilate core slot item).runWork core slot n
          else match lp.toUndo item.1 item.2 with
            | none => (s.endRollback core slot item).runWork core slot n
            | some e =>
              let lp := { lp with rolling := true }
              let s := s.supplyAreas core lp (lp.undoReads e)
              if let some off := s.unreadable core lp (lp.undoReads e) then s.slotFaulted core slot off 1 false
              else match s.undoEvent core slot lp e with
              | some s => s.runWork core slot n
              | none =>
                if s.restorable core lp (lp.undos.filter (·.event = e.index)) then s.slotFaulted core slot (lp.entryAt e.index)
                else s.push (.tmsgReoffer core slot)

/-- Runs the work of a slot. -/
def State.doWork (s : State) (core slot : Nat) : State :=
  match s.lpAt core slot with
  | some lp => if s.coreHalted core then (if lp.work.isEmpty then s else s.pushOnce (.tmsgReoffer core slot)) else s.runWork core slot (2 * lp.inputs.length + 3 * lp.work.length + 2)
  | none => s

/-! ### Messages (R315, R317) -/

/-- A timed message or anti-message that finds no logical process of its process (R306) (DEDUCED, unsafe, log entry 26). -/
def State.discardTimed (s : State) (positive : Bool) (m : TMsg) : State :=
  ((s.report { kind := 8, procid := m.procid, core := m.src, unit := m.srcSlot, info := m.rtime }).arrived m.src m.srcSlot m.serial (!positive)).ackStream
    5 m.src m.core

/-- The message is refused, and later ones of its stream wait behind it (R315): none of them is acknowledged, so that they keep their
places in the sender's window. -/
def State.refuseTimed (s : State) (positive : Bool) (m : TMsg) : State :=
  let c := s.coreAt m.core
  s.setCoreAt m.core { c with refused := c.refused ++ [(positive, m)] }

/-- The logical process that a message is for. -/
def State.lpFor (s : State) (m : TMsg) : Option Lp :=
  match s.lpAt m.core m.slot with
  | some lp => if lp.procid = m.procid && !lp.ending then some lp else none
  | none => none

/-- A positive message is entered (R315). -/
def State.enterTimed (s : State) (lp : Lp) (m : TMsg) : State :=
  let e : TEntry := { index := leastFree (lp.inputs.map (·.index)), key := ⟨m.rtime, m.src, m.serial⟩, slot := m.srcSlot, payload := m.payload, state := 1 }
  match s.writeEntry m.core lp e with
  | none => (s.slotFaulted m.core m.slot (lp.entryAt e.index)).refuseTimed true m
  | some s =>
    let front := match lp.inputs.find? fun x => lp.inev && x.index = lp.evidx with
      | some x => x.key
      | none => lp.lvt
    let late := e.key.lt front
    let lp := { lp with
      inputs := lp.inputs ++ [e]
      defer := if late && lp.inev then lp.defer ++ [(true, e.key)] else lp.defer
      work := if late && !lp.inev then lp.work ++ [(true, e.key)] else lp.work }
    (((s.setLp m.core m.slot lp).arrived m.src m.srcSlot m.serial false).ackStream 5 m.src m.core).doWork m.core m.slot

/-- A message is taken in, or refused: by a full queue, a waiting slot, or a rollback under way (DEDUCED, unsafe, log entry 32). -/
def State.takeTimed (s : State) (positive : Bool) (m : TMsg) : State :=
  match s.lpFor m with
  | none => s.discardTimed positive m
  | some lp =>
    if lp.waiting || !lp.work.isEmpty || (positive && lp.iqcap ≤ lp.inputs.length) then s.refuseTimed positive m
    else if positive then s.enterTimed lp m
    else match lp.inputs.find? fun e => e.key.core = m.src && e.key.serial = m.serial with
      | none => (s.arrived m.src m.srcSlot m.serial true).ackStream 5 m.src m.core
      | some e =>
        let s := s.ackStream 5 m.src m.core
        if lp.inev && e.state ≠ 1 then s.setLp m.core m.slot { lp with defer := lp.defer ++ [(false, e.key)] }
        else (s.setLp m.core m.slot { lp with work := lp.work ++ [(false, e.key)] }).doWork m.core m.slot

/-- TMSG_ARRIVE and ANTI_MSG_ARRIVE: a packet waits behind a refused one of its stream (R315). -/
def timedArrive (positive : Bool) (m : TMsg) (s : State) : State :=
  if (s.coreAt m.core).refused.any (·.2.src = m.src) then s.refuseTimed positive m else s.takeTimed positive m

/-! ### Irrevocable actions and freeing (R321) -/

/-- A slot's action of index `i` is under way, as number `n`. -/
def State.acting (s : State) (core slot n i : Nat) : State :=
  match s.lpAt core slot with
  | some lp => s.setLp core slot { lp with acting := n, actIdx := i }
  | none => s

/-- The next number of an engine command. -/
def State.nextSerial (s : State) : Nat × State := (s.pkg.serial + 1, s.setPkg { s.pkg with serial := s.pkg.serial + 1 })

/-- A release store of an action: it is performed when it is acknowledged, so that the next action comes after it (R321). -/
def State.actStore (s : State) (core slot : Nat) (lp : Lp) (a : TAct) (p : Place) : Got Unit :=
  if lp.acting ≠ 0 then (if s.engineWaits core lp.acting then .wait s else .ok () (s.acting core slot 0 0))
  else
    let (n, s) := s.nextSerial
    match s.engineStore core 0 { owner := n } ⟨p, 8⟩ a.value.toNat 8 with
    | .ok _ s =>
      let s := match p with | .mem pa => s.programStored lp.procid pa | _ => s
      if s.engineWaits core n then .wait (s.acting core slot n a.index) else .ok () s
    | .bad _ => .ok () s
    | .wait s => .wait s

/-- Is a post an action's of a core, by number? -/
def isActionPost (core n : Nat) : Instr → Bool
  | .postArrive p => p.src = core && p.tid = 0 && p.id = n && !p.acks
  | _ => false

/-- Is the post of an action still on its way to its counter? -/
def State.postOut (s : State) (core n : Nat) : Bool :=
  s.agenda.any (isActionPost core n) || s.pkg.packets.any (fun p => isActionPost core n p.2.release) ||
    (s.coreAt core).waiting.any (fun w => isActionPost core n w.2.2.1) || s.cores.any fun c => c.2.reorder.any fun p => isActionPost core n p.release

/-- A post of an action: it is performed when its counter has taken it, so that the next action comes after it (R321). -/
def State.actPost (s : State) (core slot : Nat) (lp : Lp) (a : TAct) : Got Unit :=
  if lp.acting ≠ 0 then (if s.postOut core lp.acting then .wait s else .ok () (s.acting core slot 0 0))
  else
    let (n, s) := s.nextSerial
    let c := counterOf a.addr.toNat
    .wait ((s.sendPacket 2 core c.1 (.postArrive
      { core := c.1, index := c.2, inc := a.value.truncate 32, procid := lp.procid, asOwner := false
        src := core, ctx := 0, tid := 0, acks := false, id := n })).acting core slot n a.index)

/-- A call of an action goes to the service core of the slot's die, as one of the die's calls in order of arrival (R398); 16 and above
stand where a context stands: the slot, the process and the number of the call. -/
def State.actCall (s : State) (core slot : Nat) (lp : Lp) (a : TAct) : Got Unit :=
  if lp.acting ≠ 0 then .wait s
  else
    let (n, s) := s.nextSerial
    let die := dieOf core
    let d := s.dieAt die
    .wait (((s.setDieAt die { d with calls := d.calls ++ [(core, 16 + slot + 4 * (lp.procid + 1024 * n), a.addr.toNat)] }).acting core slot n a.index).push
      (.serviceCallStart die))

/-- One action is performed, for the process (Table 7), or waits; `bad` is a fault of its translation (DESIGN CHOICE, unsafe, log entry 13). -/
def State.perform (s : State) (core slot : Nat) (lp : Lp) (a : TAct) : Got Unit :=
  if a.kind = 1 then
    match s.locate ⟨core, lp.procid, true⟩ .store 0 a.addr 8 with
    | .error (.owned l) => .wait (s.askHost l)
    | .error _ => .bad 0
    | .ok p => s.actStore core slot lp a p
  else if a.kind = 2 then s.actPost core slot lp a
  else if a.kind = 3 then .ok () (s.raise (a.value.toNat % 2 ^ 16))
  else s.actCall core slot lp a

/-- The next action to be performed: of least time, and of those the first queued (R321). -/
def Lp.nextAction (lp : Lp) (g : Word) : Option TAct :=
  (lp.actions.filter (·.time < g)).foldl (fun b a => match b with
    | none => some a
    | some x => if a.time < x.time then some a else some x) none

/-- An action of KIND 1 faults (R321): the slot waits. -/
def State.actionFaulted (s : State) (core slot : Nat) (off : Word) : State :=
  let s := s.slotFaulted core slot off 0
  match s.lpAt core slot with
  | some lp => s.setLp core slot { lp with actionFault := true }
  | none => s

/-- Actions below a published time are performed in order. -/
def State.runActions (s : State) (core slot : Nat) (g : Word) : (fuel : Nat) → State
  | 0 => s
  | n + 1 => match s.lpAt core slot with
    | none => s
    | some lp =>
      if lp.waiting || lp.ending then s
      else match if lp.acting ≠ 0 then lp.actions.find? (·.index = lp.actIdx) else lp.nextAction g with
        | none => s
        | some a =>
          let at_ := lp.iabase + BitVec.ofNat 64 (32 * a.index)
          let s := s.supplyAreas core lp [(at_, 32)]
          if (s.unreadable core lp [(at_, 32)]).isSome then s.slotFaulted core slot at_ 1 false
          else match s.perform core slot lp a with
          | .ok _ s =>
            match s.lpAt core slot with
            | some lp => (s.setLp core slot { lp with actions := lp.actions.filter (·.index ≠ a.index) }).runActions core slot g n
            | none => s
          | .wait s => s.pushOnce (.tmsgReoffer core slot)
          | .bad _ => s.actionFaulted core slot a.addr

/-- Processed entries are freed, in order, until a write of one faults (R321, R438). -/
def State.freeEntries (s : State) (core slot : Nat) : List TEntry → State
  | [] => s
  | e :: rest => match s.lpAt core slot with
    | none => s
    | some lp => match s.writeEntry core lp { e with state := 0 } with
      | none => s.slotFaulted core slot (lp.entryAt e.index)
      | some s => (s.setLp core slot { lp with
          inputs := lp.inputs.filter (·.index ≠ e.index)
          outputs := lp.outputs.filter (·.event ≠ e.index)
          undos := lp.undos.filter (·.event ≠ e.index) }).freeEntries core slot rest

/-- What a published GVT frees and performs in a slot (R321). -/
def State.collect (s : State) (core slot : Nat) (g : Word) : State :=
  match s.lpAt core slot with
  | none => s
  | some lp =>
    if s.coreHalted core then s.pushOnce (.tmsgReoffer core slot)
    else if lp.waiting || !lp.work.isEmpty || lp.ending then s
    else
      let old := lp.inputs.filter fun e => e.state = 3 && e.key.time < g
      let s := s.freeEntries core slot old
      (if old.isEmpty then s else s.wakeSlot core slot).runActions core slot g lp.actions.length

/-! ### Global virtual time (R320, R322) -/

/-- Is a logical process bound in the process? -/
def State.anyBound (s : State) (procid : Nat) : Bool := s.cores.any fun c => c.2.lps.any fun x => x.2.procid = procid && !x.2.ending

/-- GVT of a process as it reads: all ones while nothing is bound (DEDUCED, unsafe, log entry 22). -/
def State.gvtOf (s : State) (procid : Nat) : Word :=
  if s.anyBound procid then s.pkg.gvt.get procid (BitVec.allOnes 64) else BitVec.allOnes 64

/-- The lesser of two times. -/
def minTime (a b : Word) : Word := if b < a then b else a

/-- The contribution of a logical process (R320). -/
def State.contribution (s : State) (lp : Lp) : Word :=
  let own := match s.tasks.find? (·.tid = lp.tid) with
    | some t => if t.inEvent || t.atTnext then [] else [t.vtime]
    | none => []
  let live := (lp.inputs.filter fun e => e.state = 1 || e.state = 2).map (·.key.time)
  (own ++ live ++ lp.inTransit.map (·.1)).foldl minTime (BitVec.allOnes 64)

/-- The minimum of the contributions of a process. -/
def State.reduction (s : State) (procid : Nat) : Word :=
  s.cores.foldl (fun m c => c.2.lps.foldl (fun m x => if x.2.procid = procid && !x.2.ending then minTime m (s.contribution x.2) else m) m)
    (BitVec.allOnes 64)

/-- GVT_START (R320, R322): a computation begins, unless one is under way. -/
def gvtStart (procid : Nat) (s : State) : State :=
  if procid ∈ s.pkg.gvtRun then s
  else (s.setPkg { s.pkg with gvtRun := s.pkg.gvtRun ++ [procid] }).push (.gvtPublish procid)

/-- GVT_PUBLISH (R320, R321): the new value, which never falls, and what it frees (DEDUCED, unsafe, log entry 22). -/
def gvtPublish (procid : Nat) (s : State) : State :=
  let g := s.reduction procid
  let old := s.pkg.gvt.get procid (BitVec.allOnes 64)
  let g := if old < g then g else old
  let s := s.setPkg { s.pkg with gvt := s.pkg.gvt.set procid g (BitVec.allOnes 64), gvtRun := s.pkg.gvtRun.filter (· ≠ procid) }
  s.cores.foldl (fun s c => c.2.lps.foldl (fun s x => if x.2.procid = procid then s.collect c.1 x.1 g else s) s) s

/-- TMSG_REOFFER (R315, R438): the slot's own work goes on, and refused messages are offered again in order (DEDUCED, unsafe, log entry 32). -/
def timedReoffer (core slot : Nat) (s : State) : State :=
  if s.coreHalted core then s.push (.tmsgReoffer core slot) else
  let s := s.doWork core slot
  let s := match s.lpAt core slot with
    | some lp => s.collect core slot (s.gvtOf lp.procid)
    | none => s
  let c := s.coreAt core
  c.refused.foldl (fun s x => timedArrive x.1 x.2 s) (s.setCoreAt core { c with refused := [] })

/-! ### The end of a logical process (R306) -/

/-- The ROLLS store of an ended logical process, and its slot freed. -/
def State.storeRolls (s : State) (core slot : Nat) (lp : Lp) : State :=
  let at_ := lp.off + 0x3C
  let drop := fun (s : State) =>
    let c := s.coreAt core
    (s.setCoreAt core { c with lps := c.lps.drop slot }).wakeSlot core slot
  let s := s.supplyWalk core lp.procid lp.sel at_
  match s.locate ⟨core, lp.procid, true⟩ .store lp.sel at_ 4 with
  | .ok p => drop (s.writePlace core p 4 lp.rolls.toNat)
  | .error .space => drop (s.report { kind := 8, procid := lp.procid, core, unit := slot, info := at_, sel := lp.sel })
  | .error _ => s.slotFaulted core slot at_ lp.sel

/-- The anti-messages that a slot holds, deferred or to be performed, are discarded with it: their times leave their senders'
contributions (R306, R320). -/
def State.dropAntis (s : State) (lp : Lp) : State :=
  (lp.work ++ lp.defer).foldl (fun s item =>
    if item.1 then s
    else match lp.inputs.find? (·.key = item.2) with
      | some e => s.arrived e.key.core e.slot e.key.serial true
      | none => s) s

/-- The engine line of the task with a number, in its image. -/
def State.storeLineOf (s : State) (core tid : Nat) : State :=
  match s.tasks.find? (·.tid = tid) with
  | some t => s.storeLine core t
  | none => s

/-- The logical process of a slot ends: everything of it is discarded (R306). -/
def State.endLp (s : State) (core slot : Nat) : State :=
  match s.lpAt core slot with
  | none => s
  | some lp =>
    let s := s.dropAntis lp
    let s := s.mapTask lp.tid fun t => { t with tlp := none, inEvent := false, atTnext := false }
    let lp := { lp with
      inputs := [], outputs := [], undos := [], actions := [], defer := [], work := [], inTransit := [], inev := false
      waiting := false, ending := true, rolling := false, acting := 0, actIdx := 0 }
    (s.setLp core slot lp).storeRolls core slot lp

/-! ### Instructions -/

/-- Timed instructions of a bound task on the core of its logical process (R310, R312 to R314). -/
def State.withLp (s : State) (k : Nat → Lp → Result) : Result :=
  match s.boundLp with
  | none => .error (.trap 12 3 0 0)
  | some (c, slot, lp) => if c ≠ s.curCore then .error (.trap 12 4 0 0) else k slot lp

/-- `tbind` once its descriptor has been read (R305) (DEDUCED, unsafe, log entry 22). -/
def State.finishTbind (s : State) (d : BitVec 512) (sel : BitVec 16) (off : Word) (words : Nat) : Result :=
  let core := s.curCore
  let t := s.task
  let procid := t.procid.toNat
  let woff := recField d 0 32
  let wlen := recField d 32 32
  let bases := [64, 128, 192, 256].map fun o => recField d o 64
  let caps := [320, 352, 384, 416].map fun o => recField d o 32
  let slot := recField d 448 2
  let range := match s.alloc core procid with | some a => some (a.base + woff, a.size) | none => none
  let bad := recField d 450 6 ≠ 0 || recField d 456 24 ≠ 0 || woff % 64 ≠ 0 || wlen % 64 ≠ 0 || wlen < 64 || 65536 < wlen ||
    (match range with | some r => r.2 < woff + wlen | none => true) ||
    bases.any (fun b => b % 64 ≠ 0 || 2 ^ 48 ≤ b) || caps.any fun c => c < 16 || 65536 < c
  if bad then .error (.trap 12 1 0 0)
  else
    let lo := match range with | some r => r.1 | none => 0
    let overlaps := (s.coreAt core).lps.any fun x => match s.alloc core x.2.procid with
      | some a => !x.2.ending && lo < a.base + x.2.woff + x.2.wlen && a.base + x.2.woff < lo + wlen
      | none => false
    if (s.lpAt core slot).isSome || overlaps then .error (.trap 12 2 0 0)
    else
      let w := fun i => BitVec.ofNat 64 (bases.getD i 0)
      let g := if s.gvtOf procid = BitVec.allOnes 64 then (0 : Word) else s.gvtOf procid
      let s := s.setPkg { s.pkg with gvt := s.pkg.gvt.put procid g }
      let lp : Lp := { procid, tid := t.tid, image := t.image, woff, wlen, iqbase := w 0, olbase := w 1, ulbase := w 2, iabase := w 3
                       iqcap := caps.getD 0 0, olcap := caps.getD 1 0, ulcap := caps.getD 2 0, iacap := caps.getD 3 0
                       sel, off, bound := g, lvt := ⟨g, 0, 0⟩ }
      let t := { s.task with vtime := g, tlp := some (core, slot) }
      .ok ((((s.setLp core slot lp).setTask t).storeLine core t).advance words)

/-- `tbind` (R305). -/
def timedBind (e : Ext) (s : State) : State :=
  s.instr [e.a.toNat] [] e.syn false fun s =>
    let m := s.extArgNoIndex e
    if s.task.inEvent then .error (.trap 12 5 0 0)
    else if s.g e.a.toNat = 0 then
      let s := match s.boundLp with
        | some (c, slot, _) => let s := s.endLp c slot; s.storeLine s.curCore s.task
        | none => s
      .ok (s.advance e.words)
    else if s.boundLp.isSome then .error (.trap 12 2 0 0)
    else match s.checkNear .load (s.selOf m) m.ea 64 64 with
      | .error x => .error x
      | .ok p => match s.guardOf [⟨p, 64⟩] with
        | some w => .error (.retry 1 w)
        | none =>
          if p.isOwn s.curCore then s.finishTbind (BitVec.ofNat 512 (s.ownValue ⟨p, 64⟩)) (s.selOf m) m.ea m.words
          else .ok (s.request [⟨p, 64⟩] [] .bind m (s.selOf m) none)

/-- The registers as `tnext` leaves them (R310): g1, g2, g3 and D keep their full bits and values; the lines of all the others stand in
the register file with them (R81). -/
def Task.beginEvent (t : Task) (d : Nat) : Task :=
  let keep := fun r => r = 1 || r = 2 || r = 3 || r = d
  { t with
    g := t.g.filter fun x => keep x.1
    v := []
    full := t.full ||| ~~~(bit256 1 ||| bit256 2 ||| bit256 3)
    oplog := [], logptr := 0, badRegs := t.badRegs.filter fun r => keep r, badVecs := [], absent := [], wild := [] }

/-- `tnext` (R310). -/
def timedNext (e : Ext) (s : State) : State :=
  s.instr [] [] [] false (wr := [e.d.toNat, 1, 2, 3]) fun s => s.withLp fun slot lp =>
    if s.task.inEvent then .error (.trap 12 5 0 0)
    else if s.task.pend ≠ 0 then .ok ((s.setTask { s.task with atTnext := true }).park 1 .loads)
    else
      let wait := fun (s : State) => Except.ok ((s.setTask { s.task with atTnext := true }).park 12 .event)
      if lp.waiting || !lp.work.isEmpty then wait s
      else match lowest (lp.inputs.filter (·.state = 1)) with
        | some x =>
          let s := s.supplyAreas s.curCore lp [(lp.entryAt x.index, 32)]
          if (s.unreadable s.curCore lp [(lp.entryAt x.index, 32)]).isSome then wait (s.slotFaulted s.curCore slot (lp.entryAt x.index) 1 false)
          else match s.writeEntry s.curCore lp { x with state := 2 } with
          | none => wait (s.slotFaulted s.curCore slot (lp.entryAt x.index))
          | some s =>
            let s := s.setLp s.curCore slot { lp.mark x.index 2 with inev := true, evidx := x.index }
            let at_ := lp.entryAt x.index + 16
            let t := ({ s.task.beginEvent e.d.toNat with vtime := x.key.time, inEvent := true, evaddr := at_, atTnext := false }).setG e.d.toNat at_
            .ok (((s.setTask t).storeLine s.curCore t).advance e.words)
        | none =>
          if s.gvtOf lp.procid = BitVec.allOnes 64 && lp.actions.isEmpty then
            .ok (((s.setTask { s.task with atTnext := false }).setG e.d.toNat 0).advance e.words)
          else wait s

/-- `tdone` (R312). -/
def timedDone (e : Ext) (s : State) : State :=
  s.instr [] [] [] false fun s => s.withLp fun slot lp =>
    if !s.task.inEvent then .error (.trap 12 5 0 0)
    else if lp.waiting then .error (.retry 1 .slotFree)
    else match lp.inputs.find? (·.index = lp.evidx) with
      | none => .ok (s.advance e.words)
      | some x => match s.writeEntry s.curCore lp { x with state := 3 } with
        | none => .error (.slotFault s.curCore slot (lp.entryAt x.index))
        | some s =>
          let lp := { lp.mark x.index 3 with lvt := x.key, inev := false, defer := [], work := lp.work ++ lp.defer }
          let t := { s.task with inEvent := false }
          .ok (((((s.setLp s.curCore slot lp).setTask t).storeLine s.curCore t).doWork s.curCore slot).advance e.words)

/-- An output entry for a sent message is appended in an event (R313). -/
def State.logOutput (s : State) (slot : Nat) (lp : Lp) (o : TOut) : Option State :=
  let v := o.rtime.toNat + 2 ^ 64 * (o.core + 2 ^ 8 * o.slot + 2 ^ 24 * o.serial) + 2 ^ 128 * o.event + 2 ^ 192 * o.payload.toNat
  (s.engineWrite s.curCore lp.procid (lp.olbase + BitVec.ofNat 64 (32 * o.index)) 32 v).map fun s =>
    s.setLp s.curCore slot { lp with outputs := lp.outputs ++ [o] }

/-- `tsend` (R313). -/
def timedSend (e : Ext) (s : State) : State :=
  s.instr [e.a.toNat, e.b.toNat, e.c.toNat] [] e.syn false fun s => s.withLp fun slot lp =>
    let w := s.g e.a.toNat
    let t := s.g e.b.toNat
    let core := s.curCore
    let dst := w.toNat % 256
    let dslot := w.toNat / 256 % 4
    if w >>> 10 ≠ 0 || t < s.task.vtime || t = BitVec.allOnes 64 || (dst = core && dslot = slot && t = s.task.vtime) then
      .error (.trap 12 6 0 0)
    else if s.task.inEvent && lp.olcap ≤ lp.outputs.length then .error (.trap 12 7 0 0)
    else if 8 ≤ s.task.sendq.length then .error (.retry 6 .sendRoom)
    else if lp.waiting then .error (.retry 1 .slotFree)
    else
      let n := (s.coreAt core).tserial
      let m : TMsg := { core := dst, slot := dslot, rtime := t, src := core, srcSlot := slot, serial := n
                        payload := s.g e.c.toNat, procid := lp.procid }
      let o : TOut := { index := leastFree (lp.outputs.map (·.index)), rtime := t, core := dst, slot := dslot, serial := n
                        event := lp.evidx, payload := m.payload }
      match if s.task.inEvent then s.logOutput slot lp o else some s with
      | none => .error (.slotFault core slot (lp.olbase + BitVec.ofNat 64 (32 * o.index)))
      | some s =>
        let c := s.coreAt core
        let s := s.setCoreAt core { c with tserial := (n + 1) % 2 ^ 40 }
        let s := match s.lpAt core slot with
          | some lp => s.setLp core slot { lp with inTransit := lp.inTransit ++ [(t, n, false)] }
          | none => s
        .ok ((s.enqueue (.timed m)).advance e.words)

/-- The records that Table 7 refuses. -/
def refusedAction (kind : Nat) (a v : Nat) : Bool :=
  match kind with
  | 1 => a % 8 ≠ 0 || 2 ^ 57 ≤ a
  | 2 => 0x10000 ≤ a || a % 4 ≠ 0 || v / 2 ^ 32 ≠ 0
  | 3 => a ≠ 0 || v / 2 ^ 16 ≠ 0
  | 4 => a / 2 ^ 14 ≠ 0
  | _ => true

/-- `tirr` once its record has been read, as three doublewords (R314). -/
def State.finishTirr (s : State) (vs : List Nat) (words : Nat) : Result :=
  s.withLp fun slot lp =>
    let k := vs.getD 0 0
    let a := vs.getD 1 0
    let v := vs.getD 2 0
    if k / 256 ≠ 0 || refusedAction (k % 256) a v then .error (.trap 12 10 0 0)
    else if lp.iacap ≤ lp.actions.length then .error (.trap 12 7 0 0)
    else if lp.waiting then .error (.retry 1 .slotFree)
    else
      let i := leastFree (lp.actions.map (·.index))
      let at_ := lp.iabase + BitVec.ofNat 64 (32 * i)
      let x : TAct := { index := i, kind := k % 256, event := lp.evidx, addr := BitVec.ofNat 64 a, value := BitVec.ofNat 64 v, time := s.task.vtime
                        key := ((lp.inputs.find? (·.index = lp.evidx)).map (·.key)).getD lp.lvt }
      match s.engineWrite s.curCore lp.procid at_ 32 (x.kind + 2 ^ 32 * x.event + 2 ^ 64 * a + 2 ^ 128 * v + 2 ^ 192 * x.time.toNat) with
      | none => .error (.slotFault s.curCore slot at_)
      | some s => .ok ((s.setLp s.curCore slot { lp with actions := lp.actions ++ [x] }).advance words)

/-- `tirr` (R314). -/
def timedAct (e : Ext) (s : State) : State :=
  s.instr [e.a.toNat] [] e.syn false fun s => s.withLp fun _ lp =>
    let m := s.extArgNoIndex e
    if !s.task.inEvent then .error (.trap 12 5 0 0)
    else if lp.waiting then .error (.retry 1 .slotFree)
    else if m.ea.toNat % 8 ≠ 0 then .error (.trap 3 0 (s.selOf m) m.ea)
    else match atBase m.ea (s.checkAll .load (s.selOf m) 8 8 [m.ea, m.ea + 8, m.ea + 16]) with
      | .error x => .error x
      | .ok es => match s.guardOf es with
        | some w => .error (.retry 1 w)
        | none =>
          if es.all (·.place.isOwn s.curCore) then s.finishTirr (es.map s.ownValue) m.words
          else .ok (s.request es [] .action m (s.selOf m) none)

/-- `tgvt` (R322). -/
def timedGvt (e : Ext) (s : State) : State :=
  s.instr [] [] [] false fun s => .ok ((gvtStart s.task.procid.toNat s).advance e.words)

/-! ### Meanings -/

/-- `tbind` (R305). -/
def execTbind (e : Ext) (s : State) : Host.Outcome State Fault Refusal := done (timedBind e s)

/-- `tnext` (R310). -/
def execTnext (e : Ext) (s : State) : Host.Outcome State Fault Refusal := done (timedNext e s)

/-- `tsend` (R313). -/
def execTsend (e : Ext) (s : State) : Host.Outcome State Fault Refusal := done (timedSend e s)

/-- `tdone` (R312). -/
def execTdone (e : Ext) (s : State) : Host.Outcome State Fault Refusal := done (timedDone e s)

/-- `tirr` (R314). -/
def execTirr (e : Ext) (s : State) : Host.Outcome State Fault Refusal := done (timedAct e s)

/-- `tgvt` (R322). -/
def execTgvt (e : Ext) (s : State) : Host.Outcome State Fault Refusal := done (timedGvt e s)

/-- TMSG_ARRIVE (R315). -/
def execTmsgArrive (m : TMsg) (s : State) : Host.Outcome State Fault Refusal := done (timedArrive true m s)

/-- ANTI_MSG_ARRIVE (R317). -/
def execAntiMsgArrive (m : TMsg) (s : State) : Host.Outcome State Fault Refusal := done (timedArrive false m s)

/-- TMSG_REOFFER (R315). -/
def execTmsgReoffer (core slot : Nat) (s : State) : Host.Outcome State Fault Refusal := done (timedReoffer core slot s)

/-- GVT_START (R320). -/
def execGvtStart (procid : Nat) (s : State) : Host.Outcome State Fault Refusal := done (gvtStart procid s)

/-- GVT_PUBLISH (R320). -/
def execGvtPublish (procid : Nat) (s : State) : Host.Outcome State Fault Refusal := done (gvtPublish procid s)

end Sys2Proof.Machine
end

