-- ==== Sys2Proof/Machine/Tasks.lean ====
section
/-! DEFINITION. Tasks (R80, R349 to R359): pools, groups with their allocations, heavy-unit tokens (R370),
records and spindles, the start of a task, its end, its pre-emption and its resumption, and the work that a
FREE context takes. -/

namespace Sys2Proof.Machine

/-! ### Pools (R329, R350) -/

/-- The lowest element of a pool that is not in use. -/
def State.takeElem (s : State) (procid pool : Nat) : Option (Nat × State) :=
  let p := s.process procid
  let x := p.pools.get pool {}
  let size := (poolElem pool).1
  (x.fresh size).map fun i =>
    (i, s.setPkg { s.pkg with procs := s.pkg.procs.put procid { p with
      pools := p.pools.put pool { x with used := x.used ++ [x.base.toNat + size * i] } } })

/-- The offset of a pool's element. -/
def State.elemAt (s : State) (procid pool i : Nat) : Word :=
  ((s.process procid).pools.get pool {}).base + BitVec.ofNat 64 ((poolElem pool).1 * i)

/-- The element of a pool at an offset is free again. -/
def State.freeElem (s : State) (procid pool : Nat) (off : Word) : State :=
  let p := s.process procid
  let x := p.pools.get pool {}
  s.setPkg { s.pkg with procs := s.pkg.procs.put procid { p with
    pools := p.pools.put pool { x with used := x.used.filter (· ≠ off.toNat) } } }

/-! ### Groups (R22, R346) -/

/-- The key of a process's live group on a cluster. -/
def groupKey (procid cluster : Nat) : Nat := procid * 64 + cluster

/-- The group of a process on a cluster. -/
def State.groupAt (s : State) (procid cluster : Nat) : Option Group := s.pkg.groups.find (groupKey procid cluster)

/-- The group replaced. -/
def State.setGroup (s : State) (procid cluster : Nat) (g : Group) : State :=
  s.setPkg { s.pkg with groups := s.pkg.groups.put (groupKey procid cluster) g }

/-- Scratchpad bytes that allocations of a core may lie below: min(CUR, REQ) ways (R125, R346). -/
def Core.split (c : Core) : Nat := Nat.min c.wayCur c.wayReq * 131072

/-- The lowest multiple of 4 KiB where `size` bytes fit beside the allocations there, above the message area
(R346). -/
def Core.place (c : Core) (size : Nat) : Option Nat :=
  ((List.range (c.split / 4096)).map (· * 4096)).find? fun b =>
    8192 ≤ b && b + size ≤ c.split && c.allocs.all fun x => x.2.base + x.2.size ≤ b || b + size ≤ x.2.base

/-- Allocations of `size` bytes on every core of a cluster; none where one does not fit. -/
def State.allocCluster (s : State) (procid cluster size : Nat) : Option State :=
  (clusterCores cluster).foldl (fun o k => o.bind fun s =>
    let c := s.coreAt k
    if (c.allocs.find procid).isSome then none
    else (c.place size).map fun b => s.setCoreAt k { c with allocs := c.allocs.put procid { base := b, size } }) (some s)

/-- The bytes of an allocation become zero. -/
def State.zeroScratch (s : State) (core base n : Nat) : State :=
  { s with mem := s.mem.filter fun x => !(sramKey core base ≤ x.1 && x.1 < sramKey core (base + n)) }

/-- A new group with zero-filled allocations (R346); none where they do not fit. -/
def State.createGroup (s : State) (procid cluster size : Nat) : Option State :=
  (s.allocCluster procid cluster size).map fun s =>
    let s := (clusterCores cluster).foldl (fun s k => match s.alloc k procid with
      | some a => s.zeroScratch k a.base a.size
      | none => s) s
    s.setGroup procid cluster { tasks := 0, size }

/-- The live group joined by one more task or record, or created; none where the allocation does not fit, or
one of an ended group is still there. -/
def State.joinGroup (s : State) (procid cluster size : Nat) : Option State :=
  match s.groupAt procid cluster with
  | some g => if g.ended then none else some (s.setGroup procid cluster { g with tasks := g.tasks + 1 })
  | none => (s.createGroup procid cluster size).map fun s => s.setGroup procid cluster { tasks := 1, size }

/-- Does a copy read or write an allocation of a process on a cluster (R241)? -/
def State.copyUses (s : State) (procid cluster : Nat) : Bool :=
  s.cores.any fun c => c.2.copies.any fun x => x.procid = procid &&
    [x.ssel, x.dsel].any fun sel => match spaceOf c.1 sel.toNat with
      | some (.scratch k) => clusterOf k = cluster
      | _ => false

/-- Is an access of several elements to a scratchpad of the cluster under way: some performed, some not (R126)? That the release waits for
it is the model's choice: R22 names the group's end and copies alone (DESIGN CHOICE, unsafe, log entry 47). -/
def State.windowUses (s : State) (cluster : Nat) : Bool :=
  s.ctxs.any fun x => match x.2.wait with
    | .req r => !r.done.isEmpty && (match r.todo with
      | ⟨.scratch c _, _⟩ :: _ => clusterOf c = cluster
      | _ => false)
    | _ => false

/-- The allocations of an ended group are released, once no copy and no access under way uses them (R22, R126, R355): its subscriptions end
(R299). -/
def State.tryRelease (s : State) (procid cluster : Nat) : State :=
  match s.groupAt procid cluster with
  | some g =>
    if !g.ended || s.copyUses procid cluster || s.windowUses cluster then s
    else
      let s := (clusterCores cluster).foldl (fun s k =>
        let s := s.endSubs k procid
        let c := s.coreAt k
        s.setCoreAt k { c with allocs := c.allocs.drop procid }) s
      let s := g.backing.foldl (fun s b => s.freeElem procid 6 b.2) s
      (s.setPkg { s.pkg with groups := s.pkg.groups.drop (groupKey procid cluster) }).push (.entryStart procid)
  | none => s

/-- One task or record of a group is counted out; the last one ends the group, and its barrier counters
become free (R133, R355). -/
def State.leaveGroup (s : State) (procid cluster : Nat) : State :=
  match s.groupAt procid cluster with
  | none => s
  | some g =>
    let n := g.tasks - 1
    let s := s.setGroup procid cluster { g with tasks := n, ended := n = 0 }
    if n ≠ 0 then s
    else
      let s := s.setPkg { s.pkg with barriers := s.pkg.barriers.filter fun b => !(b.1 / 8 = cluster && b.2.owner = some procid) }
      s.tryRelease procid cluster

/-! ### Heavy-unit tokens (R370) -/

/-- Pending requests are granted in order while the held total is below the limit. -/
def State.grantTokens (s : State) (die : Nat) : (fuel : Nat) → State
  | 0 => s
  | n + 1 =>
    let d := s.dieAt die
    match d.tokQueue with
    | [] => s
    | t :: rest =>
      if s.tokensOn die < d.limit then
        ((s.setDieAt die { d with tokQueue := rest }).mapTask t fun x =>
          { x with tokHeld := x.tokHeld + 1, tokReq := x.tokReq - 1 }).grantTokens die n
      else s

/-- Grants on a die. -/
def State.grant (s : State) (die : Nat) : State := s.grantTokens die 320

/-- The requests of a task leave the die's queue, and its tokens return to it. -/
def State.returnTokens (s : State) (die : Nat) (t : Task) : State :=
  let d := s.dieAt die
  s.setDieAt die { d with tokQueue := d.tokQueue.filter (· ≠ t.tid) }

/-- The executing task's tokens return, its requests to be filed again (R370). -/
def State.shelveTokens (s : State) : State :=
  let t := s.task
  let die := dieOf s.curCore
  ((s.returnTokens die t).setTask { t with tokReq := t.tokReq + t.tokHeld, tokHeld := 0 }).grant die

/-- A task's requests are filed at a die: those that are not there already. -/
def State.fileTokens (s : State) (die : Nat) (t : Task) : State :=
  let d := s.dieAt die
  (s.setDieAt die { d with tokQueue := d.tokQueue ++ List.replicate (t.tokReq - d.tokQueue.count t.tid) t.tid }).grant die

/-! ### Launches and nodes (R337, R364) -/

/-- The entry of a launch. -/
def State.entryOf (s : State) (launch : Nat) : Option Entry := s.pkg.entries.find? fun e => e.launch = launch && launch ≠ 0

/-- An accepted entry replaced, by its place in the acceptance order. -/
def State.mapEntry (s : State) (id : Nat) (f : Entry → Entry) : State :=
  s.setPkg { s.pkg with entries := s.pkg.entries.map fun e => if e.id = id then f e else e }

/-- A launch counts one task or record more. -/
def State.countIn (s : State) (launch : Nat) (node : Option Word) : State :=
  s.setPkg { s.pkg with
    entries := s.pkg.entries.map fun e => if e.launch = launch ∧ launch ≠ 0 then { e with live := e.live + 1 } else e
    nodes := s.pkg.nodes.map fun n => if n.launch = launch ∧ some n.addr = node then { n with live := n.live + 1 } else n }

/-- A task or record is counted out of its launch and its node, which may then complete (R355, R364). -/
def State.countOut (s : State) (launch : Nat) (node : Option Word) : State :=
  let s := s.setPkg { s.pkg with
    entries := s.pkg.entries.map fun e => if e.launch = launch ∧ launch ≠ 0 then { e with live := e.live - 1 } else e
    nodes := s.pkg.nodes.map fun n => if n.launch = launch ∧ some n.addr = node then { n with live := n.live - 1 } else n }
  let s := match node with
    | some a => if s.pkg.nodes.any fun n => n.launch = launch && n.addr = a && n.live = 0 then s.push (.nodeComplete launch a) else s
    | none => s
  match s.entryOf launch with
  | some e => if e.live = 0 then s.push (.entryComplete e.id) else s
  | none => s

/-! ### Records and the start of a task (R80, R348 to R350) -/

/-- The spindle of a process on a core, the bottom record first. -/
def State.spindle (s : State) (core procid : Nat) : List Rec := (s.coreAt core).spindles.get procid []

/-- The spindle replaced. -/
def State.setSpindle (s : State) (core procid : Nat) (q : List Rec) : State :=
  let c := s.coreAt core
  s.setCoreAt core { c with spindles := c.spindles.set procid q [] }

/-- SCAP of a process (R329). -/
def State.scap (s : State) (procid : Nat) : Nat := ((s.process procid).pools.get 8 {}).count

/-- The offset in space 0x0001 of the record that is `i` places above the bottom of a spindle of `n` records: slot
(TOP + n − 1 − i) mod SCAP of the core's ring (R329, R349). -/
def State.recOffset (s : State) (core procid n i : Nat) : Word :=
  let slot := ((s.coreAt core).tops.get procid 0 + n - 1 - i) % Nat.max 1 (s.scap procid)
  ((s.process procid).pools.get 8 {}).base + BitVec.ofNat 64 (32 * s.scap procid * core + 32 * slot)

/-- TAG of a record (R348): LAUNCH takes 12 bits of the launch's number. -/
def Rec.tag (r : Rec) : Nat :=
  r.taskidx.toNat + 2 ^ 48 * r.grp.isSome.toNat + 2 ^ 49 * r.mode.toNat + 2 ^ 50 * r.ls.toNat + 2 ^ 51 * r.pin.toNat + 2 ^ 52 * (r.launch % 4096)

/-- The 32 bytes of a record (R348). -/
def Rec.bytes (r : Rec) : Nat := r.code.toNat + 2 ^ 64 * r.frame.toNat + 2 ^ 128 * r.g4.toNat + 2 ^ 192 * r.tag

/-- A record with the fields that its 32 bytes give (DESIGN CHOICE, unsafe, log entry 18). -/
def Rec.ofBytes (r : Rec) (core v : Nat) : Rec :=
  let tag := v / 2 ^ 192
  { r with
    code := BitVec.ofNat 64 v, frame := BitVec.ofNat 64 (v / 2 ^ 64), g4 := BitVec.ofNat 64 (v / 2 ^ 128), taskidx := BitVec.ofNat 48 tag
    grp := if tag / 2 ^ 48 % 2 = r.grp.isSome.toNat then r.grp else if tag / 2 ^ 48 % 2 = 1 then some (clusterOf core) else none
    mode := tag / 2 ^ 49 % 2 = 1, ls := tag / 2 ^ 50 % 2 = 1, pin := tag / 2 ^ 51 % 2 = 1 }

/-- The record `i` places above the bottom goes to spindle memory (R349); where its page is not mapped the core keeps it (DESIGN CHOICE,
unsafe, log entry 18). -/
def State.spillRec (s : State) (core procid i : Nat) : State :=
  let q := s.spindle core procid
  match q[i]? with
  | none => s
  | some r =>
    let s := s.setSpindle core procid (q.set i { r with spilled := true })
    (s.engineWrite core procid (s.recOffset core procid q.length i) 32 r.bytes).getD s

/-- The record `i` places above the bottom of a spindle as its taker finds it: from the core's SRAM, or from spindle memory, which holds
all but the sixteen at the bottom and which the core reads as its engines read memory (R349); from a page that is not mapped, or a line in
error, it is as the core has it (DESIGN CHOICE, unsafe, log entry 18). -/
def State.recAt (s : State) (core procid i : Nat) : Got (Option Rec) :=
  let q := s.spindle core procid
  match q[i]? with
  | none => .ok none s
  | some r =>
    if i < 16 then .ok (some r) s
    else
      let off := s.recOffset core procid q.length i
      let s := s.supplyWalk core procid 1 off
      match s.locate ⟨core, procid, true⟩ .load 1 off 32 with
      | .error _ => .ok (some r) s
      | .ok p => match s.engineRead core 0 ⟨p, 32⟩ with
        | .ok v s => .ok (some (r.ofBytes core v)) s
        | .wait s => .wait s
        | .bad _ => .ok (some r) s

/-- A record is pushed at the bottom of a spindle; the one that this moves beyond the sixteen that the core holds goes to
spindle memory (R349). -/
def State.pushRec (s : State) (core procid : Nat) (r : Rec) : State :=
  (s.setSpindle core procid (r :: s.spindle core procid)).spillRec core procid 16

/-- The bottom record of a spindle is popped; the lowest one in spindle memory comes back to the core's SRAM (R349). -/
def State.popRec (s : State) (core procid : Nat) : Got Unit :=
  let q := s.spindle core procid
  match s.recAt core procid 16 with
  | .ok (some r) s => .ok () (s.setSpindle core procid ((q.set 16 r).drop 1))
  | .ok none s => .ok () (s.setSpindle core procid (q.drop 1))
  | .wait s => .wait s
  | .bad n => .bad n

/-- The top record of a spindle is taken: TOP moves on (R349). -/
def State.dropTop (s : State) (core procid : Nat) : State :=
  let c := s.coreAt core
  (s.setCoreAt core { c with tops := c.tops.put procid ((c.tops.get procid 0 + 1) % 2 ^ 32) }).setSpindle core procid (s.spindle core procid).dropLast

/-- Roots are placed on a core, the lowest to be popped first: as many as its spindle has room for, the others when no record of
their launch is left there (R345, R349) (DEDUCED, unsafe, log entry 29). -/
def State.placeRoots (s : State) (core procid : Nat) (rs : List Rec) : State :=
  let n := s.scap procid - (s.spindle core procid).length
  let s := (rs.take n).reverse.foldl (fun s r => s.pushRec core procid r) s
  if rs.length ≤ n then s
  else
    let c := s.coreAt core
    s.setCoreAt core { c with roots := c.roots.put procid (c.roots.get procid [] ++ rs.drop n) }

/-- Roots that waited for room in a spindle are placed in it. -/
def State.moreRoots (s : State) (core procid : Nat) : State :=
  let c := s.coreAt core
  match c.roots.get procid [] with
  | [] => s
  | r :: rest =>
    if (s.spindle core procid).any (·.launch = r.launch) || s.scap procid ≤ (s.spindle core procid).length then s
    else
      let own := (r :: rest).takeWhile (·.launch = r.launch)
      (s.setCoreAt core { c with roots := c.roots.set procid ((r :: rest).drop own.length) [] }).placeRoots core procid own

/-- A record's MODE (R349): one that has been in spindle memory runs privileged only while its process holds
a valid privileged queue (DEDUCED, unsafe, log entry 42). -/
def State.recMode (s : State) (procid : Nat) (r : Rec) : Bool :=
  r.mode && (!r.spilled || s.pkg.queues.any fun q => q.2.procid = procid && q.2.mode && q.2.state ≠ .disabled)

/-- The accesses that a record waits for are performed (R353). -/
def State.recVisible (s : State) (r : Rec) : Bool :=
  match r.owner with
  | none => true
  | some (tid, last) =>
    (s.cores.all fun c => c.2.unacked.all fun u => u.2.1 ≠ tid || last ≤ u.2.2) &&
      (s.tasks.all fun t => t.tid ≠ tid || (t.pend = 0 && t.subUnacked = 0 && !t.sendq.any QEntry.isPost)) && !s.buffered tid

/-- The registers of R80 and R350. -/
def startRegs (r : Rec) (taskidx : Word) (more : List Word) : Store Word :=
  ([(2, r.frame), (3, taskidx), (4, r.g4), (5, r.g5)] ++ more.mapIdx fun i v => (4 + i, v)).foldl
    (fun (m : Store Word) (x : Nat × Word) => m.set x.1 x.2 0) []

/-- The first `n` bits of a mask. -/
def lowMask (w n : Nat) : BitVec w := BitVec.ofNat w (2 ^ n - 1)

/-- A task starts in a context (R80, R350): `more` are values for g4 and up. On an empty pool, the state with
its report. The two low bits of CODE are ignored, PC being a multiple of 4 (R38) (DEDUCED, unsafe, log entry 42). -/
def State.startTask (s : State) (k procid : Nat) (r : Rec) (mode : Bool) (skey : Word) (taskidx : Word) (bounded : Bool)
    (more : List Word) : Except State State :=
  let core := k / 16
  let part := (s.coreAt core).part
  match s.takeElem procid part.code with
  | none => .error (s.poolEmpty procid part.code core)
  | some (i, s') =>
    match if r.ls then (s'.takeElem procid 3).map (fun x => (some x.1, x.2)) else some (none, s') with
    | none => .error (s.poolEmpty procid 3 core)
    | some (area, s) =>
      let image := s.elemAt procid part.code i
      let t : Task := {
        pc := r.code &&& ~~~3#64, s2 := BitVec.ofNat 16 (0x1000 + core), mode, part, procid := BitVec.ofNat 10 procid, skey, taskidx
        holder := some (core, k % 16), image, liveg := lowMask 256 part.gCount, livev := lowMask 64 part.vCount
        g := startRegs r taskidx more
        lsave := match area with | some a => s.elemAt procid 3 a | none => 0
        group := r.grp, launch := r.launch, ls := r.ls, node := r.node, bounded, home := if bounded then some (core, part.contexts - 1 - k % 16) else none, tid := s.nextTid }
      let s := ({ s with nextTid := s.nextTid + 1 }).setCtxAt k { state := .ready, task := t }
      .ok (((s.evictLinesFor k).within k State.installRing).acquireAll core 5 (s.dieTime core))

/-! ### The end of a task (R355) -/

/-- Loom holdings are released wherever they are (R212). -/
def State.dropLoom (s : State) (t : Task) : State :=
  let key := t.key
  let s := { s with cores := s.cores.map fun (c : Nat × Core) => (c.1, (c.2.heldBy key).foldl (fun c r => c.release r) c.2) }
  let s := s.setPkg { s.pkg with saves := s.pkg.saves.drop key }
  if t.lheldV then s.push (.loomClaimRetry t.lheldCore.toNat key) else s

/-- The drain of R355: nothing of the context's accesses is outstanding, and no loom command of it is in the queue (R212). -/
def State.mayEnd (s : State) : Bool :=
  s.drained && s.task.sendq.isEmpty && (s.coreAt s.curCore).loomq.all fun q => q.ctx ≠ s.curCtx

/-- The executing context's task ends, its drain over (R355). -/
def State.endTask (s : State) : State :=
  let t := s.task
  let core := s.curCore
  let procid := t.procid.toNat
  let s := match s.boundLp with
    | some (c, slot, _) => s.endLp c slot
    | none => s
  let s := ((s.dropLoom t).returnTokens (dieOf core) t).setMe {}
  let s := (s.reoffer t).grant (dieOf core)
  let s := match t.group with
    | some cl => s.leaveGroup procid cl
    | none => s
  let s := s.freeElem procid t.part.code t.image
  let s := if t.lsave = 0 then s else s.freeElem procid 3 t.lsave
  let s := if t.killed ∧ t.node = none then s.setPkg { s.pkg with
      entries := s.pkg.entries.map fun e => if e.launch = t.launch ∧ t.launch ≠ 0 then { e with faulted := true } else e }
    else s
  s.countOut t.launch t.node

/-- The executing task ends, at once or when it has drained (R355). -/
def State.finish (s : State) : State := if s.mayEnd then s.endTask else s.park 1 .exit

/-- `exit`, and whatever ends a task as it does: refused in a timed event (R311). -/
def State.exitTask (s : State) : Result := s.notTimed (.ok s.finish)

/-- Is what a parked context waits for an operation in flight, which completes before its task ends (R104, R184, R212, R241)? Any other park
is of an instruction that has still to issue. -/
def Task.inFlight (t : Task) : Wait → Bool
  | .req _ | .accepted _ | .divide _ _ _ | .vlong _ _ _ _ | .relStore _ | .arrive _ _ | .rfpart _ | .depart _ | .spawnReply _ _ | .subReply _ _
  | .unsub _ _ | .loomCmd _ _ | .granary _ _ _ _ _ | .grow _ _ | .publish _ _ _ _ _ | .xcan _ _ | .syscall _ | .exit => true
  | .sendReply _ => !t.sendRefused
  | _ => false

/-- A task is terminated (R343, R389): it ends as `exit` does, its launch and its node fault; an operation in flight completes first. -/
def State.terminate (s : State) (cause : Nat) : State :=
  let t := s.task
  let s := if t.inFlight s.me.wait then s.setTask { t with killed := true, inEvent := false }
    else (s.setTask { t with killed := true, inEvent := false, sendOut := none }).park 1 .exit
  match t.node with
  | some a => s.push (.nodeFault t.launch a cause)
  | none => s

/-! ### Pre-emption and resumption (R81, R359, R392) -/

/-- May a pre-emption take effect on a context now (R392)? -/
def Context.preemptable (x : Context) : Bool :=
  match x.state with
  | .ready => true
  | .parked => match x.wait with
    | .guard _ _ _ => true
    | .claim _ | .saved _ | .loomRecall | .loomRestore => true
    | .sendRoom => true
    | .queueRoom _ => true
    | .sendReply _ => x.task.sendRefused
    | .slotFree => true
    | .drained | .engineRead => x.parkwhy = 6
    | _ => x.parkwhy = 4 || x.parkwhy = 5 || x.parkwhy = 7 || x.parkwhy = 8 || x.parkwhy = 11 || x.parkwhy = 12
  | _ => false

/-- Is a context held back by posts that have not left (R301)? -/
def Context.mayLeave (x : Context) : Bool := x.preemptable && x.task.sendq.isEmpty

/-- The executing context's task is pre-empted and held on its core (R359); its control lines are written back at
once (R81) (DEDUCED, unsafe, log entry 14) (DEDUCED, unsafe, log entry 16). -/
def State.holdTask (s : State) : State :=
  let s := (if s.me.state = .ready then s else s.refull).shelveTokens.leaveRing
  let t := { s.task with
    sendOut := none, sendRefused := false, waits := decide (s.me.wait = .response), holder := some (s.curCore, s.curCtx)
    waitUnit := s.curCtx, saw := (s.coreAt s.curCore).sread }
  let s := s.writeImage s.curCore t (if s.me.state = .parked then 2 else 1) s.me.parkwhy true (List.range 40)
  let c := s.coreAt s.curCore
  (s.setCoreAt s.curCore { c with held := c.held ++ [((s.dieAt (dieOf s.curCore)).elapsed, t)] }).setMe {}

/-- A pre-emption decided for a context takes effect when it may (R392). -/
def State.tryPreempt (s : State) : State :=
  if s.me.mayLeave then s.holdTask else s.setMe { s.me with preempt := true }

/-- A task comes from a core to another (R248, R269): on its die the clock, and the time of what it has read, come with it; from another
die the arrival steps are taken. -/
def State.carryClock (s : State) (core source lclk saw : Nat) : State :=
  if dieOf source ≠ dieOf core then s.arrivalSteps core
  else
    let s := s.raiseClock core lclk
    let c := s.coreAt core
    s.setCoreAt core { c with sread := Nat.max c.sread saw }

/-- A task held on the core `source` resumes in a context (R81, R359): in place at once; elsewhere it first recalls its image (DEDUCED, unsafe,
log entry 14). -/
def State.resumeTask (s : State) (source k : Nat) (t : Task) : State :=
  let core := k / 16
  let away := dieOf source ≠ dieOf core
  let s := if away then (s.returnTokens (dieOf source) t).grant (dieOf source) else s
  let t := if away then { t with tokReq := t.tokReq + t.tokHeld, tokHeld := 0 } else t
  let s := s.setCtxAt k { state := .ready, task := { t.restored with waits := false } }
  let s := (s.within k State.installRing).fileTokens (dieOf core) t
  if t.holder = some (core, k % 16) then s
  else match t.holder with
    | none =>
      let s := s.setTaskAt k { (s.ctxAt k).task with holder := some (core, k % 16) }
      if source = core then s else s.carryClock core source (s.coreAt source).lclk t.saw
    | some (hc, hx) => (s.within k fun s => s.park 4 (.recall hc hx)).push (.imageRecall (coreId core) (ctxId (k % 16)))

/-- IMAGE_RECALL (R81, R248): the holder writes back and drops the task's lines, its stores and split loads done; the lines come
from the image as the task names them (DEDUCED, unsafe, log entry 16). -/
def imageRecall (s : State) : State :=
  match s.me.wait with
  | .recall hc _ =>
    let t := s.task
    let ev := Instr.imageRecall (coreId s.curCore) (ctxId s.curCtx)
    if t.pend ≠ 0 || t.storecnt ≠ 0 then s.push ev
    else if t.holder.isSome then ((s.writeBack hc t).setTask t.dropped).push ev
    else if s.imageWrites (dieOf hc) then s.push ev
    else
      let s := s.carryClock s.curCore hc (s.coreAt hc).lclk t.saw
      (s.setTask { t.restored with holder := some (s.curCore, s.curCtx) }).wakeMe
  | _ => s

/-! ### Work for a FREE context (R341, R351, R352) -/

/-- The records of queues that reserve a context of a core, earlier ones first (R331, R341). -/
def Core.reservedFor (c : Core) (ctx : Nat) : List Nat :=
  let j := c.part.contexts - 1 - ctx
  if ctx < c.part.contexts then (c.claims.filter (·.1 = j)).map (·.2) ++ (c.reserved.find j).toList else []

/-- May tasks start on a core: not draining, not stopped, no weight load on its die (R77, R369, R394)? -/
def State.mayStart (s : State) (core : Nat) : Bool :=
  !(s.coreAt core).drain && !s.coreHalted core && !(s.dieAt (dieOf core)).noStarts

/-- The FREE contexts of a core that no queue reserves, in order of number. -/
def State.freeContexts (s : State) (core : Nat) : List Nat :=
  let c := s.coreAt core
  (List.range c.part.contexts).filter fun i => (s.ctxAt (ctxKey core i)).state = .free && (c.reservedFor i).isEmpty

/-- The group of a task or record has its allocations in place (R347); a swapped group is brought back. -/
def State.groupHere (s : State) (procid : Nat) (grp : Option Nat) : Bool :=
  match grp with
  | none => true
  | some cl => match s.groupAt procid cl with
    | some g => !g.swapped
    | none => true

/-- A record of a spindle starts in a context, taken off the spindle by `take`, which may wait for spindle memory; an empty pool leaves it
in place (R350). -/
def State.startRec (s : State) (k procid : Nat) (r : Rec) (take : State → Got Unit) : State :=
  let e := s.entryOf r.launch
  let skey := match e with | some e => e.skey | none => 0
  let start := fun (s : State) => s.startTask k procid r (s.recMode procid r) skey (r.taskidx.zeroExtend 64) false []
  match take s with
  | .wait s => s
  | .bad _ => s
  | .ok _ t => match start t with
    | .ok t => t
    | .error _ => (match start s with | .ok _ => s | .error e => e)

/-- May a held task resume on a core: it waits for no response (R389), and its logical process, if it has one, is there (R325, R359)? -/
def Task.boundHere (t : Task) (core : Nat) : Bool := !t.waits && (match t.tlp with | some (c, _) => c = core | none => true)

/-- The oldest held task of a process that a context may resume (R359). -/
def State.heldFor (s : State) (core ctx procid : Nat) : Option (Nat × Task) :=
  let c := s.coreAt core
  c.held.find? fun h => h.2.procid.toNat = procid && h.2.part = c.part && h.2.boundHere core &&
    (!h.2.bounded || h.2.home = some (core, c.part.contexts - 1 - ctx))

/-- Takes a held task off its core. -/
def State.unhold (s : State) (core tid : Nat) : State :=
  let c := s.coreAt core
  s.setCoreAt core { c with held := c.held.filter (·.2.tid ≠ tid) }

/-- Work of one process on a core for a FREE context (items 2 and 3 of R351). -/
def State.takeOf (s : State) (core ctx procid : Nat) : Option State :=
  match s.heldFor core ctx procid with
  | some h =>
    if s.groupHere procid h.2.group then some ((s.unhold core h.2.tid).resumeTask core (ctxKey core ctx) h.2)
    else some (s.push (.allocSwapIn procid (h.2.group.getD 0)))
  | none => match s.spindle core procid with
    | [] => none
    | r :: _ =>
      if !s.recVisible r then none
      else if !s.groupHere procid r.grp then some (s.push (.allocSwapIn procid (r.grp.getD 0)))
      else some (s.startRec (ctxKey core ctx) procid r fun s => s.popRec core procid)

/-- The processes with held tasks or records on a core, the preferred one first, then by number (R351). -/
def State.processesOn (s : State) (core : Nat) : List Nat :=
  let c := s.coreAt core
  let ps := ((c.held.map (·.2.procid.toNat)) ++ (c.spindles.filter fun x => !x.2.isEmpty).map (·.1)).eraseDups
  let pref := (s.dieAt (dieOf core)).preferred
  (if pref ∈ ps then [pref] else []) ++ ((List.range 1024).filter fun p => p ∈ ps && p ≠ pref)

/-- The first of some that gives work. -/
def firstSome {α β : Type} (f : α → Option β) : List α → Option β
  | [] => none
  | a :: rest => match f a with
    | some b => some b
    | none => firstSome f rest

/-- A held task of another core: one of the die that has waited a full quantum, or one bound to a logical
process of this core (R325, R359) (DEDUCED, unsafe, log entry 42). -/
def State.heldElsewhere (s : State) (core : Nat) : Option (Nat × Task) :=
  let part := (s.coreAt core).part
  let now := (s.dieAt (dieOf core)).elapsed
  firstSome (fun (c : Nat × Core) =>
    if c.1 = core then none
    else (c.2.held.find? fun h => h.2.part = part && h.2.boundHere core && !h.2.bounded &&
      (h.2.tlp.isSome || (dieOf c.1 = dieOf core && h.1 + Nat.max 1400 s.pkg.quantum ≤ now)) &&
      s.groupHere h.2.procid.toNat h.2.group).map fun h => (c.1, h.2)) s.cores

/-- The element of the shuttle spill area that a record took is free again (R130). -/
def State.unspill (s : State) (t : Task) : State :=
  match t.spillAt with
  | some a => s.freeElem t.procid.toNat 4 (BitVec.ofNat 64 a)
  | none => s

/-- A shuttle is installed in a context (R130). -/
def State.installShuttle (s : State) (k : Nat) (t : Task) : State :=
  let s := s.unspill t
  let t := { t with holder := some (k / 16, k % 16), spillAt := none }
  let s := s.writeImage (k / 16) t 1 0 true [7]
  (((s.setCtxAt k { state := .ready, task := t }).evictLinesFor k).within k State.installRing).fileTokens (dieOf (k / 16)) { t with tokReq := 0 }

/-- A shuttle of another partition is written into its task's image and held (R104, R130). -/
def State.holdShuttle (s : State) (core : Nat) (t : Task) : State :=
  let s := s.unspill t
  let t := { t with holder := none, spillAt := none, absent := [] }
  let s := s.writeImage core t 1 0 false t.part.imageWords
  let c := s.coreAt core
  s.setCoreAt core { c with held := c.held ++ [((s.dieAt (dieOf core)).elapsed, t.dropped)] }

/-- The first work of items 1 to 4 of R351 for a FREE context of a core. -/
def State.takeItems (s : State) (core ctx : Nat) : Option State :=
  let c := s.coreAt core
  match c.inbound with
  | t :: rest => some ((s.setCoreAt core { c with inbound := rest }).installShuttle (ctxKey core ctx) t)
  | [] => firstSome (s.takeOf core ctx) (s.processesOn core)

/-- The first work of R351, but for thefts, for a FREE context of a core. A task held on another core (R359), which the list does not
name, comes after item 4 and before the thefts (DESIGN CHOICE, unsafe, log entry 47). -/
def State.takeWorkFor (s : State) (core ctx : Nat) : Option State :=
  match s.takeItems core ctx with
  | some s => some s
  | none => (s.heldElsewhere core).map fun h => (s.unhold h.1 h.2.tid).resumeTask h.1 (ctxKey core ctx) h.2

/-- The victims of a theft in their order (R352): the cluster by position, then the die by number. -/
def victims (core : Nat) : List Nat :=
  let p := positionOf core
  let near := (List.range 3).map fun i => coreOf (clusterOf core) ((p + 1 + i) % 4)
  let base := dieOf core * 64
  near ++ ((List.range 63).map fun i => base + (core % 64 + 1 + i) % 64).filter fun k => k ∉ near

/-- May a core steal the record (R352)? -/
def Rec.stealable (r : Rec) (thief : Nat) : Bool :=
  !r.pin && (match r.grp with | some cl => cl = clusterOf thief | none => true)

/-- Does the owner itself pop the last record of its spindle now (Table 14 of R374): a FREE context of it whose
first work by R351 is a record or held task of the process? (DEDUCED, unsafe, log entry 44). -/
def State.popsLast (s : State) (victim procid : Nat) : Bool :=
  (s.spindle victim procid).length = 1 && s.mayStart victim && (s.coreAt victim).inbound.isEmpty &&
    (s.freeContexts victim).any fun i =>
      (s.processesOn victim).find? (fun p => (s.takeOf victim i p).isSome) = some procid

/-- Was the spindle empty before the `fork` of this cycle that made its one record (R374)? A theft of the cycle finds it empty. -/
def State.justForked (s : State) (victim procid : Nat) : Bool :=
  (s.spindle victim procid).length = 1 && (s.spindle victim procid).any fun r => r.born = some s.pkg.refCycle

/-- May a thief take a record from the top of a spindle now (DEDUCED, unsafe, log entry 44)? -/
def State.mayTake (s : State) (victim procid thief : Nat) (r : Rec) : Bool :=
  r.stealable thief && s.recVisible r && s.groupHere procid r.grp && !s.popsLast victim procid && !s.justForked victim procid

/-- The top record of a spindle, as its core knows it, if the thief may take it now. -/
def State.topFor (s : State) (victim procid thief : Nat) : Option Rec :=
  (s.spindle victim procid).getLast?.bind fun r => if s.mayTake victim procid thief r then some r else none

/-- The first process, the preferred one first, that some victim holds a record of. -/
def State.theftProcess (s : State) (core : Nat) : Option Nat :=
  let die := dieOf core
  let pref := (s.dieAt die).preferred
  let ps := ((s.cores.filter fun c => dieOf c.1 = die && c.1 ≠ core).flatMap fun c =>
    (c.2.spindles.filter fun x => (s.topFor c.1 x.1 core).isSome).map (·.1)).eraseDups
  if pref ∈ ps then some pref else (List.range 1024).find? (· ∈ ps)

/-- Does the next root of a bounded queue go to a core: has no core of CMASK with a lower number a FREE reserved context of the
queue (R343)? -/
def State.rootTurn (s : State) (core q : Nat) : Bool :=
  (List.range core).all fun k => !s.mayStart k ||
    (List.range (s.coreAt k).part.contexts).all fun i => q ∉ (s.coreAt k).reservedFor i || (s.ctxAt (ctxKey k i)).state ≠ .free ||
      (s.coreAt k).held.any fun h => h.2.bounded && !h.2.waits && h.2.home = some (k, (s.coreAt k).part.contexts - 1 - i) && h.2.part = (s.coreAt k).part

/-- The next root of a bounded queue's admitted entries (R343): its entry and index. -/
def State.boundedRoot (s : State) (q : Nat) : Option Entry :=
  s.pkg.entries.find? fun e => e.queue = q && e.cls = 0 && e.launch ≠ 0 && e.nextRoot < e.spread

/-- A reserved context takes a held task of its own, or the next root of its queue (R343, R359). -/
def State.takeReserved (s : State) (core ctx q : Nat) : Option State :=
  let c := s.coreAt core
  match c.held.find? fun h => h.2.bounded && !h.2.waits && h.2.home = some (core, c.part.contexts - 1 - ctx) && h.2.part = c.part with
  | some h => some ((s.unhold core h.2.tid).resumeTask core (ctxKey core ctx) h.2)
  | none => match if s.rootTurn core q then s.boundedRoot q else none with
    | none => none
    | some e =>
      let r : Rec := { code := e.code, frame := e.frame, mode := e.mode, ls := e.ls, pin := true, launch := e.launch }
      match s.startTask (ctxKey core ctx) e.procid r e.mode e.skey (BitVec.ofNat 64 e.nextRoot) true [] with
      | .error s => some s
      | .ok s => some (s.mapEntry e.id fun e => { e with nextRoot := e.nextRoot + 1 })

/-- The contexts of a core that the preferred process's work pre-empts: where no unreserved context is FREE, those of other processes that
may be pre-empted now, lowest first, one for each piece of work (R358) (DEDUCED, unsafe, log entry 42). -/
def State.preferred (s : State) (core : Nat) : List Nat :=
  let c := s.coreAt core
  let pref := (s.dieAt (dieOf core)).preferred
  let own := fun (t : Task) => t.procid.toNat = pref
  let work := (c.inbound.filter own).length + (c.held.filter fun h => own h.2 && h.2.part = c.part && !h.2.bounded && !h.2.waits).length +
    (s.spindle core pref).length + (c.roots.get pref []).length
  let used := (List.range c.part.contexts).filter fun i =>
    let x := s.ctxAt (ctxKey core i)
    (x.state = .ready || x.state = .parked) && (c.reservedFor i).isEmpty && !own x.task && x.parkwhy ≠ 9 && x.parkwhy ≠ 10
  let marked := (used.filter fun i => (s.ctxAt (ctxKey core i)).preempt).length
  if !(s.freeContexts core).isEmpty then []
  else (used.filter fun i => !(s.ctxAt (ctxKey core i)).preempt && (s.ctxAt (ctxKey core i)).preemptable).take (work - marked)

/-- The preferred process's pre-emptions are decided. -/
def State.preferPreempt (s : State) (core : Nat) : State :=
  (s.preferred core).foldl (fun s i => s.within (ctxKey core i) fun s => (s.setMe { s.me with preempt := true }).push (.preempt (coreId core) (ctxId i))) s

/-- TAKE_WORK (R351): every FREE context of the core takes the first work there is; one that finds none
looks for a theft. -/
def takeWork (core : Nat) (s : State) : State :=
  if !s.mayStart core then s
  else
    let s := (s.coreAt core).roots.foldl (fun s x => s.moreRoots core x.1) s
    let c := s.coreAt core
    let s := (List.range c.part.contexts).foldl (fun s i =>
      if (s.ctxAt (ctxKey core i)).state ≠ .free then s
      else match c.reservedFor i with
        | [] => (s.takeWorkFor core i).getD s
        | qs => (firstSome (s.takeReserved core i) qs).getD s) s
    let s := match s.freeContexts core with
      | i :: _ => match s.theftProcess core with
        | some p => s.push (.theftRequest core i ((victims core).headD 0) p)
        | none => s
      | [] => s
    s.preferPreempt core

/-- THEFT_REQUEST (R352): the victim's spindle answers. -/
def theftRequest (core ctx victim procid : Nat) (s : State) : State :=
  s.push (.theftReply core ctx victim procid (s.topFor victim procid core).isSome)

/-- THEFT_REPLY (R349, R352): the thief starts the record, or asks the next victim. -/
def theftReply (core ctx victim procid : Nat) (granted : Bool) (s : State) : State :=
  let k := ctxKey core ctx
  if (s.ctxAt k).state ≠ .free || !s.mayStart core || ctx ∉ s.freeContexts core then s
  else
    let onward := fun (s : State) => match (victims core).dropWhile (· ≠ victim) with
      | _ :: next :: _ => s.push (.theftRequest core ctx next procid)
      | _ => s
    if !granted || (s.topFor victim procid core).isNone then onward s
    else match s.recAt victim procid ((s.spindle victim procid).length - 1) with
      | .wait s => s.push (.theftReply core ctx victim procid granted)
      | .ok (some r) s =>
        if !s.mayTake victim procid core r then onward s
        else
          let s := s.startRec k procid r fun s => .ok () (s.dropTop victim procid)
          if (s.ctxAt k).state = .free then s else s.bump victim 10 1
      | _ => onward s

/-- PREEMPT (R392): a decided pre-emption takes effect, or waits. -/
def preempt (s : State) : State :=
  if s.me.state = .free then s
  else if s.coreHalted s.curCore then s.push (.preempt (coreId s.curCore) (ctxId s.curCtx))
  else s.tryPreempt

/-! ### Meanings -/

/-- IMAGE_RECALL (R81). -/
def execImageRecall (core : CoreId) (ctx : CtxId) (s : State) : Host.Outcome State Fault Refusal :=
  done (s.within (ctxKey core.toNat ctx.toNat) imageRecall)

/-- TAKE_WORK (R351). -/
def execTakeWork (core : Nat) (s : State) : Host.Outcome State Fault Refusal := done (takeWork core s)

/-- THEFT_REQUEST (R352). -/
def execTheftRequest (core ctx victim procid : Nat) (s : State) : Host.Outcome State Fault Refusal :=
  done (theftRequest core ctx victim procid s)

/-- THEFT_REPLY (R352). -/
def execTheftReply (core ctx victim procid : Nat) (granted : Bool) (s : State) : Host.Outcome State Fault Refusal :=
  done (theftReply core ctx victim procid granted s)

/-- PREEMPT (R392). -/
def execPreempt (core : CoreId) (ctx : CtxId) (s : State) : Host.Outcome State Fault Refusal :=
  done (s.within (ctxKey core.toNat ctx.toNat) preempt)

end Sys2Proof.Machine
end

