-- ==== Sys2Proof/Machine/Control.lean ====
section
/-! DEFINITION. Control transfers (R96 to R99), special registers (R63, R101), trap instructions and the
halt tree's stops (R384, R385, R393 to R395), event counters (R403), `exit` and `yield` (R355, R356). -/

namespace Sys2Proof.Machine

/-! ### Control transfers -/

/-- A control transfer: a target of 0 ends the task (R99). -/
def State.jump (s : State) (target : Word) : Result :=
  if target = 0 then s.exitTask else .ok (s.setTask { s.task with pc := target })

/-- A number of words as a byte offset. -/
def wordOffset (n : Word) : Word := n * 4

/-- `br` (R96). -/
def branch (i : BitVec 21) (s : State) : State :=
  s.instr [] [] [] false fun s => s.jump (s.task.pc + wordOffset (i.signExtend 64))

/-- `call` (R96). -/
def callTo (i : BitVec 21) (s : State) : State :=
  s.instr [] [] [] false (wr := [1]) fun s => (s.setG 1 (s.task.pc + 4)).jump (s.task.pc + wordOffset (i.signExtend 64))

/-- `jmp` (R97). -/
def jumpReg (a : Nat) (syn : List Nat) (imm : Word) (s : State) : State :=
  s.instr [a] [] syn false fun s => s.jump ((s.g a + wordOffset imm) &&& ~~~3#64)

/-- `callr` of `n` words (R97). -/
def callReg (d a n : Nat) (syn : List Nat) (imm : Word) (s : State) : State :=
  s.instr [a] [] syn false (wr := [d]) fun s =>
    let target := (s.g a + wordOffset imm) &&& ~~~3#64
    (s.setG d (s.task.pc + BitVec.ofNat 64 (4 * n))).jump target

/-- `ret` (R97). -/
def returnTo (s : State) : State := s.instr [1] [] [] false fun s => s.jump (s.g 1 &&& ~~~3#64)

/-- `dbnz` of `n` words (R98). -/
def decBranch (d n : Nat) (off : Word) (s : State) : State :=
  s.instr [d] [] [] false fun s =>
    let v := s.g d - 1
    let t := s.setG d v
    if v = 0 then .ok (t.advance n) else t.jump (s.task.pc + wordOffset off)

/-! ### Special registers (Table 22) -/

/-- The bits of a live mask that name registers of the partition (R101). -/
def State.liveBits (s : State) (k : Nat) : Word := (lowMask 256 s.part.gCount >>> (64 * k)).truncate 64

/-- WAYMASK (Table 7 of R125). -/
def Core.waymask (c : Core) : Word := BitVec.ofNat 64 (c.wayCur + 16 * c.wayReq + 256 * c.wayPending.toNat)

/-- The value of a special register at the issue cycle. -/
def State.special (s : State) (n : Nat) : Word :=
  let t := s.task
  match n with
  | 0x000 => t.flags
  | 0x001 => BitVec.ofNat 64 s.cycle
  | 0x002 => t.taskidx
  | 0x003 => BitVec.ofNat 64 s.curCore
  | 0x004 => t.procid.zeroExtend 64
  | 0x005 => BitVec.ofNat 64 s.curCtx
  | 0x006 => BitVec.ofNat 64 s.part.contexts
  | 0x007 => t.skey
  | 0x008 => t.vtime
  | 0x009 => s.gvtOf t.procid.toNat
  | 0x010 => t.liveg.truncate 64 &&& s.liveBits 0
  | 0x011 => (t.liveg >>> 64).truncate 64 &&& s.liveBits 1
  | 0x012 => (t.liveg >>> 128).truncate 64 &&& s.liveBits 2
  | 0x013 => (t.liveg >>> 192).truncate 64 &&& s.liveBits 3
  | 0x014 => t.livev &&& lowMask 64 s.part.vCount
  | 0x020 => (s.coreAt s.curCore).waymask
  | 0x030 => t.epc
  | 0x031 => t.ecause
  | 0x032 => t.einfo
  | _ => 0

/-- Is the special register privileged (Table 22)? -/
def privilegedReg (n : Nat) : Bool := 0x020 ≤ n

/-- `mfs` of `n` words (R101). -/
def readSpecial (d num n : Nat) (s : State) : State :=
  s.instr [] [] [] (privilegedReg num) (wr := [d]) fun s => .ok ((s.setG d (s.special num)).advance n)

/-- One 64-bit part of the live mask of general registers replaced. -/
def Task.setLive (t : Task) (k : Nat) (v : Word) : Task :=
  let m : BitVec 256 := (BitVec.allOnes 64).zeroExtend 256 <<< (64 * k)
  { t with liveg := (t.liveg &&& ~~~m) ||| (v.zeroExtend 256 <<< (64 * k)) }

/-- `wmask`, and a write of WAYMASK that acts as it does (R125); `n` is the number of ways (DEDUCED, unsafe, log entry 36). -/
def State.setWays (s : State) (n words : Nat) : Result :=
  let c := s.coreAt s.curCore
  if n = c.wayCur then .ok ((s.setCoreAt s.curCore { c with wayReq := n, wayPending := false }).advance words)
  else if c.wayCur < n then
    .ok (((s.setCoreAt s.curCore { c with wayReq := n }).park 1 (.grow n words)).push (.waymaskGrowDone s.curCore))
  else .ok (((s.setCoreAt s.curCore { c with wayReq := n, wayPending := true }).push (.waymaskShrink s.curCore)).advance words)

/-- A write of a special register (R101); reserved bits are ignored. -/
def State.writeSpecial (s : State) (num : Nat) (v : Word) (words : Nat) : Result :=
  let t := s.task
  let ok := fun (t : Task) => Except.ok ((s.setTask t).advance words)
  match num with
  | 0x000 => ok { t with flags := v &&& 31 }
  | 0x007 => ok { t with skey := v }
  | 0x010 => ok (t.setLive 0 (v &&& s.liveBits 0))
  | 0x011 => ok (t.setLive 1 (v &&& s.liveBits 1))
  | 0x012 => ok (t.setLive 2 (v &&& s.liveBits 2))
  | 0x013 => ok (t.setLive 3 (v &&& s.liveBits 3))
  | 0x014 => ok { t with livev := v &&& lowMask 64 s.part.vCount }
  | 0x020 =>
    let n := v.toNat / 16 % 16
    if n = 2 ∨ n = 4 ∨ n = 6 ∨ n = 8 then s.setWays n words else .ok (s.advance words)
  | 0x030 => ok { t with epc := v &&& ~~~3#64 }
  | _ => .ok (s.advance words)

/-- `mts` from a register, of `n` words (R101) (DEDUCED, unsafe, log entry 36). -/
def writeSpecialReg (d num n : Nat) (s : State) : State :=
  s.instr [d] [] [] (privilegedReg num) fun s => s.writeSpecial num (s.g d) n

/-- `mts` of a literal (R101). -/
def writeSpecialLit (num : Nat) (v : Word) (s : State) : State :=
  s.instr [] [] [] (privilegedReg num) fun s => s.writeSpecial num v 3

/-! ### Gang stops (R393 to R395) -/

/-- The loom commands of a stopped core that have not started are withdrawn: their contexts issue them again
(R212, R394). -/
def State.withdrawLoom (s : State) (core : Nat) : State :=
  let c := s.coreAt core
  let gone := c.loomq.filter (!·.started)
  gone.foldl (fun s q => s.within (ctxKey core q.ctx) fun s => s.refull.setMe { s.refull.me with prior := .ready, parkwhy := 0, wait := .none })
    (s.setCoreAt core { c with loomq := c.loomq.filter (·.started) })

/-- The divides and the vector long operations in progress on a core write D: a stop waits for them (R90, R159, R394). -/
def State.completeLong (s : State) (core : Nat) : State :=
  let s := ctxRange.foldl (fun s i => divideDone (ctxKey core i) s) s
  (s.coreAt core).vlongs.foldl (fun s _ => vectorLongDone core s) s

/-- One core stops: its contexts keep their prior state, and it writes its halt record (R395). -/
def State.stopCore (s : State) (core cause origin procid : Nat) (einfo : Word) : State :=
  let part := (s.coreAt core).part
  let s := s.completeLong core
  let s := (List.range part.contexts).foldl (fun s i =>
    let k := ctxKey core i
    let x := s.ctxAt k
    if x.state = .stopped then s else s.setCtxAt k { x with prior := x.state, state := .stopped, met := false }) s
  let states := (List.range part.contexts).foldl (fun n i => n + 16 ^ i * (s.ctxAt (ctxKey core i)).prior.code) 0
  let s := s.withdrawLoom core
  let c := s.coreAt core
  s.setCoreAt core { c with halt := some {
    stopcyc := (s.dieAt (dieOf core)).cycle, cause, origin, isOrigin := core = origin, procid
    msent := c.msent, mrecv := c.mrecv, states := BitVec.ofNat 64 states, einfo } }

/-- A gang stop of a domain (R393) (DEDUCED, unsafe, log entry 26). -/
def State.gangStop (s : State) (dom cause origin procid : Nat) (einfo : Word) : State :=
  if s.pkg.halted.getLsbD dom then s
  else
    let s := ((List.range 256).filter fun k => s.domainOf k = dom).foldl (fun s k => s.stopCore k cause origin procid einfo) s
    (s.setPkg { s.pkg with halted := s.pkg.halted ||| (1#8 <<< dom) }).report
      { kind := 9, cause, procid, core := origin, info := BitVec.ofNat 64 (dom + 256 * cause) }

/-! ### Trap instructions (R384, R385) -/

/-- `trap n`. -/
def trapWith (n : Nat) (s : State) : State := s.instr [] [] [] false fun _ => .error (.trap 17 0 0 (BitVec.ofNat 64 n))

/-- `eret`. -/
def exceptionReturn (s : State) : State :=
  s.instr [] [] [] true fun s => (s.setTask { s.task with mode := s.task.ecause.getLsbD 16 }).jump (s.task.epc &&& ~~~3#64)

/-- `halt`. -/
def haltDomain (s : State) : State :=
  s.instr [] [] [] true fun s => .ok ((s.advance 1).gangStop (s.domainOf s.curCore) 2 s.curCore s.task.procid.toNat 0)

/-- `brk`. -/
def breakpoint (s : State) : State :=
  s.instr [] [] [] false fun s =>
    let d := (s.dieAt (dieOf s.curCore)).dbg
    if d.getLsbD 0 && (d >>> 1).truncate 10 = s.task.procid then
      .ok ((s.advance 1).gangStop (s.domainOf s.curCore) 3 s.curCore s.task.procid.toNat 0)
    else .error (.trap 18 0 0 0)

/-! ### Event counters (R403) -/

/-- `ctrrd` of `n` words. -/
def counterValue (d a n : Nat) (syn : List Nat) (s : State) : State :=
  s.instr [a] [] syn false (wr := [d]) fun s =>
    let k := (s.g a).toNat
    let v := if 15 < k then 0 else ((s.coreAt s.curCore).evs.get k {}).value
    .ok ((s.setG d v).advance n)

/-- `ctrcfg` of `n` words. -/
def counterConfig (a b n : Nat) (syn : List Nat) (s : State) : State :=
  s.instr [a, b] [] syn true fun s =>
    let k := (s.g a).toNat
    let v := s.g b
    let ev := v.toNat % 256
    if 15 < k ∨ 11 < ev then .ok (s.advance n)
    else
      let c := s.coreAt s.curCore
      let old := c.evs.get k {}
      let x : EvCounter := { value := if v.getLsbD 9 then 0 else old.value, event := ev, enable := v.getLsbD 8 }
      .ok ((s.setCoreAt s.curCore { c with evs := c.evs.set k x {} }).advance n)

/-! ### `exit` and `yield` (R355, R356) -/

/-- `exit`. -/
def exitInstr (s : State) : State := s.instr [] [] [] false State.exitTask

/-- Is every context of the core busy? -/
def State.noneFree (s : State) : Bool :=
  (List.range s.part.contexts).all fun i => (s.ctxAt (ctxKey s.curCore i)).state ≠ .free

/-- The executing task is held, and its context takes the work of items 1 to 4 of R351 that was there before; none where that gives it no
task (R356). -/
def State.swapTask (s : State) : Option State :=
  let core := s.curCore
  let tid := s.task.tid
  let s := s.holdTask
  let c := s.coreAt core
  let mine := c.held.filter (·.2.tid = tid)
  let s := s.setCoreAt core { c with held := c.held.filter (·.2.tid ≠ tid) }
  (s.takeItems core s.curCtx).bind fun s =>
    if s.me.state = .free then none
    else
      let c := s.coreAt core
      some (s.setCoreAt core { c with held := c.held ++ mine })

/-- `yield`. -/
def yieldInstr (s : State) : State :=
  s.instr [] [] [] false fun s =>
    let core := s.curCore
    let wanted := s.noneFree && s.mayStart core && ((s.coreAt core).reservedFor s.curCtx).isEmpty
    let s := s.advance 1
    match if wanted then s.swapTask else none with
    | none => .ok s
    | some t => .ok (if s.task.sendq.isEmpty then t else s.tryPreempt)

/-! ### Meanings -/

/-- `br` (R96). -/
def execBr (i : BitVec 21) (s : State) : Host.Outcome State Fault Refusal := done (branch i s)

/-- `call` (R96). -/
def execCall (i : BitVec 21) (s : State) : Host.Outcome State Fault Refusal := done (callTo i s)

/-- `jmp` (R97). -/
def execJmp (a i : BitVec 7) (s : State) : Host.Outcome State Fault Refusal := done (jumpReg a.toNat [] (i.signExtend 64) s)

/-- `jmp` (R97). -/
def execJmpX (e : Ext) (s : State) : Host.Outcome State Fault Refusal := done (jumpReg e.a.toNat e.syn e.imm.value s)

/-- `callr` (R97). -/
def execCallr (d a i : BitVec 7) (s : State) : Host.Outcome State Fault Refusal :=
  done (callReg d.toNat a.toNat 1 [] (i.signExtend 64) s)

/-- `callr` (R97). -/
def execCallrX (e : Ext) (s : State) : Host.Outcome State Fault Refusal :=
  done (callReg e.d.toNat e.a.toNat e.words e.syn e.imm.value s)

/-- `ret` (R97). -/
def execRet (s : State) : Host.Outcome State Fault Refusal := done (returnTo s)

/-- `dbnz` (R98). -/
def execDbnz (d : BitVec 7) (i : BitVec 14) (s : State) : Host.Outcome State Fault Refusal :=
  done (decBranch d.toNat 1 (i.signExtend 64) s)

/-- `dbnz` (R98). -/
def execDbnzX (e : Ext) (s : State) : Host.Outcome State Fault Refusal := done (decBranch e.d.toNat e.words e.imm.value s)

/-- `mfs` (R101). -/
def execMfs (d : BitVec 7) (i : BitVec 14) (s : State) : Host.Outcome State Fault Refusal := done (readSpecial d.toNat i.toNat 1 s)

/-- `mfs` (R101). -/
def execMfsX (e : Ext) (s : State) : Host.Outcome State Fault Refusal := done (readSpecial e.d.toNat e.imm.value.toNat e.words s)

/-- `mts` (R101). -/
def execMts (d : BitVec 7) (i : BitVec 14) (s : State) : Host.Outcome State Fault Refusal :=
  done (writeSpecialReg d.toNat i.toNat 1 s)

/-- `mts` (R101). -/
def execMtsX (x : MtsForm) (s : State) : Host.Outcome State Fault Refusal :=
  done (match x with
    | .lit n v => writeSpecialLit n.toNat v s
    | .ext d n => writeSpecialReg d.toNat n.toNat 3 s)

/-- `exit` (R355). -/
def execExit (s : State) : Host.Outcome State Fault Refusal := done (exitInstr s)

/-- `yield` (R356). -/
def execYield (s : State) : Host.Outcome State Fault Refusal := done (yieldInstr s)

/-- `trap` (R385). -/
def execTrap (i : BitVec 14) (s : State) : Host.Outcome State Fault Refusal := done (trapWith i.toNat s)

/-- `eret` (R385). -/
def execEret (s : State) : Host.Outcome State Fault Refusal := done (exceptionReturn s)

/-- `halt` (R385). -/
def execHalt (s : State) : Host.Outcome State Fault Refusal := done (haltDomain s)

/-- `brk` (R385). -/
def execBrk (s : State) : Host.Outcome State Fault Refusal := done (breakpoint s)

/-- `wmask` (R125). -/
def execWmask (i : BitVec 14) (s : State) : Host.Outcome State Fault Refusal :=
  done (s.instr [] [] [] true fun s => s.notTimed (s.setWays i.toNat 1))

/-- `ctrrd` (R403). -/
def execCtrrd (d a : BitVec 7) (s : State) : Host.Outcome State Fault Refusal := done (counterValue d.toNat a.toNat 1 [] s)

/-- `ctrrd` (R403). -/
def execCtrrdX (e : Ext) (s : State) : Host.Outcome State Fault Refusal :=
  done (counterValue e.d.toNat e.a.toNat e.words e.syn s)

/-- `ctrcfg` (R403). -/
def execCtrcfg (a b : BitVec 7) (s : State) : Host.Outcome State Fault Refusal := done (counterConfig a.toNat b.toNat 1 [] s)

/-- `ctrcfg` (R403). -/
def execCtrcfgX (e : Ext) (s : State) : Host.Outcome State Fault Refusal :=
  done (counterConfig e.a.toNat e.b.toNat e.words e.syn s)

end Sys2Proof.Machine
end

