-- ==== Sys2Proof/Machine/Cluster.lean ====
section
/-! DEFINITION. What a core's contexts share with their cluster and with other cores: the granary (R122 to
R124), the way mask's changes (R125), migration (R127 to R131), the barrier (R133 to R136), `rfpart` (R77)
and `spawn` (R290, R291). -/

namespace Sys2Proof.Machine

/-! ### The granary -/

/-- The class of a size (R122). -/
def blockClass (size : Nat) : Nat := ((List.range 13).find? fun k => size ≤ 16 * 2 ^ k).getD 12

/-- The key of a free list of a die. -/
def granaryKey (procid k : Nat) : Nat := procid * 16 + k

/-- A block of a die's free list; which one is free. -/
def State.takeBlock (s : State) (die procid k : Nat) : Option (Nat × State) :=
  let d := s.dieAt die
  match d.granary.get (granaryKey procid k) [] with
  | [] => none
  | l =>
    let p := s.pick l.length
    let off := l.getD p.1 0
    some (off, p.2.setDieAt die { d with granary := d.granary.set (granaryKey procid k) (l.filter (· ≠ off)) [] })

/-- A die's free list takes blocks. -/
def State.giveBlocks (s : State) (die procid k : Nat) (bs : List Nat) : State :=
  let d := s.dieAt die
  s.setDieAt die { d with granary := d.granary.set (granaryKey procid k) (d.granary.get (granaryKey procid k) [] ++ bs) [] }

/-- A die's free list of a class is filled from a new arena, which reads as zero (R122). -/
def State.refill (s : State) (core procid k : Nat) : Option State :=
  (s.takeElem procid 7).map fun (x : Nat × State) =>
    let base := x.2.elemAt procid 7 x.1
    let s := (List.range 1024).foldl (fun s i => (s.engineWrite core procid (base + BitVec.ofNat 64 (64 * i)) 64 0).getD s) x.2
    s.giveBlocks (dieOf core) procid k ((List.range (2 ^ (12 - k))).map fun i => base.toNat + 16 * 2 ^ k * i)

/-- The block that an `alloc` of class `k` takes (R122). -/
def State.findBlock (s : State) (core procid k : Nat) : Option (Nat × State) :=
  let d := dieOf core
  match s.takeBlock d procid k with
  | some r => some r
  | none => match s.refill core procid k with
    | some s => s.takeBlock d procid k
    | none => firstSome (fun i => s.takeBlock ((d + i) % 4) procid k) [1, 2, 3]

/-- The live blocks of a process replaced. -/
def State.setBlocks (s : State) (procid : Nat) (bs : Store Nat) : State :=
  s.setPkg { s.pkg with procs := s.pkg.procs.put procid { s.process procid with blocks := bs } }

/-- `alloc` (R122): D is written at the granary's reply. -/
def allocBlock (d a words : Nat) (syn : List Nat) (s : State) : State :=
  s.instr [a] [] syn false (wr := [d]) fun s => s.notTimed <|
    let size := (s.g a).toNat
    if size = 0 ∨ 65536 < size then .ok ((s.setG d 0).advance words)
    else .ok ((s.park 1 (.granary d size false 0 words)).push (.granaryReply (coreId s.curCore) (ctxId s.curCtx)))

/-- `free` (R123), a release at device scope (R124). -/
def freeBlock (a words : Nat) (syn : List Nat) (s : State) : State :=
  s.instr [a] [] syn false fun s => s.notTimed <|
    if s.g a = 0 then .ok (s.advance words)
    else s.afterDrain true <|
      .ok ((s.park 1 (.granary 0 0 true (s.g a) words)).push (.granaryReply (coreId s.curCore) (ctxId s.curCtx)))

/-- GRANARY_REPLY (R122, R123). -/
def granaryReply (s : State) : State :=
  let procid := s.task.procid.toNat
  match s.me.wait with
  | .granary d size false _ words =>
    let s := s.wakeMe
    match s.findBlock s.curCore procid (blockClass size) with
    | some (off, s) =>
      let s := s.setBlocks procid ((s.process procid).blocks.put off (blockClass size))
      ((s.acquireAll s.curCore 4 (s.dieTime s.curCore)).setG d (BitVec.ofNat 64 off)).advance words
    | none => (s.setG d 0).advance words
  | .granary _ _ true addr words =>
    match (s.process procid).blocks.find addr.toNat with
    | some k =>
      let s := s.wakeMe.setBlocks procid ((s.process procid).blocks.drop addr.toNat)
      (s.giveBlocks (dieOf s.curCore) procid k [addr.toNat]).advance words
    | none => s.late (.trap 16 0 0 addr)
  | _ => s

/-! ### The way mask (R125) -/

/-- The scratchpad grows to `n` ways: the cache lines and pins of those ways are dropped, those of pre-empted tasks too, fills on their
way are used once (R252), and the ways are zero. The lines of an L1 have no place of their own here: all of them are dropped, and of the pins a free
choice. -/
def State.grow (s : State) (core n : Nat) : State :=
  let c := s.coreAt core
  if n ≤ c.wayCur then s
  else
    let s := ((s.setCoreAt core { c with l1 := [], wayCur := n, wayPending := false }).zeroScratch core (c.wayCur * 131072)
      ((n - c.wayCur) * 131072)).overtakeCore core
    let owners := (s.tasks.filter fun t => !t.pins.isEmpty && t.holder.any fun h => h.1 = core)
    owners.foldl (fun s t => t.pins.foldl (fun s p =>
      let r := s.pick 2
      if r.1 = 1 then r.2.mapTask t.tid fun t => { t with pins := t.pins.filter (· ≠ p) } else r.2) s) s

/-- WAYMASK_GROW_DONE (R125): the issuers of a grow go on (DEDUCED, safe, log entry 23). -/
def waymaskGrowDone (core : Nat) (s : State) : State :=
  let s := ctxRange.foldl (fun s i =>
    match (s.ctxAt (ctxKey core i)).wait with
    | .grow n words => (s.grow core n).within (ctxKey core i) fun s => s.wakeMe.advance words
    | _ => s) s
  let c := s.coreAt core
  if c.wayReq < c.wayCur ∧ !c.wayPending then (s.setCoreAt core { c with wayPending := true }).push (.waymaskShrink core) else s

/-- Does a copy write into the core's SRAM at or above an offset? -/
def State.copyAbove (s : State) (core off : Nat) : Bool := (s.coreAt core).copies.any fun x => off < x.hi

/-- WAYMASK_SHRINK (R125): the shrink takes effect once nothing lies above the new split (DEDUCED, unsafe, log entry 36). -/
def waymaskShrink (core : Nat) (s : State) : State :=
  let c := s.coreAt core
  if !c.wayPending || c.wayCur ≤ c.wayReq then s
  else
    let top := c.wayReq * 131072
    if s.copyAbove core top || c.allocs.any fun a => top < a.2.base + a.2.size then s.push (.waymaskShrink core)
    else (s.setCoreAt core { c with wayCur := c.wayReq, wayPending := false }).zeroScratch core top ((c.wayCur - c.wayReq) * 131072)

/-! ### Migration (R127 to R131) -/

/-- The checks and the destination of `go` (R127, Table 8). An offset of peer-package memory, whose line has no home slice here, sends
the thread to the core that R13 and R14 give for its address; one of a register page leaves it where it is (DEDUCED, unsafe, log entry 40). -/
def State.goTarget (s : State) (sel : BitVec 16) (ea : Word) : Except Stop Nat :=
  let off := ea.toNat
  let beside := fun (lim : Nat) =>
    if lim ≤ off then .error (.trap 4 0 sel ea)
    else match s.check .load sel ea 1 1 with
      | .error e => .error e
      | .ok (.mem pa) => .ok (sliceCore pa)
      | .ok _ => .ok s.curCore
  match spaceOf s.curCore sel.toNat with
  | none => .error (.trap 4 0 sel ea)
  | some .shared => beside (2 ^ 57)
  | some .priv => beside (2 ^ 48)
  | some (.scratch c) => .ok c
  | some (.weight d) => if 2 ^ 31 ≤ off then .error (.trap 4 0 sel ea) else .ok (d * 64 + s.curCore % 64)
  | some .mailbox => if 0x10000 ≤ off ∨ off % 4 ≠ 0 then .error (.trap 4 0 sel ea) else .ok (counterOf off).1

/-- `go` (R127): PC is moved past it, and the thread departs (DEDUCED, unsafe, log entry 32) (DEDUCED, unsafe, log entry 40). -/
def goTo (m : MemArg) (s : State) : Result :=
  s.notTimed <|
    let sel := s.selOf m
    match s.goTarget sel m.ea with
    | .error e => .error e
    | .ok dest =>
      let s := s.noteWalk s.curCore s.task.procid.toNat sel m.ea
      if dest = s.curCore then .ok (s.advance m.words)
      else match s.migration sel m.ea dest with
        | .migrate d => .ok (((s.advance m.words).park 10 (.depart d)).push (.shuttleDepart (coreId s.curCore) (ctxId s.curCtx)))
        | e => .error e

/-- The registers of a shuttle as they are at the destination (R129, R130). -/
def Task.shuttled (t : Task) : Task :=
  { t with
    annul := 0, oplog := [], logptr := 0, pins := [], absent := [], wild := []
    g := t.g.filter fun (x : Nat × Word) => t.liveg.getLsbD x.1
    v := t.v.filter fun (x : Nat × Vec) => t.livev.getLsbD x.1
    full := (t.full &&& t.liveg) ||| (~~~t.liveg &&& ~~~t.pend) }

/-- May the executing context's shuttle leave (R128)? -/
def State.mayDepart (s : State) : Bool :=
  let c := s.coreAt s.curCore
  s.task.storecnt = 0 && s.curCtx ∉ c.vlongs && s.task.sendq.isEmpty && !s.coreHalted s.curCore &&
    (s.task.pend = 0 || (c.forwards.firstFree 0 16).isSome)

/-- The executing context's thread leaves for a core (R128, R131); FWD names the entry it takes (R129). -/
def State.depart (s : State) (dest : Nat) : State :=
  let core := s.curCore
  let c := s.coreAt core
  let s := if s.task.pend = 0 then s.setTask { s.task with fwd := 0 }
    else match c.forwards.firstFree 0 16 with
      | some i => (s.setTask { s.task with fwd := core + 256 * i + 4096 }).setCoreAt core
          { c with forwards := c.forwards.put i { ctx := s.curCtx, tid := s.task.tid, mask := s.task.pend, dest } }
      | none => s
  let s := if dieOf dest = dieOf core then s else
    let t := s.task
    ((s.returnTokens (dieOf core) t).setTask { t with tokReq := t.tokReq + t.tokHeld, tokHeld := 0 }).grant (dieOf core)
  let s := s.leaveRing
  let t := { s.task.shuttled with saw := c.sread }
  let s := s.setMe {}
  ((s.setPkg { s.pkg with shuttles := s.pkg.shuttles ++ [(t, dest, c.lclk, dieOf core)] }).push (.shuttleArrive t.tid)).push (.takeWork core)

/-- The lines of the registers that the executing context's shuttle carries, of those that it does not hold. -/
def State.shuttleMissing (s : State) : List Nat := let r := s.task.liveRegs; s.task.missing r.1 r.2

/-- SHUTTLE_DEPART (R128), the lines of the registers it carries filled first (R81). -/
def shuttleDepart (s : State) : State :=
  let ev := Instr.shuttleDepart (coreId s.curCore) (ctxId s.curCtx)
  match s.me.wait with
  | .depart dest => match s.shuttleMissing with
    | l :: _ => (match s.fillRegisters l with
      | .ok _ s => s.push ev
      | .wait s => s.push ev
      | .bad _ => s.push ev)
    | [] => if s.mayDepart then s.depart dest else s.push ev
  | _ => s

/-- A shuttle takes one of the four places of the migration inbound queue, or an element of its process's spill area, where its
record is written; none where neither is free (R30, R130) (DEDUCED, unsafe, log entry 40). -/
def State.queueShuttle (s : State) (core : Nat) (t : Task) : Except State State :=
  let put := fun (s : State) (t : Task) => let c := s.coreAt core; s.setCoreAt core { c with inbound := c.inbound ++ [t] }
  if ((s.coreAt core).inbound.filter (·.spillAt = none)).length < 4 then .ok (put s t)
  else
    let procid := t.procid.toNat
    match s.takeElem procid 4 with
    | none => .error (s.poolEmpty procid 4 core)
    | some (i, s) =>
      let base := s.elemAt procid 4 i
      let s := (t.shuttleWords.mapIdx fun j w => (j, w)).foldl (fun s x =>
        (s.engineWrite core procid (base + BitVec.ofNat 64 (8 * x.1)) 8 x.2).getD s) s
      .ok (put s { t with spillAt := some base.toNat })

/-- SHUTTLE_ARRIVE (R130): the inbound queue or its spill, or the image for another partition; then the clock. -/
def shuttleArrive (tid : Nat) (s : State) : State :=
  match s.pkg.shuttles.find? fun h => h.1.tid = tid with
  | none => s
  | some (t, dest, lclk, die) =>
    if (s.dieAt (dieOf dest)).wrapHold then s.push (.shuttleArrive tid) else
    match if t.part = (s.coreAt dest).part then s.queueShuttle dest t else .ok (s.holdShuttle dest t) with
    | .error s => s.push (.shuttleArrive tid)
    | .ok s =>
      let s := s.setPkg { s.pkg with shuttles := s.pkg.shuttles.filter fun h => h.1.tid ≠ tid }
      let s := s.carryClock dest (die * 64) lclk t.saw
      let s := if die = dieOf dest then s else s.fileTokens (dieOf dest) t
      s.push (.takeWork dest)

/-! ### The cluster barrier (R133 to R136) -/

/-- A barrier counter of the executing core's cluster. -/
def State.barrier (s : State) (k : Nat) : Barrier := s.pkg.barriers.get (clusterOf s.curCore * 8 + k) {}

/-- The counter replaced. -/
def State.setBarrier (s : State) (k : Nat) (b : Barrier) : State :=
  s.setPkg { s.pkg with barriers := s.pkg.barriers.set (clusterOf s.curCore * 8 + k) b {} }

/-- The barrier fault (R133). -/
def barrierFault (k : Nat) : Stop := .trap 15 0 0 (BitVec.ofNat 64 k)

/-- The task belongs to a group of the cluster that it runs on, or takes a barrier fault (R133). -/
def State.inGroup (s : State) (k : Nat) (r : Result) : Result :=
  s.notTimed (require (s.task.group = some (clusterOf s.curCore)) (barrierFault k) r)

/-- The counter's owner is the task's group (R135). -/
def State.ownBarrier (s : State) (k : Nat) (r : Result) : Result :=
  s.inGroup k (require ((s.barrier k).owner = some s.task.procid.toNat) (barrierFault k) r)

/-- `barw` completes in the executing context (R135): an acquire at cluster scope (R136). -/
def State.passBarrier (s : State) (k : Nat) : State :=
  let s := s.acquireAll s.curCore 2 (s.dieTime s.curCore)
  let t := s.task
  (s.setTask { t with barph := t.barph.set k (t.barph.get k 0 &&& 0x7FFF) 0 }).advance 1

/-- The contexts of the executing core's cluster that wait on counter `k` for a phase now past. -/
def State.releaseWaiters (s : State) (k : Nat) : State :=
  let phase := (s.barrier k).phase
  (clusterCores (clusterOf s.curCore)).foldl (fun s c => ctxRange.foldl (fun s i =>
    let x := s.ctxAt (ctxKey c i)
    match x.wait with
    | .barrier j =>
      if j = k ∧ x.task.procid = s.task.procid ∧ (x.task.barph.get k 0).truncate 15 ≠ phase then
        s.within (ctxKey c i) fun s => s.wakeMe.passBarrier k
      else s
    | _ => s) s) s

/-- The phase of a counter completes (R135). -/
def State.completePhase (s : State) (k : Nat) : State :=
  let b := s.barrier k
  (s.setBarrier k { b with phase := b.phase + 1, count := 0 }).releaseWaiters k

/-- `barset` (R134). -/
def barrierSet (a k : Nat) (s : State) : State :=
  s.instr [a] [] [] false fun s => s.inGroup k <|
    let p := (s.g a).toNat
    let b := s.barrier k
    if p = 0 ∨ 64 < p then .error (barrierFault k)
    else if b.owner = none then
      .ok ((s.setBarrier k { owner := some s.task.procid.toNat, p, count := 0, phase := 0 }).advance 1)
    else if b.owner ≠ some s.task.procid.toNat then .error (barrierFault k)
    else if b.p = p then .ok (s.advance 1)
    else
      let s := s.setBarrier k { b with p }
      .ok ((if p ≤ b.count then s.completePhase k else s).advance 1)

/-- `bara` (R135, R136): it parks, and takes effect at the end of the cycle, after every `barset` of the cycle. -/
def barrierArrive (k : Nat) (s : State) : State :=
  s.instr [] [] [] false fun s => s.inGroup k (.ok (s.park 1 (.arrive k false)))

/-- The effect of the executing context's `bara` (R135): the owner's check, the drain, the arrival. -/
def State.arriveNow (s : State) : State :=
  match s.me.wait with
  | .arrive k checked =>
    if !checked && (s.barrier k).owner ≠ some s.task.procid.toNat then s.late (barrierFault k)
    else if !s.drained then (s.flushUpdates s.task.tid).setMe { (s.flushUpdates s.task.tid).me with wait := .arrive k true }
    else
      let s := s.wakeMe
      let b := s.barrier k
      let t := s.task
      let s := s.setTask { t with barph := t.barph.set k (0x8000 ||| b.phase.zeroExtend 16) 0 }
      let s := s.setBarrier k { b with count := b.count + 1 }
      (if b.count + 1 = b.p then s.completePhase k else s).advance 1
  | _ => s

/-- The arrivals of a cycle take effect in core-position order (R135). -/
def State.arrivals (s : State) : State :=
  s.ctxs.foldl (fun s (x : Nat × Context) => match x.2.wait with
    | .arrive _ _ => s.within x.1 State.arriveNow
    | _ => s) s

/-- `barw` (R135). -/
def barrierWait (k : Nat) (s : State) : State :=
  s.instr [] [] [] false fun s => s.ownBarrier k <|
    let b := s.barrier k
    let t := s.task
    let w := t.barph.get k 0
    let w := if w.getLsbD 15 then w else 0x8000 ||| b.phase.zeroExtend 16
    let s := s.setTask { t with barph := t.barph.set k w 0 }
    .ok (if w.truncate 15 ≠ b.phase then s.passBarrier k else s.park 7 (.barrier k))

/-! ### `rfpart` (R77) -/

/-- `rfpart`. -/
def repartition (p : Part) (s : State) : State :=
  s.instr [] [] [] true fun s => s.notTimed <|
    let c := s.coreAt s.curCore
    if p = c.part ∨ p.contexts < c.reserved.length then s.exitTask
    else .ok (((s.setCoreAt s.curCore { c with drain := true }).park 9 (.rfpart p)).push (.rfpartRepartition (coreId s.curCore)))

/-- The drain of `rfpart` for the issuer in the executing context (R77). -/
def State.coreDrained (s : State) : Bool :=
  let c := s.coreAt s.curCore
  (ctxRange.all fun i => i = s.curCtx || (s.ctxAt (ctxKey s.curCore i)).state = .free) &&
    c.loomq.isEmpty && c.vlongs.isEmpty && c.copies.isEmpty && c.splits.isEmpty && c.wbuf.isEmpty &&
    c.unacked.isEmpty && s.mayEnd && !s.coreHalted s.curCore

/-- The lines that a core's register files hold for held tasks are written back, and every HOLDER that names the core is cleared
(R77). -/
def State.clearHolders (s : State) (core : Nat) : State :=
  (s.tasks.filter fun t => t.holder.any fun h => h.1 = core).foldl (fun s t =>
    (s.writeBack core t).mapTask t.tid Task.dropped) s

/-- The reserved contexts of a core stay the highest ones of a smaller partition, and the tasks of each keep their place (R77, R341). -/
def State.compactReserved (s : State) (core : Nat) (p : Part) : State :=
  let c := s.coreAt core
  let used := c.reserved.map (·.1) ++ c.claims.map (·.1)
  if used.all (· < p.contexts) then s
  else
    let place := fun (j : Nat) => Nat.min (p.contexts - 1) (if (c.reserved.find j).isSome then (c.reserved.filter (·.1 < j)).length
      else c.reserved.length + ((used.eraseDups.filter fun i => (c.reserved.find i).isNone && i < j)).length)
    s.setCoreAt core { c with
      reserved := c.reserved.map fun x => (place x.1, x.2)
      claims := c.claims.map fun x => (place x.1, x.2)
      held := c.held.map fun h => (h.1, { h.2 with home := h.2.home.map fun x => (x.1, place x.2) }) }

/-- The queued shuttles that another partition finds on a core are held (R104, R130). -/
def State.holdMismatched (s : State) (core : Nat) : State :=
  let c := s.coreAt core
  (c.inbound.filter (·.part ≠ c.part)).foldl (fun s t => s.holdShuttle core t)
    (s.setCoreAt core { c with inbound := c.inbound.filter (·.part = c.part) })

/-- RFPART_REPARTITION (R77): the drain is over, or is looked at again. -/
def rfpartRepartition (core : Nat) (s : State) : State :=
  let at_ := fun (i : Nat) => match (s.ctxAt (ctxKey core i)).wait with | .rfpart p => some (i, p) | _ => none
  match firstSome at_ ctxRange with
  | none => s
  | some (i, p) =>
    s.within (ctxKey core i) fun s =>
      if !s.coreDrained then (s.flushUpdates s.task.tid).push (.rfpartRepartition (coreId core))
      else
        let s := s.endTask.clearHolders core
        let s := (ctxRange.foldl (fun s j => s.setCtxAt (ctxKey core j) {}) s).compactReserved core p
        ((s.setCoreAt core { s.coreAt core with part := p, drain := false }).holdMismatched core).push (.takeWork core)

/-! ### `spawn` (R290, R291) -/

/-- `spawn` and `spawn.grp` (R290) (DEDUCED, unsafe, log entry 28). -/
def spawnTask (grp : Bool) (e : Ext) (s : State) : State :=
  s.instr ([e.a.toNat, e.b.toNat] ++ (List.range 4).map (e.c.toNat + ·)) [] e.syn false (wr := [e.d.toNat]) fun s => s.notTimed <|
    let core := (s.g e.a.toNat).toNat
    let code := s.g e.b.toNat
    if 255 < core then .error (.trap 11 1 0 0)
    else if code &&& 3 ≠ 0 then .error (.trap 11 8 0 0)
    else if 8 ≤ s.task.sendq.length then .error (.retry 6 .sendRoom)
    else s.afterDrain true <|
      let t := s.task
      let size := match t.group with | some cl => (s.groupAt t.procid.toNat cl).map (·.size) | none => none
      let p : SpawnPkt := {
        core, grp, code, regs := (List.range 4).map fun i => s.g (e.c.toNat + i), frame := s.g 2, taskidx := t.taskidx
        procid := t.procid.toNat, mode := t.mode, skey := t.skey, ls := t.lsave ≠ 0, size, launch := t.launch, node := t.node
        bounded := t.bounded, src := s.curCore, srcCtx := s.curCtx, tid := t.tid }
      .ok ((s.park 1 (.spawnReply e.d.toNat e.words)).enqueue (.packets core 1 (.spawnArrive p)))

/-- The FREE context that a spawned child may take: one that no queued shuttle is to take (R291, R302) (DEDUCED, unsafe, log entry 28). -/
def State.spawnSlot (s : State) (core : Nat) : Option Nat :=
  if s.mayStart core then (s.freeContexts core)[(s.coreAt core).inbound.length]?.bind fun _ => (s.freeContexts core).head? else none

/-- The child starts in a context, or the answer 1 or 2 (R290). -/
def State.startChild (s : State) (p : SpawnPkt) (ctx : Nat) : Nat × State :=
  let cluster := clusterOf p.core
  let r : Rec := { code := p.code, frame := p.frame, mode := p.mode, ls := p.ls, launch := p.launch, node := p.node
                   grp := if p.grp then some cluster else none }
  match s.startTask (ctxKey p.core ctx) p.procid r p.mode p.skey p.taskidx p.bounded p.regs with
  | .error s => (1, s)
  | .ok t =>
    if p.grp then
      match p.size.bind fun n => t.joinGroup p.procid cluster n with
      | some t => (0, t.countIn p.launch p.node)
      | none => (2, s)
    else (0, t.countIn p.launch p.node)

/-- The contexts whose tasks are all that is left of a group and may end now: their exits come before a `spawn.grp` that arrives (R374). -/
def State.lastExits (s : State) (procid cluster : Nat) : List Nat :=
  let ks := (s.ctxs.filter fun x => x.2.state = .parked && x.2.wait = .exit && x.2.task.procid.toNat = procid && x.2.task.group = some cluster &&
    ({ s with cur := x.1 }).mayEnd).map (·.1)
  match s.groupAt procid cluster with
  | some g => if g.tasks = ks.length then ks else []
  | none => []

/-- SPAWN_ARRIVE (R290, R291): a `spawn.grp` child waits until a swapped group is back in place (R347) (DEDUCED, unsafe, log entry 28). -/
def spawnArrive (p : SpawnPkt) (s : State) : State :=
  let s := if p.grp then (s.lastExits p.procid (clusterOf p.core)).foldl (fun s k => s.within k State.endTask) s else s
  let grp := if p.grp then some (clusterOf p.core) else none
  if (s.spawnSlot p.core).isSome && !s.groupHere p.procid grp then
    (s.pushOnce (.allocSwapIn p.procid (clusterOf p.core))).push (.spawnArrive p)
  else
    let r := match s.spawnSlot p.core with
      | none => (1, s)
      | some ctx => s.startChild p ctx
    r.2.push (.spawnReply (coreId p.src) (ctxId p.srcCtx) p.tid r.1)

/-- SPAWN_REPLY (R290). -/
def spawnReply (tid value : Nat) (s : State) : State :=
  match s.me.wait with
  | .spawnReply d words => if s.task.tid = tid then (s.wakeMe.setG d (BitVec.ofNat 64 value)).advance words else s
  | _ => s

/-! ### Meanings -/

/-- `alloc` (R122). -/
def execAlloc (d a : BitVec 7) (s : State) : Host.Outcome State Fault Refusal := done (allocBlock d.toNat a.toNat 1 [] s)

/-- `alloc` (R122). -/
def execAllocX (e : Ext) (s : State) : Host.Outcome State Fault Refusal := done (allocBlock e.d.toNat e.a.toNat e.words e.syn s)

/-- `free` (R123). -/
def execFree (a : BitVec 7) (s : State) : Host.Outcome State Fault Refusal := done (freeBlock a.toNat 1 [] s)

/-- `free` (R123). -/
def execFreeX (e : Ext) (s : State) : Host.Outcome State Fault Refusal := done (freeBlock e.a.toNat e.words e.syn s)

/-- GRANARY_REPLY (R122). -/
def execGranaryReply (core : CoreId) (ctx : CtxId) (s : State) : Host.Outcome State Fault Refusal :=
  done (s.within (ctxKey core.toNat ctx.toNat) granaryReply)

/-- WAYMASK_GROW_DONE (R125). -/
def execWaymaskGrowDone (core : Nat) (s : State) : Host.Outcome State Fault Refusal := done (waymaskGrowDone core s)

/-- WAYMASK_SHRINK (R125). -/
def execWaymaskShrink (core : Nat) (s : State) : Host.Outcome State Fault Refusal := done (waymaskShrink core s)

/-- `go` (R127). -/
def execGo (a : BitVec 7) (sp : BitVec 2) (i : BitVec 5) (s : State) : Host.Outcome State Fault Refusal :=
  done (s.instr [a.toNat] [] [] false fun s => goTo (s.baseArg a sp i 64) s)

/-- `go` (R127). -/
def execGoX (e : Ext) (s : State) : Host.Outcome State Fault Refusal :=
  done (s.instr [e.a.toNat, e.b.toNat] [] e.syn false fun s => goTo (s.extArg e) s)

/-- SHUTTLE_DEPART (R128). -/
def execShuttleDepart (core : CoreId) (ctx : CtxId) (s : State) : Host.Outcome State Fault Refusal :=
  done (s.within (ctxKey core.toNat ctx.toNat) shuttleDepart)

/-- SHUTTLE_ARRIVE (R130). -/
def execShuttleArrive (tid : Nat) (s : State) : Host.Outcome State Fault Refusal := done (shuttleArrive tid s)

/-- `barset` (R134). -/
def execBarset (a i : BitVec 7) (s : State) : Host.Outcome State Fault Refusal := done (barrierSet a.toNat i.toNat s)

/-- `bara` (R135). -/
def execBara (i : BitVec 14) (s : State) : Host.Outcome State Fault Refusal := done (barrierArrive i.toNat s)

/-- `barw` (R135). -/
def execBarw (i : BitVec 14) (s : State) : Host.Outcome State Fault Refusal := done (barrierWait i.toNat s)

/-- `rfpart` (R77). -/
def execRfpart (i : BitVec 14) (s : State) : Host.Outcome State Fault Refusal := done (repartition (Part.ofCode i.toNat) s)

/-- RFPART_REPARTITION (R77). -/
def execRfpartRepartition (core : CoreId) (s : State) : Host.Outcome State Fault Refusal := done (rfpartRepartition core.toNat s)

/-- `spawn` (R290). -/
def execSpawn (e : Ext) (s : State) : Host.Outcome State Fault Refusal := done (spawnTask false e s)

/-- `spawn.grp` (R290). -/
def execSpawnGrp (e : Ext) (s : State) : Host.Outcome State Fault Refusal := done (spawnTask true e s)

/-- SPAWN_ARRIVE (R291). -/
def execSpawnArrive (p : SpawnPkt) (s : State) : Host.Outcome State Fault Refusal := done (spawnArrive p s)

/-- SPAWN_REPLY (R290). -/
def execSpawnReply (core : CoreId) (ctx : CtxId) (tid value : Nat) (s : State) : Host.Outcome State Fault Refusal :=
  done (s.within (ctxKey core.toNat ctx.toNat) (spawnReply tid value))

end Sys2Proof.Machine
end

