-- ==== Sys2Proof/Machine/Boot.lean ====
section
/-! DEFINITION. The boot controller (R433 to R436): the layout of the boot image (Table 4), its two signatures with the standards that
R434 names (SHA-2 of FIPS 180-4, ECDSA P-384 of FIPS 186-5, LMS of SP 800-208), its configuration block (Table 5), and the identity. -/

namespace Sys2Proof.Machine

/-! ### SHA-2 (FIPS 180-4) (PRESUMED, unsafe, log entry 48) -/

/-- The parameters of a hash of the SHA-2 family: word width, rounds, and the shifts of its functions. -/
structure Sha2 where
  w : Nat
  rounds : Nat
  big0 : Nat × Nat × Nat
  big1 : Nat × Nat × Nat
  small0 : Nat × Nat × Nat
  small1 : Nat × Nat × Nat
  deriving DecidableEq, Repr

/-- SHA-256. -/
def sha256Params : Sha2 := ⟨32, 64, (2, 13, 22), (6, 11, 25), (7, 18, 3), (17, 19, 10)⟩

/-- SHA-384, on the words of SHA-512. -/
def sha384Params : Sha2 := ⟨64, 80, (28, 34, 39), (14, 18, 41), (1, 8, 7), (19, 61, 6)⟩

/-- The first prime from `n` up, within `fuel` numbers. -/
def nextPrime : (fuel n : Nat) → Nat
  | 0, n => n
  | f + 1, n => if (List.range n).all fun d => d < 2 || n % d ≠ 0 then n else nextPrime f (n + 1)

/-- The first `k` primes from `n` up. -/
def primesFrom : (k n : Nat) → List Nat
  | 0, _ => []
  | k + 1, n => let p := nextPrime 100 n; p :: primesFrom k (p + 1)

/-- The largest number below 2^bits whose `e`-th power is at most `n`, from the top bit down. -/
def rootBelow (e n : Nat) : (bits r : Nat) → Nat
  | 0, r => r
  | b + 1, r => rootBelow e n b (if (r + 2 ^ b) ^ e ≤ n then r + 2 ^ b else r)

/-- The first `w` bits of the fraction of the `e`-th root of a number. -/
def rootFraction (e w n : Nat) : Nat := rootBelow e (n * 2 ^ (e * w)) (w + 6) 0 % 2 ^ w

/-- The round constants: from the cube roots of the first primes. -/
def Sha2.constants (h : Sha2) : List Nat := (primesFrom h.rounds 2).map (rootFraction 3 h.w)

/-- A rotation to the right. -/
def Sha2.rotate (h : Sha2) (x n : Nat) : Nat := x / 2 ^ n + x % 2 ^ n * 2 ^ (h.w - n)

/-- A function of three rotations. -/
def Sha2.big (h : Sha2) (r : Nat × Nat × Nat) (x : Nat) : Nat := h.rotate x r.1 ^^^ h.rotate x r.2.1 ^^^ h.rotate x r.2.2

/-- A function of two rotations and a shift. -/
def Sha2.small (h : Sha2) (r : Nat × Nat × Nat) (x : Nat) : Nat := h.rotate x r.1 ^^^ h.rotate x r.2.1 ^^^ x / 2 ^ r.2.2

/-- The message schedule, latest word first, with `n` words still to be made. -/
def Sha2.schedule (h : Sha2) : (n : Nat) → List Nat → List Nat
  | 0, ws => ws
  | n + 1, ws => h.schedule n
    ((h.small h.small1 (ws.getD 1 0) + ws.getD 6 0 + h.small h.small0 (ws.getD 14 0) + ws.getD 15 0) % 2 ^ h.w :: ws)

/-- One round on the eight working words, with a word of the schedule and its constant. -/
def Sha2.round (h : Sha2) (v : List Nat) (kw : Nat × Nat) : List Nat :=
  match v with
  | [a, b, c, d, e, f, g, i] =>
    let ch := (e &&& f) ^^^ ((2 ^ h.w - 1 - e) &&& g)
    let t1 := i + h.big h.big1 e + ch + kw.1 + kw.2
    let t2 := h.big h.big0 a + ((a &&& b) ^^^ (a &&& c) ^^^ (b &&& c))
    [(t1 + t2) % 2 ^ h.w, a, b, c, (d + t1) % 2 ^ h.w, e, f, g]
  | v => v

/-- A block of sixteen words, first word first, taken into the hash value. -/
def Sha2.block (h : Sha2) (ks v ws : List Nat) : List Nat :=
  let r := (ks.zip (h.schedule (h.rounds - 16) ws.reverse).reverse).foldl h.round v
  v.zipWith (fun a b => (a + b) % 2 ^ h.w) r

/-- The number whose octets are given, the first most significant. -/
def bigEndian (bs : List Byte) : Nat := bs.foldl (fun n b => 256 * n + b.toNat) 0

/-- The `n` octets of a number, the most significant first. -/
def octets (n v : Nat) : List Byte := (List.range n).map fun i => BitVec.ofNat 8 (v / 256 ^ (n - 1 - i))

/-- The words of a block. -/
def Sha2.words (h : Sha2) (bs : List Byte) : List Nat :=
  (List.range 16).map fun i => bigEndian ((bs.drop (i * (h.w / 8))).take (h.w / 8))

/-- The blocks of a padded message taken in, one after the other. -/
def Sha2.blocks (h : Sha2) (ks : List Nat) : (fuel : Nat) → List Nat → List Byte → List Nat
  | 0, v, _ => v
  | n + 1, v, bs => if bs.isEmpty then v else h.blocks ks n (h.block ks v (h.words bs)) (bs.drop (2 * h.w))

/-- A message with its padding. -/
def Sha2.pad (h : Sha2) (m : List Byte) : List Byte :=
  let size := 2 * h.w
  let tail := h.w / 4
  m ++ 0x80#8 :: List.replicate ((2 * size - (m.length + 1 + tail) % size) % size) 0#8 ++ octets tail (8 * m.length)

/-- The hash of a message, from an initial value, in octets. -/
def Sha2.hash (h : Sha2) (initial : List Nat) (m : List Byte) : List Byte :=
  let p := h.pad m
  (h.blocks h.constants p.length initial p).flatMap (octets (h.w / 8))

/-- SHA-256. -/
def sha256 (m : List Byte) : List Byte := sha256Params.hash ((primesFrom 8 2).map (rootFraction 2 32)) m

/-- SHA-384: the first 48 octets, from the square roots of the ninth to the sixteenth prime. -/
def sha384 (m : List Byte) : List Byte := (sha384Params.hash ((primesFrom 8 23).map (rootFraction 2 64)) m).take 48

/-! ### ECDSA on the curve P-384 (FIPS 186-5) (PRESUMED, unsafe, log entry 48) -/

/-- The prime of the field. -/
def p384 : Nat := 2 ^ 384 - 2 ^ 128 - 2 ^ 96 + 2 ^ 32 - 1

/-- The order of the base point. -/
def p384Order : Nat :=
  0xFFFFFFFFFFFFFFFFFFFFFFFFFFFFFFFFFFFFFFFFFFFFFFFFC7634D81F4372DDF581A0DB248B0A77AECEC196ACCC52973

/-- The coefficient b of y² = x³ − 3x + b. -/
def p384B : Nat := 0xB3312FA7E23EE7E4988E056BE3F82D19181D9C6EFE8141120314088F5013875AC656398D8A2ED19D2A85C8EDD3EC2AEF

/-- A point of the curve; none for the point at infinity. -/
abbrev CurvePoint := Option (Nat × Nat)

/-- The base point. -/
def p384Base : CurvePoint :=
  some (0xAA87CA22BE8B05378EB1C71EF320AD746E1D3B628BA79B9859F741E082542A385502F25DBF55296C3A545E3872760AB7,
    0x3617DE4A96262C6F5D9E98BF9292DC29F8F41DBD289A147CE9DA3113B5F0B8C00A60B1CE1D7E819D7A431D7C90EA0E5F)

/-- A power modulo `m`, over the low bits of the exponent. -/
def powMod (m : Nat) : (bits b e : Nat) → Nat
  | 0, _, _ => 1 % m
  | n + 1, b, e => let r := powMod m n (b * b % m) (e / 2); if e % 2 = 1 then r * b % m else r

/-- The inverse modulo a prime of 384 bits. -/
def inverseMod (m a : Nat) : Nat := powMod m 384 (a % m) (m - 2)

/-- The sum of two points. -/
def CurvePoint.add (p q : CurvePoint) : CurvePoint :=
  match p, q with
  | none, q => q
  | p, none => p
  | some (x, y), some (u, v) =>
    if x = u ∧ (y + v) % p384 = 0 then none
    else
      let slope := if x = u then (3 * x * x + p384 - 3) * inverseMod p384 (2 * y) else (v + p384 - y) * inverseMod p384 (u + p384 - x)
      let r := (slope % p384 * (slope % p384) + 2 * p384 - x - u) % p384
      some (r, (slope % p384 * (x + p384 - r) + p384 - y) % p384)

/-- A multiple of a point, over the low bits of the factor. -/
def CurvePoint.times : (bits : Nat) → CurvePoint → Nat → CurvePoint
  | 0, _, _ => none
  | n + 1, p, k => let r := CurvePoint.times n (p.add p) (k / 2); if k % 2 = 1 then r.add p else r

/-- The point of an uncompressed public key of 97 octets, if it is on the curve. -/
def keyPoint (key : List Byte) : Option (Nat × Nat) :=
  let x := bigEndian ((key.drop 1).take 48)
  let y := bigEndian ((key.drop 49).take 48)
  if key.length = 97 ∧ key.headD 0 = 4 ∧ x < p384 ∧ y < p384 ∧ y * y % p384 = (x * x * x + (p384 - 3) * x + p384B) % p384 then some (x, y) else none

/-- Does an ECDSA signature of 96 octets, r then s, verify over a message (R434)? -/
def ecdsaVerifies (key sig message : List Byte) : Bool :=
  let r := bigEndian (sig.take 48)
  let s := bigEndian ((sig.drop 48).take 48)
  match keyPoint key with
  | none => false
  | some q =>
    if r = 0 ∨ s = 0 ∨ p384Order ≤ r ∨ p384Order ≤ s then false
    else
      let w := inverseMod p384Order s
      let z := bigEndian (sha384 message)
      match CurvePoint.add (p384Base.times 384 (z * w % p384Order)) (CurvePoint.times 384 (some q) (r * w % p384Order)) with
      | none => false
      | some x => x.1 % p384Order = r

/-! ### LMS_SHA256_M32_H20 with LMOTS_SHA256_N32_W8 (SP 800-208) (PRESUMED, unsafe, log entry 48) -/

/-- The steps `j` to 254 of a Winternitz chain: I and q in `start`. -/
def otsChain (start : List Byte) (i : Nat) : (n j : Nat) → List Byte → List Byte
  | 0, _, x => x
  | n + 1, j, x => otsChain start i n (j + 1) (sha256 (start ++ octets 2 i ++ octets 1 j ++ x))

/-- The hash and the checksum of a message, whose octets are the 34 chain positions. -/
def otsPositions (digest : List Byte) : List Byte :=
  digest ++ octets 2 ((digest.map fun b => 255 - b.toNat).foldl (· + ·) 0)

/-- The candidate of the one-time public key that a signature of 1,124 octets gives. -/
def otsKey (start sig message : List Byte) : List Byte :=
  let digest := sha256 (start ++ octets 2 0x8181 ++ (sig.drop 4).take 32 ++ message)
  let ends := (List.range 34).zip (otsPositions digest) |>.map fun x =>
    otsChain start x.1 (255 - x.2.toNat) x.2.toNat ((sig.drop (36 + 32 * x.1)).take 32)
  sha256 (start ++ octets 2 0x8080 ++ ends.flatten)

/-- The root of the tree that a node and its authentication path give. -/
def lmsRoot (ident path : List Byte) : (h : Nat) → (level node : Nat) → List Byte → List Byte
  | 0, _, _, x => x
  | n + 1, level, node, x =>
    let other := (path.drop (32 * level)).take 32
    let pair := if node % 2 = 1 then other ++ x else x ++ other
    lmsRoot ident path n (level + 1) (node / 2) (sha256 (ident ++ octets 4 (node / 2) ++ octets 2 0x8383 ++ pair))

/-- Does an LMS signature of 1,772 octets verify over a message, under a public key of 56 (R434)? -/
def lmsVerifies (key sig message : List Byte) : Bool :=
  let q := bigEndian (sig.take 4)
  let ots := (sig.drop 4).take 1124
  let ident := (key.drop 8).take 16
  let leaf := sha256 (ident ++ octets 4 (2 ^ 20 + q) ++ octets 2 0x8282 ++ otsKey (ident ++ octets 4 q) ots message)
  key.length = 56 && sig.length = 1772 && bigEndian (key.take 4) = 8 && bigEndian ((key.drop 4).take 4) = 4 &&
    bigEndian ((sig.drop 1128).take 4) = 8 && bigEndian (ots.take 4) = 4 && q < 2 ^ 20 &&
    lmsRoot ident (sig.drop 1132) 20 0 (2 ^ 20 + q) leaf = key.drop 24

/-! ### The boot image (Table 4 of R434) -/

/-- The `n` bytes of the image at an offset. -/
def imageBytes (flash : List Byte) (off n : Nat) : List Byte := (flash.drop off).take n

/-- A little-endian number of the image. -/
def imageNumber (flash : List Byte) (off n : Nat) : Nat := bigEndian (imageBytes flash off n).reverse

/-- SIGOFF. -/
def sigOff (flash : List Byte) : Nat := imageNumber flash 4 4

/-- The header: MAGIC, and a SIGOFF behind the keys whose signatures the flash holds (DEDUCED, unsafe, log entry 20). -/
def headerFits (flash : List Byte) : Bool :=
  imageNumber flash 0 4 = 0x4B34424F && sigOff flash % 64 = 0 && 0x480 + 97 + 56 ≤ sigOff flash && sigOff flash + 96 + 1772 ≤ flash.length

/-- The signed bytes. -/
def signedBytes (flash : List Byte) : List Byte := flash.take (sigOff flash)

/-- The carried ECDSA public key is the vendor's, and its signature verifies. -/
def ecdsaHolds (flash : List Byte) : Bool :=
  let key := imageBytes flash 0x480 97
  bigEndian (sha384 key) = Config.ecdsaDigest.toNat && ecdsaVerifies key (imageBytes flash (sigOff flash) 96) (signedBytes flash)

/-- The carried LMS public key is the vendor's, and its signature verifies. -/
def lmsHolds (flash : List Byte) : Bool :=
  let key := imageBytes flash (0x480 + 97) 56
  bigEndian (sha384 key) = Config.lmsDigest.toNat && lmsVerifies key (imageBytes flash (sigOff flash + 96) 1772) (signedBytes flash)

/-- The service cores' firmware. -/
def imageFirmware (flash : List Byte) : List Byte := (signedBytes flash).drop (0x480 + 97 + 56)

/-- The configuration block, as one number. -/
def configBlock (flash : List Byte) : Nat := imageNumber flash 0x40 64

/-- The device secret that the fuzzy extractor yields, if the helper data belong to this device (R436). -/
def deviceSecret (flash : List Byte) (sram : BitVec 16384) : Option (BitVec 256) := Config.fuzzyExtract (imageBytes flash 0x80 1024) sram

/-- The identity's public key of a private key, X then Y in octets, the octet at the lowest offset lowest (R436) (DEDUCED, unsafe, log entry 48). -/
def publicKey (d : BitVec 384) : BitVec 768 :=
  match p384Base.times 384 d.toNat with
  | none => 0
  | some (x, y) => BitVec.ofNat 768 (bigEndian (octets 48 x ++ octets 48 y).reverse)

end Sys2Proof.Machine
end

