-- ==== Sys2Proof/Machine/Graph.lean ====
section
/-! DEFINITION. Graphs (R360 to R368): node records in the process's shared space, firing, tokens,
completion, faults and cones; `ndone` (R365); the completion of copies (R233) and the aperture of a copy
channel (R219, R226). A walker performs each event as one step; an event that meets a line held by a host, or
a page that is not mapped, is performed later. -/

namespace Sys2Proof.Machine

/-! ### The I/O die's and the walkers' accesses -/

/-- The place of `n` bytes of a process's shared space, for an agent outside the cores; a walker too looks in the I/O die's translation
cache (DESIGN CHOICE, unsafe, log entry 9). -/
def State.sharedPlace (s : State) (procid : Nat) (u : Use) (off : Word) (n : Nat) : Option Place :=
  (s.locate ⟨256, procid, true⟩ u 0 off n).toOption

/-- The `n` bytes at an offset of a process's shared space; 0 where nothing is mapped. -/
def State.readShared (s : State) (procid : Nat) (off : Word) (n : Nat) : Nat :=
  match s.sharedPlace procid .load off n with
  | some p => s.readPlace p n
  | none => 0

/-- Writes `n` bytes at an offset of a process's shared space, for the walker of a die (R271). -/
def State.writeShared (s : State) (dn procid : Nat) (off : Word) (n v : Nat) : State :=
  match s.sharedPlace procid .store off n with
  | some (.mem pa) => if s.backed pa then s.dieWrite dn pa n v else s
  | some p => s.ioWrite p n v
  | none => s

/-! ### Graphs and nodes (R360, R361) -/

/-- The fields of a graph that its walkers use, and the die whose agent acts on it. -/
structure GraphAt where
  procid : Nat
  die : Nat := 0
  /-- Address of the descriptor. -/
  addr : Word
  nodes : Word
  count : Nat
  deriving DecidableEq, Repr

/-- The graph of a descriptor. -/
def State.graphAt (s : State) (procid : Nat) (addr : Word) : GraphAt :=
  { procid, addr, nodes := BitVec.ofNat 64 (s.readShared procid addr 8), count := s.readShared procid (addr + 8) 4 }

/-- The graph of an entry. -/
def State.entryGraph (s : State) (e : Entry) : GraphAt := s.graphAt e.procid e.graph

/-- The address of node `k`. -/
def GraphAt.node (g : GraphAt) (k : Nat) : Word := g.nodes + BitVec.ofNat 64 (64 * k)

/-- The index of a node. -/
def GraphAt.index (g : GraphAt) (a : Word) : Nat := (a - g.nodes).toNat / 64

/-- Is an address that of a node of the graph? -/
def GraphAt.has (g : GraphAt) (a : Word) : Bool := (a - g.nodes).toNat % 64 = 0 && g.index a < g.count

/-- A 32-bit or 64-bit field of a node. -/
def State.nodeField (s : State) (procid : Nat) (a : Word) (off n : Nat) : Nat := s.readShared procid (a + BitVec.ofNat 64 off) n

/-- NCTL of a node. -/
def State.nctl (s : State) (procid : Nat) (a : Word) : Nat := s.nodeField procid a 0 4

/-- STATE of an NCTL. -/
def nodeState (w : Nat) : Nat := w / 16 % 8

/-- KIND of an NCTL. -/
def nodeKind (w : Nat) : Nat := w % 4

/-- CX of an NCTL. -/
def nodeCx (w : Nat) : Bool := w / 128 % 2 = 1

/-- NCTL with STATE replaced. -/
def State.setNodeState (s : State) (dn procid : Nat) (a : Word) (st : Nat) : State :=
  let w := s.nctl procid a
  s.writeShared dn procid a 4 (w - 16 * nodeState w + 16 * st)

/-- The home die of node `k` (R361). -/
def State.nodeHome (s : State) (g : GraphAt) (a : Word) : Nat :=
  let w := s.nctl g.procid a
  if w / 1024 % 2 = 1 then w / 2048 % 4 else g.index a % 4

/-- STATUS's counts: DONE, RUNNING, CANCELLED, FAULTED, in their places. -/
def statusDone : Nat := 1

/-- One in RUNNING. -/
def statusRunning : Nat := 2 ^ 16

/-- One in CANCELLED. -/
def statusCancelled : Nat := 2 ^ 32

/-- One in FAULTED. -/
def statusFaulted : Nat := 2 ^ 48

/-- STATUS moves by one atomic add (R360): `plus` rises and `minus` falls. -/
def State.moveStatus (s : State) (g : GraphAt) (plus minus : Nat) : State :=
  let a := g.addr + 0x10
  s.writeShared g.die g.procid a 8 ((s.readShared g.procid a 8 + plus + 2 ^ 64 - minus) % 2 ^ 64)

/-- The counts of STATUS. -/
def State.status (s : State) (g : GraphAt) : Nat × Nat × Nat × Nat :=
  let w := s.readShared g.procid (g.addr + 0x10) 8
  (w % 2 ^ 16, w / 2 ^ 16 % 2 ^ 16, w / 2 ^ 32 % 2 ^ 16, w / 2 ^ 48)

/-- Is the graph complete (R368)? -/
def State.graphComplete (s : State) (g : GraphAt) : Bool :=
  let (d, _, c, f) := s.status g
  d + c + f = g.count

/-- The successor indices of a node, in SUCC order. -/
def State.successors (s : State) (procid : Nat) (a : Word) : List Nat :=
  let succ := BitVec.ofNat 64 (s.nodeField procid a 0x18 8)
  (List.range (s.nodeField procid a 0x20 4)).map fun i => s.readShared procid (succ + BitVec.ofNat 64 (4 * i)) 4

/-- The offsets that an event on a node may touch: the descriptor, the node, its successor list, and the nodes of the graph. -/
def State.graphOffsets (s : State) (g : GraphAt) (a : Word) : List Word :=
  let succ := BitVec.ofNat 64 (s.nodeField g.procid a 0x18 8)
  let n := s.nodeField g.procid a 0x20 4
  [g.addr, a] ++ ((List.range n).map fun i => succ + BitVec.ofNat 64 (4 * i)) ++ (List.range g.count).map g.node

/-- Their places; none where a page is not mapped. -/
def State.graphPlaces (s : State) (g : GraphAt) (a : Word) : Option (List Place) :=
  (s.graphOffsets g a).foldl (fun (o : Option (List Place)) x => o.bind fun l => (s.sharedPlace g.procid .store x 4).map fun p => l ++ [p]) (some [])

/-- The tables that the walks for some offsets read come from the hosts (R257). -/
def State.supplyShared (s : State) (procid : Nat) (offs : List Word) : State := offs.foldl (fun s x => s.supplyWalk 256 procid 0 x) s

/-- The live work of a node. -/
def State.workOf (s : State) (launch : Nat) (a : Word) : Option NodeWork :=
  s.pkg.nodes.find? fun n => n.launch = launch && n.addr = a

/-- The live work of a node replaced. -/
def State.setWork (s : State) (w : NodeWork) : State :=
  let rest := s.pkg.nodes.filter fun n => !(n.launch = w.launch && n.addr = w.addr)
  s.setPkg { s.pkg with nodes := rest ++ [w] }

/-- The live work of a node dropped. -/
def State.dropWork (s : State) (launch : Nat) (a : Word) : State :=
  s.setPkg { s.pkg with nodes := s.pkg.nodes.filter fun n => !(n.launch = launch && n.addr = a) }

/-! ### Completion and tokens (R363, R364) -/

/-- One token, to the node of an index. -/
def State.token (s : State) (g : GraphAt) (launch idx : Nat) : State :=
  let a := g.node idx
  let preds := s.nodeField g.procid a 4 4
  if g.count ≤ idx ∨ preds = 0 then
    let e := g.addr + 0x18
    s.writeShared g.die g.procid e 4 ((s.readShared g.procid e 4 + 1) % 2 ^ 32)
  else
    let s := s.writeShared g.die g.procid (a + 4) 4 (preds - 1)
    if preds = 1 then s.pushOnce (.nodeFire launch a) else s

/-- The entry of a graph may be complete. -/
def State.checkGraph (s : State) (g : GraphAt) (launch : Nat) : State :=
  match s.entryOf launch with
  | some e => if s.graphComplete g then s.pushOnce (.entryComplete e.id) else s
  | none => s

/-- A node's walker owes further accesses, after those it owes already. -/
def State.owe (s : State) (g : GraphAt) (launch : Nat) (a : Word) (ops : List GraphOp) : State :=
  let w := (s.workOf launch a).getD { launch, addr := a, index := g.index a, procid := g.procid, live := 0 }
  (s.setWork { w with todo := w.todo.filter (· ≠ .drop) ++ ops }).pushOnce (.nodeComplete launch a)

/-- What follows when a node becomes DONE: its move in STATUS, and its tokens in SUCC order (R363, R364). -/
def State.doneOps (s : State) (g : GraphAt) (a : Word) : List GraphOp :=
  .status statusDone statusRunning :: (s.successors g.procid a).map .token ++ [.drop]

/-- A RUNNING node completes: the compare-and-swap of NCTL; its walker owes the rest (R364) (DESIGN CHOICE, unsafe, log entry 30). -/
def State.completeNode (s : State) (g : GraphAt) (launch : Nat) (a : Word) : State :=
  let w := s.nctl g.procid a
  if nodeState w ≠ 1 then s
  else if nodeCx w then (s.setNodeState g.die g.procid a 3).owe g launch a [.status statusCancelled statusRunning, .drop]
  else (s.setNodeState g.die g.procid a 2).owe g launch a (s.doneOps g a)

/-! ### Firing (R362) -/

/-- The records of a compute node's tasks are placed on its home die as PLACE 1 gives (R345, R350, R362). -/
def State.placeNode (s : State) (e : Entry) (g : GraphAt) (a : Word) : State :=
  let n := s.nodeField g.procid a 0x24 4
  let die := s.nodeHome g a
  let r : Rec := { code := BitVec.ofNat 64 (s.nodeField g.procid a 8 8), frame := BitVec.ofNat 64 (s.nodeField g.procid a 0x10 8)
                   mode := e.mode, ls := e.ls, launch := e.launch, g4 := BitVec.ofNat 64 (g.index a), g5 := a, node := some a }
  let s := s.setWork { launch := e.launch, addr := a, index := g.index a, procid := g.procid, live := n }
  let s := s.mapEntry e.id fun e => { e with live := e.live + n }
  let core := fun (j : Nat) => coreOf (die * 16 + 16 * j / n) (j % 4)
  ((List.range n).map core).eraseDups.foldl (fun s c =>
    (s.placeRoots c g.procid (((List.range n).filter (core · = c)).map fun j => { r with taskidx := BitVec.ofNat 48 j })).pushOnce (.takeWork c)) s

/-- A copy node's command is offered to its engine (R227): entered, to be offered again, or a failed check
with its cause; a template in a line with an uncorrectable error has CAUSE 6 (DESIGN CHOICE, unsafe, log entry 35). -/
def State.offerCopy (s : State) (e : Entry) (g : GraphAt) (a : Word) : State :=
  let x := s.nodeField g.procid a 0x24 4
  let core := s.nodeHome g a * 64 + x % 64
  let ch := x / 256 % 8
  let c := s.coreAt core
  let y := c.chan ch
  let template := BitVec.ofNat 64 (s.nodeField g.procid a 8 8)
  let w : NodeWork := { launch := e.launch, addr := a, index := g.index a, procid := g.procid, live := 0 }
  if (y.v ∧ y.procid ≠ g.procid) ∨ 4 ≤ (c.copies.filter (!·.running)).length then (s.setWork w).push (.nodeFire e.launch a)
  else
    let s := s.setWork { w with live := 1 }
    match s.readRecord core g.procid 0 template false with
    | none => s.push (.nodeFault e.launch a 10)
    | some (.wait s) => (s.setWork { w with live := 0 }).push (.nodeFire e.launch a)
    | some (.bad _) => s.push (.nodeFault e.launch a 6)
    | some (.ok r s) =>
      let t := Template.ofRecord r
      if t.refused then s.push (.nodeFault e.launch a 3)
      else
        let t := t.resolve (BitVec.ofNat 64 (s.nodeField g.procid a 0x10 8))
        match s.startCheck core g.procid t with
        | some cause => s.push (.nodeFault e.launch a cause)
        | none =>
          let s := s.enterCopy core ch g.procid 0 t [] (some (e.launch, a))
          let c := s.coreAt core
          let y := c.chan ch
          s.setCoreAt core { c with chans := c.chans.put ch (if y.v then y else { y with v := true, pin := false, procid := g.procid }) }

/-- The work of a RUNNING node begins; a loom-only node waits for `ndone`. -/
def State.beginNode (s : State) (e : Entry) (g : GraphAt) (a : Word) : State :=
  match nodeKind (s.nctl g.procid a) with
  | 0 => s.placeNode e g a
  | 1 => s.offerCopy e g a
  | _ => s.dropWork e.launch a

/-- Are all clusters of a die stopped (R394)? -/
def State.dieHalted (s : State) (die : Nat) : Bool := (List.range 64).all fun i => s.coreHalted (die * 64 + i)

/-- A node of the same walker with a lower index that is to fire, or one whose firing is under way (R362). -/
def State.earlierFire (s : State) (g : GraphAt) (launch : Nat) (a : Word) : Bool :=
  (s.pkg.nodes.any fun n => n.launch = launch && GraphOp.start ∈ n.todo && s.nodeHome g n.addr = s.nodeHome g a) ||
  s.agenda.any fun e => match e with
    | .nodeFire l b => l = launch && g.has b && g.index b < g.index a && s.nodeHome g b = s.nodeHome g a &&
        (s.workOf l b).isNone
    | _ => false

/-- The walker's compare-and-swap of NCTL, on a node whose PREDS is 0 (R362); a copy node that waits for its
engine is offered again (R227) (DESIGN CHOICE, unsafe, log entry 30). -/
def State.fireNode (s : State) (e : Entry) (g : GraphAt) (a : Word) : State :=
  let w := s.nctl g.procid a
  match nodeState w with
  | 0 =>
    if s.nodeField g.procid a 4 4 ≠ 0 then s
    else (s.setNodeState g.die g.procid a 1).owe g e.launch a [.status statusRunning 0, .start]
  | 5 =>
    if s.nodeField g.procid a 4 4 ≠ 0 then s
    else (s.setNodeState g.die g.procid a 2).owe g e.launch a (.status statusRunning 0 :: s.doneOps g a)
  | 1 => match s.workOf e.launch a with
    | some n => if nodeKind w = 1 ∧ n.live = 0 ∧ n.todo = [] then s.offerCopy e g a else s
    | none => s
  | _ => s

/-- The other dies that are home to some of the lines. -/
def otherHomes (dn : Nat) (ps : List Place) : List Nat :=
  (List.range 4).filter fun h => h ≠ dn && ps.any fun p => match p with | .mem pa => homeDie pa = h | _ => false

/-- Do the stamps allow the atomics of a die on the lines, and their replies (R255)? -/
def State.stampsAllow (s : State) (dn : Nat) (ps : List Place) : Bool :=
  (otherHomes dn ps).all fun h => s.writeAllowed dn h && s.replyAllowed dn h

/-- The replies to a die's atomics on the lines are delivered (R255). -/
def State.takeReplies (s : State) (dn : Nat) (ps : List Place) : State := (otherHomes dn ps).foldl (fun s h => s.learnFrom dn h) s

/-- Performs a walker's event on a node of a launched graph, as atomics of an agent of the node's home die (R271), or lets it be
performed later: a line held by a host, a clock wrap of the die (R250), stamps that do not allow it yet (R255). -/
def State.walker (s : State) (launch : Nat) (a : Word) (ev : Instr) (f : Entry → GraphAt → State → State) : State :=
  match s.entryOf launch with
  | none => s
  | some e =>
    let g := s.entryGraph e
    let g := { g with die := s.nodeHome g a }
    if !g.has a then s
    else match s.graphPlaces g a with
      | none => (s.supplyShared g.procid (s.graphOffsets g a)).push ev
      | some ps => match s.snoop true ps with
        | some s => s.push ev
        | none => match s.wrapWait g.die with
          | some s => s.push ev
          | none => if s.stampsAllow g.die ps then f e g (s.takeReplies g.die ps) else s.push ev

/-- NODE_FIRE (R362) (DESIGN CHOICE, unsafe, log entry 30). -/
def nodeFire (launch : Nat) (a : Word) (s : State) : State :=
  s.walker launch a (.nodeFire launch a) fun e g s =>
    if e.gateWait || s.dieHalted (s.nodeHome g a) || s.earlierFire g launch a then s.push (.nodeFire launch a)
    else s.fireNode e g a

/-- One visit of a cone by the walker of node `a`: a compare-and-swap of NCTL, and the add to STATUS owed next (R367). -/
def State.visitCone (s : State) (g : GraphAt) (w : NodeWork) (idx : Nat) : State :=
  let b := g.node idx
  let v := s.nctl g.procid b
  let cancel := (s.setNodeState g.die g.procid b 3).setWork { w with todo := .status statusCancelled 0 :: w.todo }
  match nodeState v with
  | 0 => cancel
  | 5 => cancel
  | 1 => if nodeCx v then s else s.writeShared g.die g.procid b 4 (v + 128)
  | _ => s

/-- The first access that a walker owes for a node is performed (R360, R362, R363, R367). -/
def State.pay (s : State) (e : Entry) (g : GraphAt) (w : NodeWork) (op : GraphOp) : State :=
  let s := s.setWork w
  match op with
  | .status plus minus => (s.moveStatus g plus minus).checkGraph g w.launch
  | .token idx => s.token g w.launch idx
  | .visit idx => s.visitCone g w idx
  | .start => s.beginNode e g w.addr
  | .drop => (s.dropWork w.launch w.addr).checkGraph g w.launch

/-- A node's walker goes on while it owes an access, or the end of a node that faulted. -/
def State.walkOn (s : State) (launch : Nat) (a : Word) : State :=
  match s.workOf launch a with
  | some w => if w.todo ≠ [] ∨ (w.live = 0 ∧ w.faulted) then s.pushOnce (.nodeComplete launch a) else s
  | none => s

/-- NODE_COMPLETE (R360 to R367): the next access that the node's walker owes; with none owed, a node whose tasks have ended completes,
or fires again (DESIGN CHOICE, unsafe, log entry 30). -/
def nodeComplete (launch : Nat) (a : Word) (s : State) : State :=
  s.walker launch a (.nodeComplete launch a) fun e g s =>
    match s.workOf launch a with
    | none => s
    | some w => match w.todo with
      | op :: rest => (s.pay e g { w with todo := rest } op).walkOn launch a
      | [] =>
        if w.live ≠ 0 then s
        else if w.retry then (s.setWork { w with retry := false }).beginNode e g a
        else if w.faulted then (s.dropWork launch a).checkGraph g launch
        else s.completeNode g launch a

/-! ### Faults (R366, R367) -/

/-- The nodes of a cone in the order of their visits, from those of one level on: each node once, in index order within a level (R367). -/
def State.cone (s : State) (g : GraphAt) : (fuel : Nat) → (level seen : List Nat) → List Nat
  | 0, _, _ => []
  | n + 1, level, seen =>
    let next := level.flatMap fun i => s.successors g.procid (g.node i)
    let fresh := (List.range g.count).filter fun i => i ∈ next && i ∉ seen
    if fresh.isEmpty then [] else fresh ++ s.cone g n fresh (seen ++ fresh)

/-- A node faults (R366). -/
def State.faultNode (s : State) (e : Entry) (g : GraphAt) (a : Word) (cause : Nat) : State :=
  let w := s.nctl g.procid a
  let work := (s.workOf e.launch a).getD { launch := e.launch, addr := a, index := g.index a, procid := g.procid, live := 0 }
  if nodeState w ≠ 1 || work.faulted || work.retry then s
  else
    let s := s.writeShared g.die g.procid (a + 0x28) 4 cause
    let work := if nodeKind w = 1 then { work with live := 0 } else work
    let retries := w / 256 % 4
    let s :=
      if nodeCx w then s.setWork work
      else if w / 4 % 2 = 1 ∧ retries < 3 then (s.writeShared g.die g.procid a 4 (w + 256)).setWork { work with retry := true }
      else
        ((s.setNodeState g.die g.procid a 4).setWork { work with faulted := true }).owe g e.launch a
          (.status statusFaulted statusRunning :: (s.cone g g.count [g.index a] [g.index a]).map .visit)
    if work.live = 0 then s.pushOnce (.nodeComplete e.launch a) else s

/-- NODE_FAULT (R366) (DESIGN CHOICE, unsafe, log entry 30). -/
def nodeFault (launch : Nat) (a : Word) (cause : Nat) (s : State) : State :=
  s.walker launch a (.nodeFault launch a cause) fun e g s => s.faultNode e g a cause

/-! ### `ndone` (R365) and a copy's TOKEN (R233) -/

/-- The launched graph of a process that holds a node. -/
def State.graphOf (s : State) (procid : Nat) (a : Word) : Option (Entry × GraphAt) :=
  firstSome (fun (e : Entry) =>
    if e.procid = procid ∧ e.launch ≠ 0 ∧ (e.kind = 2 ∨ e.kind = 3) ∧ (s.entryGraph e).has a then some (e, s.entryGraph e) else none)
    s.pkg.entries

/-- The operation of `ndone` by a core of die `dn` on a node record; none where its fault cause applies (R365). -/
def State.nodeDone (s : State) (dn procid : Nat) (a : Word) : Option State :=
  let w := s.nctl procid a
  if nodeKind w ≠ 2 then none
  else match nodeState w with
    | 0 => some (s.setNodeState dn procid a 5)
    | 1 => match s.graphOf procid a with
      | some (e, g) => some (s.completeNode { g with die := dn } e.launch a)
      | none => some (s.setNodeState dn procid a (if nodeCx w then 3 else 2))
    | _ => none

/-- The place that `nodeDone` changes; none where its page is not mapped. -/
def State.donePlaces (s : State) (procid : Nat) (a : Word) : Option (List Place) := (s.sharedPlace procid .store a 64).map fun p => [p]

/-- `ndone` (R365). -/
def nodeDoneInstr (ra words : Nat) (syn : List Nat) (s : State) : State :=
  s.instr [ra] [] syn false fun s => s.notTimed <|
    let a := s.g ra
    match s.check .atomic 0 a 64 64 with
    | .error x => .error x
    | .ok _ => s.afterDrain true <|
      let procid := s.task.procid.toNat
      match s.donePlaces procid a with
      | none => (s.supplyShared procid [a]).again 1 .drained
      | some ps => match s.snoop true ps with
        | some s => s.again 1 .drained
        | none =>
          if (s.wrapWait (dieOf s.curCore)).isSome || !s.stampsAllow (dieOf s.curCore) ps then s.again 1 .drained
          else match (s.takeReplies (dieOf s.curCore) ps).nodeDone (dieOf s.curCore) procid a with
            | some s => .ok ((s.noteWalk s.curCore procid 0 a).advance words)
            | none => .error (.trap 13 5 0 0)

/-! ### The completion of a copy (R233) -/

/-- Every write of a copy is performed at its CSCOPE: acknowledged (R255), and none of the lines it wrote in source regions still
to be applied (R294, R295). -/
def State.copyPerformed (s : State) (core : Nat) (x : Copy) : Bool :=
  !s.engineWaits core x.serial && (x.cscope < 2 || (s.coreAt core).sources.all fun e =>
    e.2.buf.all (0 ∉ ·.writers) &&
      e.2.subs.all fun b => match (s.coreAt b.1).subscribers.find b.2 with | some u => u.onWay = 0 | none => true)

/-- The lines that engines have written into source regions of a core leave. -/
def State.flushEngine (s : State) (core : Nat) : State :=
  (s.coreAt core).sources.foldl (fun s x =>
    if x.2.buf.any (0 ∈ ·.writers) then
      let d := s.coreAt core
      x.2.buf.foldl (fun s l => s.sendLine core x.2 l) (s.setCoreAt core { d with sources := d.sources.put x.1 { x.2 with buf := [] } })
    else s) s

/-- A copy's TOKEN: NODE is completed as `ndone` completes it, or a message error is reported (R365). -/
def State.copyToken (s : State) (core : Nat) (x : Copy) : State :=
  match s.nodeDone (dieOf core) x.procid x.node with
  | some s => s
  | none => s.report { kind := 8, procid := x.procid, core, unit := x.ch, info := x.node }

/-- The four acts of a completed copy, in their order (R233). MBOX counts modulo 2^16, the size of the mailbox space (DESIGN CHOICE, unsafe, log entry 35). -/
def State.endCopy (s : State) (core : Nat) (x : Copy) : State :=
  let c := s.coreAt core
  let y := c.chan x.ch
  let s := s.setCoreAt core { c with copies := c.copies.filter (·.serial ≠ x.serial) }
  let s := if x.post then
      let off := x.mbox.toNat
      s.sendPacket 2 core (counterOf off).1 (.postArrive
        { core := (counterOf off).1, index := (counterOf off).2, inc := x.minc, procid := x.procid, asOwner := false
          src := core, ctx := 0, tid := 0, acks := false, id := 0 })
    else s
  let s := if x.token then s.copyToken core x else s
  let s := match x.walker with
    | some (l, a) => match s.workOf l a with
      | some w => (s.setWork { w with live := 0 }).push (.nodeComplete l a)
      | none => s
    | none => s
  let c := s.coreAt core
  let y := { y with done := y.done + 1, cscope := x.cscope, state := if c.qcount x.ch = 0 then 0 else 1 }
  let s := s.setCoreAt core (({ c with chans := c.chans.put x.ch y }).unbind x.ch)
  let s := ((s.wakeChannel core x.ch).tryPublish).push (.copyStart (coreId core))
  s.tryRelease x.procid (clusterOf core)

/-- COPY_COMPLETE (R233). -/
def copyComplete (core serial : Nat) (s : State) : State :=
  let again := fun (s : State) => s.push (.copyComplete (coreId core) serial)
  match (s.coreAt core).copies.find? fun x => x.serial = serial && x.running with
  | none => s
  | some x =>
    if s.coreHalted core then again s
    else if !s.copyPerformed core x then again (s.flushEngine core)
    else
    let s := if x.token then s.supplyShared x.procid [x.node] else s
    match (if x.token then s.donePlaces x.procid x.node else some []) with
      | none => s.endCopy core x
      | some ps => match s.snoop true ps with
        | some s => again s
        | none => if s.stampsAllow (dieOf core) ps then (s.takeReplies (dieOf core) ps).endCopy core x else again s

/-! ### The aperture of a channel (R219, R226) -/

/-- An aperture store is refused: the channel becomes FAULTED, copies of it or none, TINDEX names the store's template, and a record of
KIND 5 says why (R226) (DESIGN CHOICE, unsafe, log entry 35). -/
def State.refuseStore (s : State) (core ch idx cause : Nat) : State :=
  let c := s.coreAt core
  let y := c.chan ch
  ((s.setCoreAt core { c with chans := c.chans.put ch { y with state := 4, cause, tindex := idx } }).report
    { kind := 5, cause, procid := y.procid, core, unit := ch, info := BitVec.ofNat 64 idx }).wakeChannel core ch

/-- The acknowledgement of a store that came from a context. -/
def State.ackTo (s : State) (ack : Option (Nat × Nat × Nat × Nat)) : State :=
  match ack with
  | some (core, ctx, tid, id) => s.ackStore core ctx tid id
  | none => s

/-- APERTURE_STORE (R226): a 64-bit store at offset 0 of a channel's page; the engine acquires at system scope (DEDUCED, unsafe, log entry 35).
The record of a store that CHOWN.PIN = 0 discards has CAUSE 8, and a template in a line with an uncorrectable error has CAUSE 6: R226 and Table 6
of R240 give neither (DESIGN CHOICE, unsafe, log entry 35). -/
def apertureStore (core ch : Nat) (value : Word) (ack : Option (Nat × Nat × Nat × Nat)) (s : State) : State :=
  let c := s.coreAt core
  let y := c.chan ch
  let idx := value.toNat % 256
  if !(y.v && y.pin) then
    (s.report { kind := 5, cause := 8, procid := y.procid, core, unit := ch, info := BitVec.ofNat 64 idx }).ackTo ack
  else if 4 ≤ (c.copies.filter (!·.running)).length then s.pushFront (.apertureStore core ch value (ack, none))
  else match s.templateAt y.procid idx with
    | none => (s.refuseStore core ch idx 8).ackTo ack
    | some a =>
      match s.readRecord core y.procid 1 a true with
      | none => (s.refuseStore core ch idx 10).ackTo ack
      | some (.wait s) => s.pushFront (.apertureStore core ch value (ack, none))
      | some (.bad _) => (s.refuseStore core ch idx 6).ackTo ack
      | some (.ok r s) =>
        let t := Template.ofRecord r
        if t.refused then (s.refuseStore core ch idx 3).ackTo ack
        else
          let t := t.resolve (value.sshiftRight 8)
          match s.startCheck core y.procid t with
          | some cause => (s.refuseStore core ch idx cause).ackTo ack
          | none => ((s.enterCopy core ch y.procid idx t [] none).acquireAll core 5 (s.dieTime core)).ackTo ack

/-- CHOWN_WRITE (R219): honoured only while the channel is IDLE. -/
def chownWrite (core ch : Nat) (value : Word) (s : State) : State :=
  let c := s.coreAt core
  let y := c.chan ch
  if y.state ≠ 0 then s
  else s.setCoreAt core { c with
    chans := c.chans.put ch { y with procid := value.toNat % 1024, v := value.getLsbD 10, pin := value.getLsbD 11 } }

/-! ### Meanings -/

/-- CHOWN_WRITE (R219). -/
def execChownWrite (core ch : Nat) (value : Stored Word) (s : State) : Host.Outcome State Fault Refusal :=
  done (s.storeFrom value.2 (chownWrite core ch value.1))

/-- NODE_FIRE (R362). -/
def execNodeFire (launch : Nat) (addr : Word) (s : State) : Host.Outcome State Fault Refusal := done (nodeFire launch addr s)

/-- NODE_COMPLETE (R364). -/
def execNodeComplete (launch : Nat) (addr : Word) (s : State) : Host.Outcome State Fault Refusal :=
  done (nodeComplete launch addr s)

/-- NODE_FAULT (R366). -/
def execNodeFault (launch : Nat) (addr : Word) (cause : Nat) (s : State) : Host.Outcome State Fault Refusal :=
  done (nodeFault launch addr cause s)

/-- `ndone` (R365). -/
def execNdone (a : BitVec 7) (s : State) : Host.Outcome State Fault Refusal := done (nodeDoneInstr a.toNat 1 [] s)

/-- `ndone` (R365). -/
def execNdoneX (e : Ext) (s : State) : Host.Outcome State Fault Refusal := done (nodeDoneInstr e.a.toNat e.words e.syn s)

/-- COPY_COMPLETE (R233). -/
def execCopyComplete (core : CoreId) (serial : Nat) (s : State) : Host.Outcome State Fault Refusal :=
  done (copyComplete core.toNat serial s)

/-- APERTURE_STORE (R226). -/
def execApertureStore (core ch : Nat) (value : Word) (ack : Stored (Option (Nat × Nat × Nat × Nat))) (s : State) :
    Host.Outcome State Fault Refusal :=
  done (s.storeFrom ack.2 (apertureStore core ch value ack.1))

end Sys2Proof.Machine
end

