-- ==== Sys2Proof/Machine/Scheduler.lean ====
section
/-! DEFINITION. The queue front-end (R329 to R343, R369): process and queue descriptors, doorbells, entries,
their order, launch, placement and completion; swaps of allocations (R347); the preferred process (R358);
heavy-unit tokens (R370, R371); `fork`, `join` and `qsub` (R353, R354, R357). -/

namespace Sys2Proof.Machine

/-! ### Process descriptors (R329) -/

/-- Reads `n` bytes of a table at a device physical address, as PDBASE and QTBASE hold one (DEDUCED, unsafe, log entry 25). -/
def State.readTable (s : State) (pa n : Nat) : Nat := s.readPa pa n

/-- The lines of a table's bytes. -/
def tablePlaces (pa n : Nat) : List Place := (List.range (n / 64)).map fun i => .mem (pa + 64 * i)

/-- Bits [lo + n − 1 : lo] of a number. -/
def bitsOf (v lo n : Nat) : Nat := v / 2 ^ lo % 2 ^ n

/-- The pools of a descriptor. -/
def poolsOf (d : Nat) (old : Store Pool) : Store Pool :=
  (List.range 10).map fun i => (i, {
    base := BitVec.ofNat 64 (bitsOf d (8 * (0x20 + 16 * i)) 64), count := bitsOf d (8 * (0x28 + 16 * i)) 32
    used := (old.get i {}).used })

/-- The descriptors that R329 refuses. -/
def descriptorRefused (d : Nat) : Bool :=
  bitsOf d 1 63 ≠ 0 || bitsOf d (8 * 0x18) 64 ≠ 0 || bitsOf d (8 * 0xC0) 512 ≠ 0 ||
    ((List.range 10).any fun i => bitsOf d (8 * (0x2C + 16 * i)) 32 ≠ 0 || bitsOf d (8 * (0x20 + 16 * i)) 64 % (poolElem i).2 ≠ 0) ||
    bitsOf d (8 * 0xA8) 32 < 16 || 2 ^ 20 < bitsOf d (8 * 0xA8) 32 ||
    (bitsOf d (8 * 0xB8) 32 ≠ 0 && bitsOf d (8 * 0xB8) 32 ≠ 256)

/-- A queue replaced. -/
def State.setQueue (s : State) (q : Nat) (x : Queue) : State := s.setPkg { s.pkg with queues := s.pkg.queues.put q x }

/-- PDSYNC_WRITE (R329), the descriptor asked of a host that owns it first (R257) (DEDUCED, unsafe, log entry 29) (DEDUCED, unsafe, log entry 33). -/
def pdsyncWrite (p : Nat) (s : State) : State :=
  if 1024 ≤ p then s
  else if let some s := s.snoop false (tablePlaces (s.pkg.pdbase.toNat + 256 * p) 256) then s.pushFront (.pdsyncWrite (p, none))
  else
    let d := s.readTable (s.pkg.pdbase.toNat + 256 * p) 256
    let old := s.process p
    let set := fun (x : Process) (s : State) => s.setPkg { s.pkg with procs := s.pkg.procs.put p x }
    if d % 2 = 1 ∧ !descriptorRefused d then
      (set { old with
        valid := true, sroot := BitVec.ofNat 64 (bitsOf d 64 64), proot := BitVec.ofNat 64 (bitsOf d 128 64)
        pools := poolsOf d old.pools, reported := [] } s).pushOnce (.entryStart p)
    else if !old.valid then s
    else
      let s := set { old with valid := false } s
      s.setPkg { s.pkg with queues := s.pkg.queues.map fun (q : Nat × Queue) =>
        (q.1, if q.2.procid = p then { q.2 with state := .disabled, cause := 0 } else q.2) }

/-! ### Queue descriptors (R331, R341) -/

/-- Cores that a mask names. -/
def maskCores (m : BitVec 256) : List Nat := (List.range 256).filter fun i => m.getLsbD i

/-- The queue of a descriptor (Table 3). -/
def queueOf (d now : Nat) : Queue :=
  { state := .idle, dev := bitsOf d 1 1 = 1, mode := bitsOf d 2 1 = 1, cls := bitsOf d 3 2, log2 := bitsOf d 5 5
    procid := bitsOf d 10 10, resv := bitsOf d 20 4, base := BitVec.ofNat 64 (bitsOf d 64 64), period := bitsOf d 128 32
    budget := bitsOf d 160 32, cmask := BitVec.ofNat 256 (bitsOf d 256 256), since := now, remaining := bitsOf d 160 32 }

/-- Fields in range (Table 3). -/
def Queue.inRange (x : Queue) (d : Nat) : Bool :=
  bitsOf d 24 40 = 0 && bitsOf d 192 64 = 0 && 4 ≤ x.log2 && x.log2 ≤ 16 && x.base.toNat % 4096 = 0 &&
    (if x.cls = 0 then 1 ≤ x.resv && x.resv ≤ 4 && 2800 ≤ x.period && x.period ≤ 2 ^ 31
     else x.resv = 0 && x.period = 0 && x.budget = 0 && x.cmask = 0)

/-- The reservations of a queue end. -/
def State.unreserve (s : State) (q : Nat) : State :=
  { s with cores := s.cores.map fun (c : Nat × Core) =>
      (c.1, { c.2 with reserved := c.2.reserved.filter (·.2 ≠ q), claims := c.2.claims.filter (·.2 ≠ q) }) }

/-- A record of a queue with which entries of the bounded class were taken in and have not completed keeps its contexts and its
periods for them, under a number of its own beyond those of queues, when another record takes its place (R331); other reservations may then
take in those contexts too (DEDUCED, unsafe, log entry 29). -/
def State.retire (s : State) (q : Nat) : State :=
  if !(s.pkg.entries.any fun e => e.queue = q && e.cls = 0) then s.unreserve q
  else
    let used := s.pkg.queues.map (·.1)
    let k := (((List.range (used.length + 1)).map fun i => q + 4096 * (i + 1)).find? (· ∉ used)).getD q
    let s := s.setPkg { s.pkg with
      queues := s.pkg.queues.put k { s.queue q with state := .disabled }
      entries := s.pkg.entries.map fun e => if e.queue = q ∧ e.cls = 0 then { e with queue := k } else e }
    { s with cores := s.cores.map fun (c : Nat × Core) => (c.1, { c.2 with
        reserved := c.2.reserved.filter (·.2 ≠ q)
        claims := c.2.claims ++ (c.2.reserved.filter (·.2 = q)).map fun x => (x.1, k) }) }

/-- The last entry of a record that R331 kept has completed: its reservations end. -/
def State.dropRetired (s : State) (k : Nat) : State :=
  if k < 4096 || s.pkg.entries.any (·.queue = k) then s
  else (s.unreserve k).setPkg { s.pkg with queues := s.pkg.queues.drop k }

/-- One context more of a core is reserved for a queue: the highest-numbered one that is not reserved (R341). -/
def Core.reserveOne (c : Core) (q : Nat) : Core :=
  match c.reserved.firstFree 0 c.part.contexts with
  | some j => { c with reserved := c.reserved.put j q }
  | none => c

/-- The reservations of a bounded queue begin (R341). -/
def State.reserve (s : State) (q : Nat) (x : Queue) : State :=
  if x.cls ≠ 0 then s
  else (maskCores x.cmask).foldl (fun s k => s.setCoreAt k ((List.range x.resv).foldl (fun c _ => c.reserveOne q) (s.coreAt k))) s

/-- Would the reservations pass a core's contexts (R341)? -/
def State.overReserved (s : State) (x : Queue) : Bool :=
  x.cls = 0 && (maskCores x.cmask).any fun k => (s.coreAt k).part.contexts < (s.coreAt k).reserved.length + x.resv

/-- QSYNC_WRITE (R331), the record asked of a host that owns it first (R257) (DEDUCED, unsafe, log entry 29). -/
def qsyncWrite (q : Nat) (s : State) : State :=
  if 4096 ≤ q || (s.queue q).state = .active then s
  else if let some s := s.snoop false (tablePlaces (s.pkg.qtbase.toNat + 64 * q) 64) then s.pushFront (.qsyncWrite (q, none))
  else
    let d := s.readTable (s.pkg.qtbase.toNat + 64 * q) 64
    let x := queueOf d (s.dieAt 0).cycle
    let s := s.retire q
    if d % 2 = 0 || !x.inRange d || !(s.process x.procid).valid || s.overReserved x then
      s.setQueue q { s.queue q with state := .disabled, cause := 0 }
    else (s.setQueue q x).reserve q x

/-! ### Doorbells (R332) -/

/-- SIZE of a ring. -/
def Queue.size (x : Queue) : Nat := 2 ^ x.log2

/-- IDLE or ACTIVE, as the indices say. -/
def Queue.settle (x : Queue) : Queue := { x with state := if x.rdidx = x.wridx then .idle else .active }

/-- A store of WRIDX (DEDUCED, unsafe, log entry 29). -/
def Queue.setWridx (x : Queue) (v : BitVec 32) : Queue :=
  let y := { x with wridx := v }
  if x.size < (v - x.rdidx).toNat then { y with state := .error, cause := 2 }
  else match x.state with
    | .idle | .active => y.settle
    | _ => y

/-- The record of KIND 11 of a queue that has just failed (R388). -/
def State.reportQueue (s : State) (q : Nat) (x : Queue) : State :=
  s.report { kind := 11, cause := x.cause, procid := x.procid, info := BitVec.ofNat 64 (x.erridx.toNat + 2 ^ 32 * q) }

/-- DOORBELL_WRIDX (R332): a queue that enters ERROR here reports it (R388) (DEDUCED, unsafe, log entry 29). -/
def doorbellWridx (q : Nat) (v : BitVec 32) (s : State) : State :=
  let x := s.queue q
  if x.state = .disabled || x.dev then s
  else
    let y := x.setWridx v
    let s := s.setQueue q y
    (if y.state = .error ∧ x.state ≠ .error then s.reportQueue q y else s).pushOnce .queueRead

/-- Is the queue in STALLED_ENTRY or ERROR? -/
def Queue.stopped (x : Queue) : Bool := x.state = .stalled || x.state = .error

/-- DOORBELL_RDIDX (R332). -/
def doorbellRdidx (q : Nat) (v : BitVec 32) (s : State) : State :=
  let x := s.queue q
  if x.stopped then s.setQueue q { x with rdidx := v } else s

/-- DOORBELL_RESUME (R332) (DEDUCED, unsafe, log entry 29). -/
def doorbellResume (q : Nat) (s : State) : State :=
  let x := s.queue q
  if x.stopped then (s.setQueue q { x.settle with polls := 0, pollAt := 0 }).pushOnce .queueRead else s

/-! ### Completion (R337) -/

/-- The status word of Table 8. -/
def statusWord (code : Nat) (index : BitVec 32) : Nat := code + 2 ^ 32 * index.toNat

/-- The status word of an entry is stored, or a record of KIND 12 says that it is not (R337). -/
def State.storeStatus (s : State) (e : Entry) (code : Nat) : State :=
  match s.sharedPlace e.procid .store e.compl 8 with
  | some p => s.ioWrite p 8 (statusWord code e.index)
  | none => s.report { kind := 12, procid := e.procid, pc := e.compl, info := BitVec.ofNat 64 (e.index.toNat + 2 ^ 32 * (e.queue % 4096)) }

/-- The host lines of an entry's status word. -/
def State.statusPlaces (s : State) (e : Entry) : List Place :=
  if e.cm then (s.sharedPlace e.procid .store e.compl 8).toList else []

/-- The entry's completion is announced with its code (R337). -/
def State.announce (s : State) (e : Entry) (code : Nat) : State :=
  if e.cm then s.storeStatus e code
  else
    let off := e.compl.toNat
    s.sendPacket 2 ioDie (counterOf off).1 (.postArrive
      { core := (counterOf off).1, index := (counterOf off).2, inc := 1, procid := e.procid, asOwner := false
        src := ioDie, ctx := 0, tid := 0, acks := false, id := 0 })

/-- The code of a completed entry (Table 8). -/
def State.codeOf (s : State) (e : Entry) : Nat :=
  let graphBad := (e.kind = 2 || e.kind = 3) && (let (_, _, c, f) := s.status (s.entryGraph e); c ≠ 0 || f ≠ 0)
  if e.rejected then 3 else if e.faulted || graphBad then 2 else if e.late then 5 else 1

/-- The dies of a WEIGHT entry's mask (R369) (DEDUCED, unsafe, log entry 31). -/
def Entry.dies (e : Entry) : List Nat := (List.range 4).filter fun d => e.target / 2 ^ d % 2 = 1

/-- The gates of a WEIGHT entry that has opened them close, and its dies resume (R237, R369) (DEDUCED, unsafe, log entry 31). -/
def State.closeGates (s : State) (e : Entry) : State :=
  if !e.gates then s
  else e.dies.foldl (fun s d =>
    let s := s.setDieAt d { s.dieAt d with gateOpen := false, noStarts := false }
    (List.range 64).foldl (fun s i => s.pushOnce (.takeWork (d * 64 + i))) s) s

/-- The period of a bounded queue at a cycle. -/
def Queue.periodAt (x : Queue) (now : Nat) : Nat := (now - x.since) / x.period

/-- Has a bounded entry passed its period (R343)? -/
def State.isLate (s : State) (e : Entry) : Bool :=
  match e.admitted with
  | some p => p < (s.queue e.queue).periodAt (s.dieAt 0).cycle
  | none => false

/-- May the entry complete (R337)? -/
def State.entryDone (s : State) (e : Entry) : Bool :=
  e.rejected || (e.launch ≠ 0 && e.live = 0 && !e.gateWait &&
    ((e.kind ≠ 2 && e.kind ≠ 3) || e.faulted ||
      (s.graphComplete (s.entryGraph e) && s.pkg.nodes.all fun n => n.launch ≠ e.launch || n.todo.isEmpty)))

/-- ENTRY_COMPLETE (R337); the gates of a WEIGHT entry close behind the writes of every copy, of a withdrawn one too (R369). -/
def entryComplete (id : Nat) (s : State) : State :=
  match s.pkg.entries.find? fun e => e.id = id with
  | none => s
  | some e =>
    if !s.entryDone e then s
    else if e.gates && s.withdrawnBusy then s.push (.entryComplete id)
    else
    let s := if e.cm then s.supplyShared e.procid [e.compl] else s
    match s.snoop true (s.statusPlaces e) with
      | some s => s.push (.entryComplete id)
      | none =>
        let e := { e with late := e.late || s.isLate e }
        let s := (s.announce e (s.codeOf e)).closeGates e
        let s := s.setPkg { s.pkg with
          entries := s.pkg.entries.filter fun x => x.id ≠ id
          nodes := s.pkg.nodes.filter fun n => !(n.launch = e.launch && e.launch ≠ 0) }
        (s.pkg.entries.map (·.procid)).eraseDups.foldl (fun s p => s.pushOnce (.entryStart p)) (s.dropRetired e.queue)

/-- The oldest unadmitted entry of a bounded queue. -/
def State.unadmitted (s : State) (q : Nat) : Option Entry :=
  s.pkg.entries.find? fun e => e.queue = q && e.cls = 0 && e.launch = 0 && !e.rejected

/-- DOORBELL_DROP (R332): a deferred entry completes as REJECTED. -/
def doorbellDrop (q : Nat) (s : State) : State :=
  let x := s.queue q
  if x.state = .disabled || x.cls ≠ 0 then s
  else match s.pkg.entries.find? fun e => e.queue % 4096 = q && e.cls = 0 && e.launch = 0 && !e.rejected with
    | none => s
    | some e =>
      let y := s.queue e.queue
      if !y.deferred then s
      else ((s.setQueue e.queue { y with deferred := false }).mapEntry e.id fun e => { e with rejected := true }).push (.entryComplete e.id)

/-! ### Reading entries (R333 to R336) -/

/-- The entry of a 128-byte record. -/
def entryFrom (d id queue : Nat) (index : BitVec 32) (x : Queue) : Entry :=
  let word := fun (o : Nat) => bitsOf d (8 * o) 64
  let nrd := bitsOf d 21 3
  let nwr := bitsOf d 24 2
  let range := fun (i : Nat) (w : Bool) => (word (0x38 + 8 * i), bitsOf d (8 * (0x68 + 4 * i)) 32, w)
  { id, queue, index, procid := x.procid, mode := x.mode, cls := bitsOf d 16 2, kind := bitsOf d 8 8
    grp := bitsOf d 18 1 = 1, ls := bitsOf d 19 1 = 1, cm := bitsOf d 20 1 = 1, place := bitsOf d 26 2, cost := bitsOf d 32 32
    code := BitVec.ofNat 64 (word 8), frame := BitVec.ofNat 64 (word 0x10), spread := bitsOf d (8 * 0x18) 24
    tokpt := bitsOf d (8 * 0x18 + 24) 8, target := bitsOf d (8 * 0x18 + 32) 16, alloc := bitsOf d (8 * 0x18 + 48) 8
    graph := BitVec.ofNat 64 (word 0x20), compl := BitVec.ofNat 64 (word 0x28), skey := BitVec.ofNat 64 (word 0x30)
    ranges := ((List.range (Nat.min nrd 4)).map fun i => range i false) ++ ((List.range (Nat.min nwr 2)).map fun i => range (4 + i) true) }

/-- TARGET in range for PLACE (R345). -/
def Entry.targetOk (e : Entry) : Bool :=
  match e.place with
  | 0 => e.target = 0
  | 1 => e.target < 4
  | 2 => e.target < 64
  | _ => e.target < 256

/-- The malformed entries of R336 (DEDUCED, unsafe, log entry 29). -/
def Entry.malformed (e : Entry) (d : Nat) (x : Queue) : Bool :=
  e.kind = 0 || 4 < e.kind || bitsOf d 1 7 ≠ 0 || bitsOf d 28 4 ≠ 0 || bitsOf d (8 * 0x18 + 56) 8 ≠ 0 ||
    4 < bitsOf d 21 3 || 2 < bitsOf d 24 2 || (e.kind = 1 && e.spread = 0) || e.code.toNat % 4 ≠ 0 ||
    (e.cls ≠ x.cls && (e.cls = 0 || x.cls = 0)) ||
    (e.cls = 0 && (!e.cm || e.kind ≠ 1 || e.grp || e.place ≠ 3 || e.cost = 0)) ||
    !e.targetOk || (e.grp && e.alloc = 0) || (!e.grp && e.alloc ≠ 0) ||
    ((e.kind = 2 || e.kind = 3) && e.graph.toNat % 64 ≠ 0) || (e.cm && e.compl.toNat % 8 ≠ 0) ||
    (!e.cm && 65536 ≤ e.compl.toNat) || (e.kind = 3 && !x.mode)

/-- A queue fails with a record of KIND 11 (R335, R388). -/
def State.failQueue (s : State) (q : Nat) (state : QState) (cause : Nat) : State :=
  let x := s.queue q
  let y := { x with state, cause, erridx := x.rdidx, polls := 0 }
  (s.setQueue q y).reportQueue q y

/-- The entry's copy enters the acceptance order of its process (R338); one whose TOKPT passes 64 completes as
REJECTED (R335). -/
def State.acceptEntry (s : State) (e : Entry) : State :=
  let e := { e with rejected := 64 < e.tokpt }
  let s := s.setPkg { s.pkg with entries := s.pkg.entries ++ [e], serial := s.pkg.serial + 1 }
  if e.rejected then s.push (.entryComplete e.id) else s.pushOnce (.entryStart e.procid)

/-- The next entry of a queue is read (R335). -/
def State.readEntry (s : State) (q : Nat) : State :=
  let x := s.queue q
  let slot := x.base + BitVec.ofNat 64 (128 * (x.rdidx.toNat % x.size))
  let s := s.supplyShared x.procid [slot, slot + 64]
  match s.sharedPlace x.procid .load slot 64, s.sharedPlace x.procid .load (slot + 64) 64 with
  | some a, some b =>
    match s.snoop false [a, b] with
    | some s => if x.polls = 0 then s else s.push (.headerRepoll q)
    | none =>
      let d := s.readPlace a 64 + 2 ^ 512 * s.readPlace b 64
      let expected := 1 - x.rdidx.toNat / x.size % 2
      if d % 2 ≠ expected then
        if x.polls = 16 then s.failQueue q .stalled 0
        else (s.setQueue q { x with polls := x.polls + 1, pollAt := s.pkg.refCycle + 64 }).push (.headerRepoll q)
      else
        let e := entryFrom d s.pkg.serial q x.rdidx x
        if e.malformed d x then s.failQueue q .error 1
        else (s.setQueue q ({ x with rdidx := x.rdidx + 1, polls := 0 } : Queue).settle).acceptEntry e
  | _, _ => s.failQueue q .error 3

/-- May the front-end read an entry of the queue now? -/
def Queue.readable (x : Queue) : Bool := x.state = .active && x.polls = 0

/-- QUEUE_READ (R335): one entry of the next queue in round-robin order. -/
def queueRead (s : State) : State :=
  let qs := s.pkg.queues.filter fun (x : Nat × Queue) => x.2.readable
  let next := match qs.find? fun x => s.pkg.queueTurn ≤ x.1 with
    | some x => some x.1
    | none => qs.head?.map (·.1)
  match next with
  | none => s
  | some q => ((s.setPkg { s.pkg with queueTurn := (q + 1) % 4096 }).readEntry q).pushOnce .queueRead

/-- HEADER_REPOLL (R335): a header is read again, 64 cycles after it was last read; a queue that has left ACTIVE is read afresh when it is
ACTIVE again. -/
def headerRepoll (q : Nat) (s : State) : State :=
  let x := s.queue q
  if s.pkg.refCycle < x.pollAt then s.push (.headerRepoll q)
  else if x.polls = 0 then s
  else if x.state = .active then (s.readEntry q).pushOnce .queueRead
  else s.setQueue q { x with polls := 0, pollAt := 0 }

/-! ### Order and launch (R338 to R346) -/

/-- A range rounded outward to multiples of 256 bytes; none of length zero. -/
def roundRange (r : Nat × Nat × Bool) : Option (Nat × Nat) :=
  if r.2.1 = 0 then none else some (r.1 / 256 * 256, (r.1 + r.2.1 + 255) / 256 * 256)

/-- Does a write range of the first overlap any range of the second? -/
def writesInto (a b : Entry) : Bool :=
  a.ranges.any fun x => x.2.2 && b.ranges.any fun y => match roundRange x, roundRange y with
    | some p, some q => p.1 < q.2 && q.1 < p.2
    | _, _ => false

/-- Do two entries of a process conflict (R338)? -/
def Entry.conflicts (a b : Entry) : Bool := a.kind = 4 || b.kind = 4 || writesInto a b || writesInto b a

/-- Has every earlier conflicting entry of the process completed (R338)? -/
def State.inOrder (s : State) (e : Entry) : Bool :=
  s.pkg.entries.all fun x => !(x.id < e.id && x.procid = e.procid && x.conflicts e)

/-- The first root that die `d` receives of a spread of `n` (R32). -/
def firstRoot (n d : Nat) : Nat := (d * n + 3) / 4

/-- The core of root `i` (R32, Table 9). -/
def Entry.rootCore (e : Entry) (i : Nat) : Nat :=
  match e.place with
  | 0 =>
    let d := 4 * i / e.spread
    let j := i - firstRoot e.spread d
    let nd := firstRoot e.spread (d + 1) - firstRoot e.spread d
    coreOf (d * 16 + 16 * j / nd) (j % 4)
  | 1 => coreOf (e.target * 16 + 16 * i / e.spread) (i % 4)
  | 2 => coreOf e.target (i % 4)
  | _ => e.target

/-- The entry gets a launch (R339). -/
def State.giveLaunch (s : State) (e : Entry) : Entry × State :=
  let e := { e with launch := s.pkg.nextLaunch }
  (e, (s.setPkg { s.pkg with nextLaunch := s.pkg.nextLaunch + 1 }).mapEntry e.id fun _ => e)

/-- The roots of a SPREAD entry join their groups (R346); none where an allocation does not fit (DEDUCED, unsafe, log entry 29). -/
def State.joinRoots (s : State) (e : Entry) : Option State :=
  if !e.grp then some s
  else (List.range e.spread).foldl (fun (o : Option State) i =>
    o.bind fun s => s.joinGroup e.procid (clusterOf (e.rootCore i)) (e.alloc * 4096)) (some s)

/-- A SPREAD entry starts: its roots are pushed so that the lowest index is popped first (R345). -/
def State.startSpread (s : State) (e : Entry) : Option State :=
  (s.joinRoots e).map fun s =>
    let (e, s) := s.giveLaunch e
    let s := s.mapEntry e.id fun e => { e with live := e.spread }
    let root := fun (core i : Nat) =>
      ({ code := e.code, frame := e.frame, taskidx := BitVec.ofNat 48 i, mode := e.mode, ls := e.ls
         grp := if e.grp then some (clusterOf core) else none, pin := decide (2 ≤ e.place), launch := e.launch } : Rec)
    ((List.range e.spread).map e.rootCore).eraseDups.foldl (fun s c =>
      (s.placeRoots c e.procid (((List.range e.spread).filter (e.rootCore · = c)).map (root c))).pushOnce (.takeWork c)) s

/-- Is a node record fit to be launched (R360, R361)? R360 does not say what the check refuses in PREDS, nor in a copy node's SPREAD: any
value passes (DESIGN CHOICE, unsafe, log entry 30). -/
def State.nodeFit (s : State) (g : GraphAt) (k : Nat) (weight : Bool) : Bool :=
  let a := g.node k
  let w := s.nctl g.procid a
  let kind := nodeKind w
  let spread := s.nodeField g.procid a 0x24 4
  (s.sharedPlace g.procid .store a 64).isSome && w / 8 % 2 = 0 && w / 8192 = 0 && nodeState w = 0 && !nodeCx w && w / 256 % 4 = 0 &&
    (List.range 5).all (fun i => s.nodeField g.procid a (0x2C + 4 * i) 4 = 0) &&
    (match kind with
      | 0 => !weight && 1 ≤ spread && spread < 2 ^ 24
      | 1 => true
      | 2 => !weight && s.nodeField g.procid a 8 8 = 0
      | _ => false)

/-- The checks of a graph at launch (R360). -/
def State.graphFit (s : State) (e : Entry) : Bool :=
  let g := s.entryGraph e
  (s.sharedPlace e.procid .store e.graph 64).isSome && g.nodes.toNat % 64 = 0 && 1 ≤ g.count && g.count ≤ 65535 &&
    s.readShared e.procid (e.graph + 0x0C) 4 = 0 &&
    (List.range 9).all (fun i => s.readShared e.procid (e.graph + BitVec.ofNat 64 (0x1C + 4 * i)) 4 = 0) &&
    (List.range g.count).all fun k => s.nodeFit g k (e.kind = 3)

/-- The lines that the launch check of a graph reads, and the offsets of its walks. -/
def State.fitReads (s : State) (e : Entry) : List Place × List Word :=
  if e.kind ≠ 2 ∧ e.kind ≠ 3 then ([], [])
  else
    let g := s.entryGraph e
    let offs := e.graph :: if 65535 < g.count then [] else (List.range g.count).map g.node
    (offs.filterMap fun x => s.sharedPlace e.procid .load x 64, offs)

/-- The walkers are told of the nodes whose PREDS is 0 (R362). -/
def State.watchNodes (s : State) (e : Entry) : State :=
  let g := s.entryGraph e
  (List.range g.count).foldl (fun s k =>
    let a := g.node k
    let st := nodeState (s.nctl g.procid a)
    if (st = 0 ∨ st = 5) ∧ s.nodeField g.procid a 4 4 = 0 then s.pushOnce (.nodeFire e.launch a) else s) s

/-- Every task on a die is to be pre-empted, those of reserved contexts included (R369). -/
def State.clearDie (s : State) (die : Nat) : State :=
  (s.ctxs.filter fun x => dieOf (x.1 / 16) = die && x.2.state ≠ .free).foldl (fun s x =>
    (s.setCtxAt x.1 { s.ctxAt x.1 with preempt := true }).push (.preempt (coreId (x.1 / 16)) (ctxId (x.1 % 16)))) s

/-- A GRAPH or WEIGHT entry starts; one that fails its checks completes as FAULTED (R360, R369) (DEDUCED, unsafe, log entry 31). -/
def State.startGraph (s : State) (e : Entry) : Option State :=
  let busy := s.pkg.entries.any fun x => x.kind = 3 && x.launch ≠ 0 && e.kind = 3 && x.dies.any (· ∈ e.dies)
  if busy then none
  else
    let fit := s.graphFit e
    let (e, s) := s.giveLaunch e
    if !fit then some ((s.mapEntry e.id fun e => { e with faulted := true }).push (.entryComplete e.id))
    else if e.kind = 2 then some (s.watchNodes e)
    else
      let s := s.mapEntry e.id fun e => { e with gateWait := true, gates := true }
      let s := e.dies.foldl (fun s d => (s.setDieAt d { s.dieAt d with noStarts := true }).clearDie d) s
      some (s.push (.weightGateOpen e.id))

/-- The contexts that a bounded queue holds in all (R342). -/
def Queue.total (x : Queue) : Nat := x.resv * (maskCores x.cmask).length

/-- A bounded entry reaches admission (R342): admitted, or DEFERRED once. A queue that reserves no context, for which S / K has no value,
never admits one (DESIGN CHOICE, unsafe, log entry 29). -/
def State.enterEntry (s : State) (e : Entry) : Option State :=
  if (s.unadmitted e.queue).map (·.id) ≠ some e.id then none
  else
    let x := s.queue e.queue
    let now := (s.dieAt 0).cycle
    let left := x.period - (now - x.since) % x.period
    let cost := e.spread * e.cost
    let k := x.total
    if x.cls = 0 ∧ 0 < k ∧ cost ≤ x.remaining ∧ (e.spread + k - 1) / k * e.cost + 840 ≤ left then
      let s := s.setQueue e.queue { x with remaining := x.remaining - cost, deferred := false }
      let (e, s) := s.giveLaunch e
      let s := s.mapEntry e.id fun e => { e with live := e.spread, admitted := some (x.periodAt now) }
      some ((maskCores x.cmask).foldl (fun s c => s.pushOnce (.takeWork c)) s)
    else if x.deferred then none
    else some ((s.setQueue e.queue { x with deferred := true }).storeStatus e 4)

/-- Launches in use. -/
def State.launches (s : State) : Nat := (s.pkg.entries.filter fun e => e.launch ≠ 0).length

/-- An accepted entry starts, if it may (R338, R339, R342). -/
def State.tryStart (s : State) (e : Entry) : Option State :=
  if e.launch ≠ 0 || e.rejected || 4096 ≤ s.launches || !s.inOrder e then none
  else if e.cls = 0 then s.enterEntry e
  else match e.kind with
    | 1 => s.startSpread e
    | 4 => let r := s.giveLaunch e; some (r.2.push (.entryComplete e.id))
    | _ => s.startGraph e

/-- A group whose tasks are all held, and that no copy uses: it may be swapped out (R347). -/
def State.swappable (s : State) (procid cluster : Nat) (g : Group) : Bool :=
  !g.ended && !g.swapped && !s.copyUses procid cluster &&
    (s.ctxs.all fun x => x.2.state = .free || x.2.task.procid.toNat ≠ procid || x.2.task.group ≠ some cluster) &&
    (s.pkg.shuttles.all fun h => h.1.procid.toNat ≠ procid || h.1.group ≠ some cluster) &&
    s.cores.all fun c => c.2.inbound.all fun t => t.procid.toNat ≠ procid || t.group ≠ some cluster

/-- A group of a cluster to swap out, other than that of `procid`. -/
def State.swapVictim (s : State) (procid cluster : Nat) : Option Nat :=
  (s.pkg.groups.find? fun (g : Nat × Group) => g.1 % 64 = cluster && g.1 / 64 ≠ procid && s.swappable (g.1 / 64) cluster g.2).map (·.1 / 64)

/-- Room is made where an allocation does not fit (R347). -/
def State.clusterRoom (s : State) (procid cluster : Nat) : State :=
  match s.swapVictim procid cluster with
  | some p => s.pushOnce (.allocSwapOut p cluster)
  | none => s

/-- The first cluster whose group a waiting entry can neither join nor create. -/
def State.roomFor (s : State) (e : Entry) : State :=
  if !(e.grp && e.kind = 1 && e.launch = 0 && s.inOrder e) then s
  else (((List.range e.spread).map fun i => clusterOf (e.rootCore i)).eraseDups).foldl (fun s cl =>
    if (s.groupAt e.procid cl).isNone && (s.allocCluster e.procid cl (e.alloc * 4096)).isNone then s.clusterRoom e.procid cl else s) s

/-- The waiting entries of a process in the order in which they are tried: bounded ones by their own rule, then
by class and acceptance (R340). A freed launch goes by the same order, and to a process as events come, where R339 could be read to name the
earliest accepted entry (DESIGN CHOICE, unsafe, log entry 29). -/
def State.waitingEntries (s : State) (procid : Nat) : List Entry :=
  let es := s.pkg.entries.filter fun e => e.procid = procid && e.launch = 0 && !e.rejected
  (List.range 4).flatMap fun c => es.filter fun e => e.cls = c

/-- ENTRY_START (R338): the first entry of the process that may start does so. -/
def entryStart (procid : Nat) (s : State) : State :=
  let es := s.waitingEntries procid
  let tried := es.filter fun e => e.cls ≠ 0 && s.inOrder e
  let s := s.supplyShared procid ((es.filter (·.cm)).map (·.compl) ++ tried.flatMap fun e => (s.fitReads e).2)
  match (s.snoop true (es.flatMap s.statusPlaces)).or (s.snoop false (tried.flatMap fun e => (s.fitReads e).1)) with
  | some s => s.push (.entryStart procid)
  | none => match firstSome s.tryStart es with
    | some s => s.pushOnce (.entryStart procid)
    | none => es.foldl State.roomFor s

/-- PERIOD_START (R342). -/
def periodStart (q : Nat) (s : State) : State :=
  let x := s.queue q
  if x.cls ≠ 0 || (x.state = .disabled && !s.pkg.entries.any (·.queue = q)) then s
  else (s.setQueue q { x with remaining := x.budget }).pushOnce (.entryStart x.procid)

/-- WEIGHT_GATE_OPEN (R369) (DEDUCED, unsafe, log entry 31). -/
def weightGateOpen (id : Nat) (s : State) : State :=
  match s.pkg.entries.find? fun e => e.id = id with
  | none => s
  | some e =>
    if s.ctxs.any fun x => dieOf (x.1 / 16) ∈ e.dies && x.2.state ≠ .free then s.push (.weightGateOpen id)
    else
      let s := e.dies.foldl (fun s d => s.setDieAt d { s.dieAt d with gateOpen := true }) s
      (s.mapEntry id fun e => { e with gateWait := false }).watchNodes e

/-! ### Swaps of allocations (R347, R298) -/

/-- The subscriptions of a process on a cluster become PARKED or ACTIVE. -/
def State.parkSubs (s : State) (procid cluster : Nat) (st : Nat) : State :=
  (clusterCores cluster).foldl (fun s k =>
    let c := s.coreAt k
    s.setCoreAt k { c with subscribers := c.subscribers.map fun (u : Nat × Subscriber) =>
      (u.1, if u.2.procid = procid ∧ u.2.state ≠ 2 then { u.2 with state := st } else u.2) }) s

/-- Four backing elements, one for each core of a cluster. -/
def State.takeBacking (s : State) (procid : Nat) : (n : Nat) → Option (List Word × State)
  | 0 => some ([], s)
  | n + 1 => match s.takeBacking procid n with
    | none => none
    | some (l, s) => (s.takeElem procid 6).map fun x => (l ++ [x.2.elemAt procid 6 x.1], x.2)

/-- An allocation is copied to its backing image; none where a page of the image is not mapped. -/
def State.copyOut (s : State) (core procid : Nat) (img : Word) (a : Alloc) : Option State :=
  (List.range (a.size / 64)).foldl (fun (o : Option State) i => o.bind fun s =>
    s.engineWrite core procid (img + BitVec.ofNat 64 (64 * i)) 64 (s.readScratch core (a.base + 64 * i) 64)) (some s)

/-- The lines of `n` bytes of a backing image, as its core reads them: after what the die has sent to them, from the hosts that own them
(R255, R257, R347); none where a page is not mapped. -/
def State.readBacking (s : State) (core procid : Nat) (img : Word) (n : Nat) : Option (Got (List Nat)) :=
  let offs := (List.range (n / 64)).map fun i => img + BitVec.ofNat 64 (64 * i)
  let s := offs.foldl (fun s x => s.supplyWalk core procid 1 x) s
  let places := offs.map fun x => (s.locate ⟨core, procid, true⟩ .load 1 x 64).toOption
  if places.any (·.isNone) then none
  else if !(s.dieAt (dieOf core)).heldWrites.isEmpty then some (.wait s)
  else some (s.engineReads core 0 (places.filterMap fun p => p.map fun p => ⟨p, 64⟩))

/-- The same for the backing images of a swapped group, by position in its cluster. -/
def State.readBackings (s : State) (procid cluster : Nat) (g : Group) : (n : Nat) → Option (Got (List (List Nat)))
  | 0 => some (.ok [] s)
  | n + 1 => match s.readBackings procid cluster g n with
    | some (.ok vs s) => match s.readBacking (coreOf cluster n) procid (g.backing.get n 0) g.size with
      | some (.ok v s) => some (.ok (vs ++ [v]) s)
      | some (.wait s) => some (.wait s)
      | some (.bad i) => some (.bad i)
      | none => none
    | r => r

/-- An allocation is filled from its backing image. -/
def State.copyIn (s : State) (core : Nat) (a : Alloc) (vs : List Nat) : State :=
  (vs.mapIdx fun i v => (i, v)).foldl (fun s x => { s with mem := writeBytes s.mem (sramKey core (a.base + 64 * x.1)) 64 x.2 }) s

/-- ALLOC_SWAP_OUT (R347). -/
def allocSwapOut (procid cluster : Nat) (s : State) : State :=
  match s.groupAt procid cluster with
  | none => s
  | some g =>
    if !s.swappable procid cluster g then s
    else match s.takeBacking procid 4 with
      | none => s.poolEmpty procid 6 (coreOf cluster 0)
      | some (imgs, t) =>
        let out := (List.range 4).foldl (fun (o : Option State) i => o.bind fun s =>
          match s.alloc (coreOf cluster i) procid with
          | some a => s.copyOut (coreOf cluster i) procid (imgs.getD i 0) a
          | none => some s) (some t)
        match out with
        | none => s
        | some s =>
          let s := s.parkSubs procid cluster 1
          let s := (clusterCores cluster).foldl (fun s k =>
            s.setCoreAt k { s.coreAt k with allocs := (s.coreAt k).allocs.drop procid }) s
          let s := s.setGroup procid cluster { g with swapped := true, backing := imgs.mapIdx fun i w => (i, w) }
          (s.pkg.entries.map (·.procid)).eraseDups.foldl (fun s p => s.pushOnce (.entryStart p)) s

/-- ALLOC_SWAP_IN (R347): the group stays swapped while a page of a backing image is not mapped, or a line of one is in error (DEDUCED, unsafe, log
entry 33). -/
def allocSwapIn (procid cluster : Nat) (s : State) : State :=
  match s.groupAt procid cluster with
  | none => s
  | some g =>
    if !g.swapped then s
    else match s.allocCluster procid cluster g.size with
      | none => s.clusterRoom procid cluster
      | some _ => match s.readBackings procid cluster g 4 with
        | none => s
        | some (.bad _) => s
        | some (.wait s) => s.push (.allocSwapIn procid cluster)
        | some (.ok vs s) =>
        let s := (s.allocCluster procid cluster g.size).getD s
        let s := (List.range 4).foldl (fun s i => match s.alloc (coreOf cluster i) procid with
          | some a => s.copyIn (coreOf cluster i) a (vs.getD i [])
          | none => s) s
        let s := g.backing.foldl (fun s b => s.freeElem procid 6 b.2) s
        let s := (s.parkSubs procid cluster 0).setGroup procid cluster { g with swapped := false, backing := [] }
        (clusterCores cluster).foldl (fun s k => s.pushOnce (.takeWork k)) s

/-! ### The preferred process (R358) -/

/-- The class of a launch's work; work without an accepted entry counts as normal. -/
def State.classOf (s : State) (launch : Nat) : Nat := match s.entryOf launch with | some e => e.cls | none => 2

/-- The runnable work of a die: process and class. -/
def State.runnable (s : State) (die : Nat) : List (Nat × Nat) :=
  (s.cores.filter fun c => dieOf c.1 = die).flatMap fun c =>
    ((c.2.held.map (·.2) ++ c.2.inbound).filter (!·.bounded)).map (fun t => (t.procid.toNat, s.classOf t.launch)) ++
      (c.2.spindles ++ c.2.roots).flatMap fun x => x.2.map fun r => (x.1, s.classOf r.launch)

/-- QUANTUM_BOUNDARY (R358). -/
def quantumBoundary (die : Nat) (s : State) : State :=
  let work := s.runnable die
  let top := work.foldl (fun m x => Nat.min m x.2) 3
  let cands := (work.filter fun x => x.2 = top).map (·.1)
  let cur := (s.dieAt die).preferred
  match ((List.range 1024).map fun i => (cur + 1 + i) % 1024).find? fun p => p ∈ cands with
  | none => s
  | some p =>
    let s := s.setDieAt die { s.dieAt die with preferred := p }
    (s.cores.filter fun c => dieOf c.1 = die).foldl (fun s c => s.pushOnce (.takeWork c.1)) s

/-- Is the task of a bounded entry in a context past COST (R343)? -/
def State.pastCost (s : State) (k : Nat) : Bool :=
  let x := s.ctxAt k
  match x.task.started, s.entryOf x.task.launch with
  | some t, some e => x.state ≠ .free && x.task.bounded && !x.task.killed && t + e.cost < (s.dieAt (dieOf (k / 16))).elapsed
  | _, _ => false

/-- BOUNDED_COST_EXPIRE (R343, R372, R383): the task past COST is stopped with scheduler fault cause 7 at the instruction about to issue, an
operation in flight completing first, and ends. -/
def boundedCostExpire (tid : Nat) (s : State) : State :=
  let t := s.task
  if s.me.state = .free || s.me.state = .stopped || t.tid ≠ tid || (s.me.state = .parked && t.inFlight s.me.wait) then s
  else
    let s := s.setTask { t with epc := t.pc &&& ~~~3#64, ecause := ecauseOf 13 7 t.mode 0, einfo := 0 }
    (s.report { s.ownRecord 3 with cls := 13, cause := 7 }).terminate 7

/-! ### Heavy-unit tokens (R370, R371) -/

/-- TOKPT of the executing task's launch. -/
def State.tokpt (s : State) : Nat := match s.entryOf s.task.launch with | some e => e.tokpt | none => 0

/-- `ptok.take` (R371). -/
def tokenTake (e : Ext) (s : State) : State :=
  s.instr [e.a.toNat] [] e.syn false (wr := [e.d.toNat]) fun s =>
    let n := (s.g e.a.toNat).toNat
    let t := s.task
    let die := dieOf s.curCore
    if s.tokpt < t.tokHeld + t.tokReq + n then .error (.trap 13 6 0 0)
    else
      let d := s.dieAt die
      let s := s.setDieAt die { d with tokQueue := d.tokQueue ++ List.replicate n t.tid }
      let s := (s.setTask { t with tokReq := t.tokReq + n }).grant die
      .ok ((s.setG e.d.toNat (BitVec.ofNat 64 s.task.tokHeld)).advance e.words)

/-- The list without the last `n` entries equal to `x`. -/
def dropLastOf (l : List Nat) (x n : Nat) : List Nat :=
  (l.reverse.foldl (fun (a : List Nat × Nat) y => if y = x ∧ 0 < a.2 then (a.1, a.2 - 1) else (y :: a.1, a.2)) ([], n)).1

/-- `ptok.give` (R371): of the task's requests the newest are cancelled, which R371 does not say (DESIGN CHOICE, unsafe, log entry 47). -/
def tokenGive (e : Ext) (s : State) : State :=
  s.instr [e.a.toNat] [] e.syn false (wr := [e.d.toNat]) fun s =>
    let n := (s.g e.a.toNat).toNat
    let t := s.task
    let die := dieOf s.curCore
    let cancel := Nat.min n t.tokReq
    let back := Nat.min (n - cancel) t.tokHeld
    let d := s.dieAt die
    let s := s.setDieAt die { d with tokQueue := dropLastOf d.tokQueue t.tid cancel }
    let s := (s.setTask { t with tokReq := t.tokReq - cancel, tokHeld := t.tokHeld - back }).grant die
    .ok ((s.setG e.d.toNat (BitVec.ofNat 64 s.task.tokHeld)).advance e.words)

/-- The spare limit handed out, one at a time, to the dies in turn (R370). -/
def spread (want : List Nat) : (fuel : Nat) → (spare die idle : Nat) → List Nat → List Nat
  | 0, _, _, _, l => l
  | n + 1, spare, die, idle, l =>
    if spare = 0 ∨ idle = 4 then l
    else if l.getD die 0 < want.getD die 0 then
      spread want n (spare - 1) ((die + 1) % 4) 0 (l.set die (l.getD die 0 + 1))
    else spread want n spare ((die + 1) % 4) (idle + 1) l

/-- TOKEN_REDIVISION (R370, R431). -/
def tokenRedivision (s : State) : State :=
  let b := s.pkg.boot.budget
  let want := (List.range 4).map fun d => Nat.min 64 (s.tokensOn d + (s.dieAt d).tokQueue.length)
  let l := want.map fun w => Nat.min w (b / 4)
  let l := spread want 2048 (b - l.foldl (· + ·) 0) (s.pkg.arbEpoch % 4) 0 l
  let s := (List.range 4).foldl (fun s d => s.setDieAt d { s.dieAt d with limit := l.getD d 0 }) s
  let s := s.setPkg { s.pkg with arbEpoch := s.pkg.arbEpoch + 1 }
  (List.range 4).foldl (fun s d => s.grant d) s

/-! ### `fork`, `join`, `qsub` -/

/-- `fork` (R353), which parks while the core spills a record of its SRAM. -/
def forkTask (e : Ext) (s : State) : State :=
  s.instr [e.a.toNat, e.b.toNat, e.c.toNat] [] e.syn false fun s => s.notTimed <|
    let t := s.task
    let core := s.curCore
    let procid := t.procid.toNat
    if t.bounded then .error (.trap 13 1 0 0)
    else if s.g e.a.toNat &&& 3 ≠ 0 then .error (.trap 13 8 0 0)
    else if s.scap procid ≤ (s.spindle core procid).length then .error (.trap 13 2 0 0)
    else
      let drained := s.drained
      let r : Rec := {
        code := s.g e.a.toNat, frame := s.g e.b.toNat, g4 := s.g e.c.toNat
        taskidx := t.taskidx.truncate 48, grp := t.group, mode := t.mode, ls := t.ls, launch := t.launch, node := t.node
        owner := if drained then none else some (t.tid, (s.coreAt core).storeSerial), born := some s.pkg.refCycle }
      let s := if drained then s else s.flushUpdates t.tid
      let s := (s.pushRec core procid r).countIn t.launch t.node
      let s := match t.group with
        | some cl => (s.joinGroup procid cl 0).getD s
        | none => s
      let s := s.push (.takeWork core)
      .ok (if 17 ≤ (s.spindle core procid).length then s.accepted e.words else s.advance e.words)

/-- `join` (R354): the atomic on the counter; the context waits for its old value. -/
def joinTask (a words : Nat) (syn : List Nat) (s : State) : State :=
  s.instr [a] [] syn false fun s => s.notTimed <|
    let ea := s.g a
    match s.check .atomic 0 ea 8 8 with
    | .error x => .error x
    | .ok p => s.afterDrain true <|
      let s := s.noteWalk s.curCore s.task.procid.toNat 0 ea
      let m : MemArg := { sp := 0, ea, words, acq := true, rel := true, scope := 4, hint := 0 }
      .ok (s.request [⟨p, 8⟩] [] .join m 0 (some (.dec, 0, 0)))

/-- The end of `join`, with the old value (R354). -/
def State.finishJoin (s : State) (old words : Nat) : State :=
  let v := asSigned 64 old
  if v < 1 then s.late (.trap 13 3 0 0)
  else
    let s := (s.acquireAll s.curCore 4 (s.dieTime s.curCore)).wakeMe
    if v = 1 then s.advance words else s.finish

/-- `qsub` (R357). -/
def queueSubmit (e : Ext) (s : State) : State :=
  s.instr [e.a.toNat, e.b.toNat] [] e.syn false fun s => s.notTimed <|
    let q := (s.g e.a.toNat).toNat
    let ea := s.g e.b.toNat
    let x := s.queue q
    if s.task.bounded then .error (.trap 13 1 0 0)
    else if 4095 < q || x.state = .disabled || x.procid ≠ s.task.procid.toNat || !x.dev then .error (.trap 13 4 0 0)
    else match s.checkAll .load 0 8 1 ((List.range 16).map fun i => ea + BitVec.ofNat 64 (8 * i)) with
      | .error r => .error (if ea.toNat % 128 ≠ 0 then .trap 3 0 0 ea else r)
      | .ok es =>
        if ea.toNat % 128 ≠ 0 then .error (.trap 3 0 0 ea)
        else if (x.wridx - x.rdidx).toNat = x.size then .error (.retry 6 (.queueRoom q))
        else s.afterDrain true <|
          let s := s.noteWalk s.curCore s.task.procid.toNat 0 ea
          let m : MemArg := { sp := 0, ea, words := e.words, acq := false, rel := false, scope := 0, hint := 0 }
          .ok (s.request es [] (.entry q) m 0 none)

/-- The front-end writes a submitted entry, PHASE as R335 expects (R357); the state with its back-invalidations
where a host holds the slot. -/
def State.finishQsub (s : State) (q : Nat) (vs : List Nat) (words : Nat) : Except State State :=
  let x := s.queue q
  let slot := x.base + BitVec.ofNat 64 (128 * (x.wridx.toNat % x.size))
  let d := vs.foldr (fun v r => v + 2 ^ 64 * r) 0
  let phase := 1 - x.wridx.toNat / x.size % 2
  let d := d / 2 * 2 + phase
  let s := s.supplyShared x.procid [slot, slot + 64]
  if x.state = .disabled || !x.dev || (x.wridx - x.rdidx).toNat = x.size then .ok (s.wakeMe.refull)
  else match s.sharedPlace x.procid .store slot 64, s.sharedPlace x.procid .store (slot + 64) 64 with
    | some a, some b => match s.snoop true [a, b] with
      | some s => .error s
      | none =>
        let s := (s.ioWrite b 64 (d / 2 ^ 512)).ioWrite a 64 (d % 2 ^ 512)
        .ok (((s.setQueue q (x.setWridx (x.wridx + 1))).pushOnce .queueRead).wakeMe.advance words)
    | _, _ => .ok (s.late (.miss 0 slot true false))

/-! ### Meanings -/

/-- PDSYNC_WRITE (R329). -/
def execPdsyncWrite (n : Stored Nat) (s : State) : Host.Outcome State Fault Refusal :=
  done (s.storeFrom n.2 (pdsyncWrite n.1))

/-- QSYNC_WRITE (R331). -/
def execQsyncWrite (n : Stored Nat) (s : State) : Host.Outcome State Fault Refusal :=
  done (s.storeFrom n.2 (qsyncWrite n.1))

/-- DOORBELL_WRIDX (R332). -/
def execDoorbellWridx (q : Nat) (value : Stored (BitVec 32)) (s : State) : Host.Outcome State Fault Refusal :=
  done (s.storeFrom value.2 (doorbellWridx q value.1))

/-- DOORBELL_RDIDX (R332). -/
def execDoorbellRdidx (q : Nat) (value : Stored (BitVec 32)) (s : State) : Host.Outcome State Fault Refusal :=
  done (s.storeFrom value.2 (doorbellRdidx q value.1))

/-- DOORBELL_RESUME (R332). -/
def execDoorbellResume (q : Stored Nat) (s : State) : Host.Outcome State Fault Refusal :=
  done (s.storeFrom q.2 (doorbellResume q.1))

/-- DOORBELL_DROP (R332). -/
def execDoorbellDrop (q : Stored Nat) (s : State) : Host.Outcome State Fault Refusal :=
  done (s.storeFrom q.2 (doorbellDrop q.1))

/-- QUEUE_READ (R335). -/
def execQueueRead (s : State) : Host.Outcome State Fault Refusal := done (queueRead s)

/-- HEADER_REPOLL (R335). -/
def execHeaderRepoll (q : Nat) (s : State) : Host.Outcome State Fault Refusal := done (headerRepoll q s)

/-- ENTRY_START (R338). -/
def execEntryStart (procid : Nat) (s : State) : Host.Outcome State Fault Refusal := done (entryStart procid s)

/-- PERIOD_START (R342). -/
def execPeriodStart (q : Nat) (s : State) : Host.Outcome State Fault Refusal := done (periodStart q s)

/-- ENTRY_COMPLETE (R337). -/
def execEntryComplete (id : Nat) (s : State) : Host.Outcome State Fault Refusal := done (entryComplete id s)

/-- QUANTUM_BOUNDARY (R358). -/
def execQuantumBoundary (die : DieId) (s : State) : Host.Outcome State Fault Refusal := done (quantumBoundary die.toNat s)

/-- ALLOC_SWAP_OUT (R347). -/
def execAllocSwapOut (procid cluster : Nat) (s : State) : Host.Outcome State Fault Refusal := done (allocSwapOut procid cluster s)

/-- ALLOC_SWAP_IN (R347). -/
def execAllocSwapIn (procid cluster : Nat) (s : State) : Host.Outcome State Fault Refusal := done (allocSwapIn procid cluster s)

/-- WEIGHT_GATE_OPEN (R369). -/
def execWeightGateOpen (id : Nat) (s : State) : Host.Outcome State Fault Refusal := done (weightGateOpen id s)

/-- TOKEN_REDIVISION (R370). -/
def execTokenRedivision (s : State) : Host.Outcome State Fault Refusal := done (tokenRedivision s)

/-- BOUNDED_COST_EXPIRE (R343). -/
def execBoundedCostExpire (core : CoreId) (ctx : CtxId) (tid : Nat) (s : State) : Host.Outcome State Fault Refusal :=
  done (s.within (ctxKey core.toNat ctx.toNat) (boundedCostExpire tid))

/-- `ptok.take` (R371). -/
def execPtokTake (e : Ext) (s : State) : Host.Outcome State Fault Refusal := done (tokenTake e s)

/-- `ptok.give` (R371). -/
def execPtokGive (e : Ext) (s : State) : Host.Outcome State Fault Refusal := done (tokenGive e s)

/-- `fork` (R353). -/
def execFork (e : Ext) (s : State) : Host.Outcome State Fault Refusal := done (forkTask e s)

/-- `join` (R354). -/
def execJoin (a : BitVec 7) (s : State) : Host.Outcome State Fault Refusal := done (joinTask a.toNat 1 [] s)

/-- `join` (R354). -/
def execJoinX (e : Ext) (s : State) : Host.Outcome State Fault Refusal := done (joinTask e.a.toNat e.words e.syn s)

/-- `qsub` (R357). -/
def execQsub (e : Ext) (s : State) : Host.Outcome State Fault Refusal := done (queueSubmit e s)

end Sys2Proof.Machine
end

