-- ==== Sys2Proof/Machine/System.lean ====
section
/-! DEFINITION. System software's side (15_traps): the fault queue (R386 to R388), responses (R389), halt
domains (R393, R396), the service cores and `sys` (R398 to R401), and translation maintenance (R402, R437). -/

namespace Sys2Proof.Machine

/-! ### The fault queue -/

/-- The 32 bytes of a record (Table 6 of R387). -/
def FaultRec.bytes (r : FaultRec) : Nat :=
  (r.kind % 256 + 2 ^ 8 * (r.cls % 256) + 2 ^ 16 * (r.cause % 256) + 2 ^ 24 * r.w.toNat + 2 ^ 25 * r.x.toNat +
      2 ^ 26 * r.pmode.toNat + 2 ^ 32 * (r.procid % 1024) + 2 ^ 42 * (r.core % 256) + 2 ^ 50 * (r.unit % 16)) +
    2 ^ 64 * r.pc.toNat + 2 ^ 128 * r.info.toNat + 2 ^ 192 * (r.sel.toNat + 2 ^ 16 * (r.image.toNat / 2 ^ 12 % 2 ^ 36))

/-- FAULT_RECORD_WRITE (R386): the oldest waiting record is written, FQTAIL advances, and FQVEC is raised; in a
full ring it waits (DEDUCED, unsafe, log entry 25). -/
def faultRecordWrite (s : State) : State :=
  let p := s.pkg
  match p.records with
  | [] => s
  | r :: rest =>
    if (p.fqtail - p.fqhead).toNat = 2 ^ p.fqlog2 then s.push .faultRecordWrite
    else
      let pa := p.fqbase.toNat + 32 * (p.fqtail.toNat % 2 ^ p.fqlog2)
      match s.snoop true [.mem pa] with
      | some s => s.push .faultRecordWrite
      | none =>
        let s := s.setPkg { p with records := rest }
        let s := s.ioWrite (.mem pa) 32 r.bytes
        (s.setPkg { s.pkg with fqtail := s.pkg.fqtail + 1 }).raise p.fqvec.toNat

/-! ### Responses (R389) -/

/-- The fields of XRESP: TARGET, CORE, UNIT, IMAGE[47:12]. -/
def respFields (v : Word) : Nat × Nat × Nat × Nat :=
  (bitsOf v.toNat 4 2, bitsOf v.toNat 6 8, bitsOf v.toNat 14 4, bitsOf v.toNat 18 36)

/-- Does the image of a task match a response? -/
def Task.imageIs (t : Task) (image : Nat) : Bool := t.image.toNat / 2 ^ 12 % 2 ^ 36 = image

/-- Is a record of the kinds for this party still waiting to be written (R404)? -/
def State.recordWaits (s : State) (kinds : List Nat) (core unit : Nat) : Bool :=
  s.pkg.records.any fun r => r.kind ∈ kinds && r.core = core && r.unit = unit

/-- Is a task's own record still waiting to be written, so that nothing is yet waiting for a response (R404)? -/
def State.taskRecordWaits (s : State) (t : Task) (core unit : Nat) : Bool :=
  s.pkg.records.any fun r => (r.kind = 1 || r.kind = 2) && r.core = core && r.unit = unit && r.image = t.image && r.procid = t.procid.toNat

/-- The context that a response names: parked for system software, also for a fault in its own save area (R190), with the image named. -/
def State.respContext (s : State) (core unit image : Nat) : Bool :=
  let x := s.ctxAt (ctxKey core unit)
  (match x.wait with | .response => true | .saved h => h = x.task.key | _ => false) && x.task.imageIs image && !s.taskRecordWaits x.task core unit

/-- The held task that a response names: the oldest on the core that waits, parked in the context named (R389) (DEDUCED, unsafe, log entry 14). -/
def State.respTask (s : State) (core unit image : Nat) : Option Task :=
  ((s.coreAt core).held.find? fun h => h.2.waits && h.2.waitUnit = unit && h.2.imageIs image && !s.taskRecordWaits h.2 core unit).map (·.2)

/-- Changes the held task that a response names (R389); a task that was not waiting stays as it is (DEDUCED, unsafe, log entry 14). -/
def State.respHeld (s : State) (core unit image : Nat) (f : Task → Task) : State :=
  match s.respTask core unit image with
  | none => s
  | some t =>
    let c := s.coreAt core
    (s.setCoreAt core { c with held := c.held.map fun h => (h.1, if h.2.tid = t.tid then f { h.2 with waits := false } else h.2) }).pushOnce (.takeWork core)

/-- What waits on the save area of the task with the image named goes on (R190). -/
def State.retryClaims (s : State) (image : Nat) : State :=
  { s with ctxs := s.ctxs.map fun x => (x.1, match x.2.wait with
      | .saved h => if h / 1024 / 2 ^ 12 % 2 ^ 36 = image then x.2.satisfy else x.2
      | _ => x.2) }

/-- The copy of a channel that waits for system software. -/
def State.respCopy (s : State) (core ch : Nat) : Option Copy :=
  if s.recordWaits [4] core ch then none
  else (s.coreAt core).copies.find? fun x => x.ch = ch && x.running && x.tfault

/-- A copy goes on (R240). -/
def State.resumeCopy (s : State) (core : Nat) (x : Copy) : State :=
  let s := s.setCopy core { x with tfault := false }
  let c := s.coreAt core
  (s.setCoreAt core { c with chans := c.chans.put x.ch { c.chan x.ch with state := 2 } }).push (.copyLineWritten (coreId core) x.serial)

/-- The slot that waits for system software (R438). -/
def State.respSlot (s : State) (core slot : Nat) : Option Lp :=
  if s.recordWaits [6] core slot then none
  else match (s.coreAt core).lps.find slot with
    | some lp => if lp.waiting then some lp else none
    | none => none

/-- A slot's work goes on from where it stopped (R438). -/
def State.resumeSlot (s : State) (core slot : Nat) (lp : Lp) : State :=
  let lp := { lp with waiting := false, actionFault := false }
  let s := s.setLp core slot lp
  if lp.ending then s.storeRolls core slot lp else s.push (.tmsgReoffer core slot)

/-- XRESP_RESUME. -/
def xrespResume (v : Word) (s : State) : State :=
  let (target, core, unit, image) := respFields v
  match target with
  | 0 =>
    (if s.respContext core unit image then s.within (ctxKey core unit) State.wakeMe else s.respHeld core unit image id).retryClaims image
  | 1 => match s.respCopy core unit with | some x => s.resumeCopy core x | none => s
  | 2 => match s.respSlot core unit with | some lp => s.resumeSlot core unit lp | none => s
  | _ => s

/-- XRESP_RESUME_AT. -/
def xrespResumeAt (v : Word) (s : State) : State :=
  let (target, core, unit, image) := respFields v
  let go := fun (t : Task) => { t with pc := s.pkg.xrespa &&& ~~~3#64 }
  if target ≠ 0 then s
  else if s.respContext core unit image then
    s.within (ctxKey core unit) fun s => (s.setTask (go s.task)).wakeMe
  else s.respHeld core unit image go

/-- A held task is terminated in its image: it ends when it resumes (R355, R389) (DEDUCED, unsafe, log entry 14). -/
def State.terminateHeld (s : State) (core unit image : Nat) : State :=
  let hit := s.respTask core unit image
  let s := s.respHeld core unit image fun t => { t with killed := true, inEvent := false }
  match hit.bind fun t => t.node.map fun a => (t.launch, a) with
  | some (l, a) => s.push (.nodeFault l a 3)
  | none => s

/-- An end of a slot's logical process that does not write ROLLS (R438). -/
def State.killSlot (s : State) (core slot : Nat) (lp : Lp) : State :=
  let s := (s.dropAntis lp).mapTask lp.tid fun t => { t with tlp := none, inEvent := false, atTnext := false }
  let s := s.storeLineOf core lp.tid
  let c := s.coreAt core
  (s.setCoreAt core { c with lps := c.lps.drop slot }).wakeSlot core slot

/-- The response TERMINATE to a slot. -/
def State.terminateSlot (s : State) (core slot : Nat) (lp : Lp) : State :=
  if lp.actionFault then
    let gone := if lp.acting ≠ 0 then some lp.actIdx else (lp.nextAction (s.gvtOf lp.procid)).map (·.index)
    s.resumeSlot core slot { lp with acting := 0, actIdx := 0, actions := lp.actions.filter fun a => some a.index ≠ gone }
  else s.killSlot core slot lp

/-- XRESP_TERMINATE. -/
def xrespTerminate (v : Word) (s : State) : State :=
  let (target, core, unit, image) := respFields v
  match target with
  | 0 =>
    if s.respContext core unit image then s.within (ctxKey core unit) fun s => s.terminate 3
    else s.terminateHeld core unit image
  | 1 => match s.respCopy core unit with
    | some _ => ((s.withdrawCopies core unit 5 0 false).wakeChannel core unit).tryPublish
    | none => s
  | 2 => match s.respSlot core unit with | some lp => s.terminateSlot core unit lp | none => s
  | _ => s

/-! ### Halt domains (R393, R396) -/

/-- HCTL_STOP (DESIGN CHOICE, unsafe, log entry 12). -/
def hctlStop (dom : Nat) (s : State) : State := s.gangStop (dom % 8) 1 ioDie 0 0

/-- A context of a stopped core is as it was, or READY where its park was met (R396). -/
def Context.restart (x : Context) : Context :=
  if x.state ≠ .stopped then x
  else if x.prior = .parked ∧ x.met then { x.wake with met := false }
  else { x with state := x.prior, met := false }

/-- The context that holds the task of a number. -/
def State.contextOf (s : State) (tid : Nat) : Option Nat := (s.ctxs.find? fun x => x.2.state ≠ .free && x.2.task.tid = tid).map (·.1)

/-- The core where a task is held or queued, or to which it is on its way. -/
def State.coreWith (s : State) (tid : Nat) : Nat :=
  match s.cores.find? fun (c : Nat × Core) => (c.2.held.map (·.2) ++ c.2.inbound).any (·.tid = tid) with
  | some c => c.1
  | none => ((s.pkg.shuttles.find? fun h => h.1.tid = tid).map fun h => h.2.1).getD 0

/-- A task that held erroneous state ends, with a record of KIND 2 and CLASS 6, wherever it is: one in no context when it resumes (R355, R396)
(DEDUCED, unsafe, log entry 14). -/
def State.endBadTask (s : State) (tid : Nat) : State :=
  match s.contextOf tid with
  | some k => s.within k fun s => (s.report { s.ownRecord 2 with cls := 6 }).terminate 6
  | none => match s.tasks.find? (·.tid = tid) with
    | none => s
    | some t =>
      let s := s.mapTask tid fun t => { t with killed := true, waits := false, inEvent := false }
      let s := s.report { kind := 2, cls := 6, pmode := t.mode, procid := t.procid.toNat, core := s.coreWith tid, unit := 0, pc := t.pc, image := t.image }
      match t.node with | some a => s.push (.nodeFault t.launch a 6) | none => s

/-- Every task that held erroneous state ends (R396). -/
def State.endBad (s : State) : State := s.pkg.badTasks.eraseDups.foldl State.endBadTask (s.setPkg { s.pkg with badTasks := [] })

/-- HCTL_RESTART. -/
def hctlRestart (dom : Nat) (s : State) : State :=
  let dom := dom % 8
  if !s.pkg.halted.getLsbD dom then s
  else
    let cores := (List.range 256).filter fun k => s.domainOf k = dom
    let s := s.setPkg { s.pkg with halted := s.pkg.halted &&& ~~~(1#8 <<< dom) }
    (cores.foldl (fun s k =>
      let s := ctxRange.foldl (fun s i =>
        if (s.ctxAt (ctxKey k i)).state = .stopped then s.setCtxAt (ctxKey k i) (s.ctxAt (ctxKey k i)).restart else s) s
      (s.pumpStreams k).pushOnce (.takeWork k)) s).endBad

/-- UNCORRECTABLE_ERROR (R393): an error in state that no context owns; on the I/O die it stops every domain.
EINFO is free; `ctx` is the context, if any, whose control line it was, and whose PROCID the halt record gives (R395) (DESIGN CHOICE, unsafe,
log entry 10) (DESIGN CHOICE, unsafe, log entry 12). -/
def uncorrectableError (core : Nat) (tids : List Nat) (ctx : Option Nat) (s : State) : State :=
  let procid := match ctx with | some i => (s.ctxAt (ctxKey core i)).task.procid.toNat | none => 0
  let r := s.freshWord
  let s := r.2.setPkg { r.2.pkg with badTasks := r.2.pkg.badTasks ++ tids }
  let doms := if core < 256 then [s.domainOf core] else List.range 8
  doms.foldl (fun s d => s.gangStop d 4 core procid r.1) s

/-! ### The gate (R400, R401) -/

/-- KIND and space register of argument `i` in ARGSPEC. -/
def argSpec (spec : Nat) (i : Nat) : Nat × Nat := (bitsOf spec (4 * i) 2, bitsOf spec (4 * i + 2) 2)

/-- An argument as the gate sees it: its number, selector and value. -/
structure GateArg where
  i : Nat
  sel : BitVec 16
  addr : Word
  deriving DecidableEq, Repr

/-- The arguments of a KIND. -/
def State.gateArgs (s : State) (kind : Nat) : List GateArg :=
  ((List.range 6).filter fun i => (argSpec (s.g 10).toNat i).1 = kind).map fun i =>
    { i, sel := s.task.space (argSpec (s.g 10).toNat i).2, addr := s.g (4 + i) }

/-- The length of the j-th marshalled pointer. -/
def State.gateLen (s : State) (j : Nat) : Nat := bitsOf (s.g 11).toNat (16 * j) 13

/-- Is an offset inside an element of the pools 0 to 4 or 8 of the process? -/
def State.inPools (s : State) (procid off : Nat) : Bool :=
  [0, 1, 2, 3, 4, 8].any fun i =>
    let p := (s.process procid).pools.get i {}
    let n := if i = 8 then p.count * 32 * 256 else p.count * (poolElem i).1
    p.base.toNat ≤ off && off < p.base.toNat + n

/-- The scratchpad bytes of a marshalled pointer, as core and offset, if the gate accepts it. -/
def State.marshalled (s : State) (a : GateArg) (n : Nat) : Option (Nat × Nat) :=
  match spaceOf s.curCore a.sel.toNat with
  | some (.scratch c) =>
    if clusterOf c ≠ clusterOf s.curCore then none
    else match s.alloc c s.task.procid.toNat with
      | some al => if a.addr.toNat + n ≤ al.size then some (c, al.base + a.addr.toNat) else none
      | none => none
  | _ => none

/-- The marshalled buffers of the call: core, offset, length; none where the gate rejects one. -/
def State.buffers (s : State) : Option (List (Nat × Nat × Nat)) :=
  ((s.gateArgs 2).mapIdx fun j a => (s.marshalled a (s.gateLen j)).map fun b => (b.1, b.2, s.gateLen j)).foldr
    (fun b l => b.bind fun b => l.map fun l => b :: l) (some [])

/-- The cases in which the gate rejects a call with EARG. -/
def State.gateRejects (s : State) : Bool :=
  let spec := (s.g 10).toNat
  let lens := (s.g 11).toNat
  let m := (s.gateArgs 2).length
  2 ^ 24 ≤ spec || (List.range 6).any (fun i => (argSpec spec i).1 = 3) || 2 < m ||
    (List.range 2).any (fun j => if j < m then s.gateLen j = 0 || 4096 < s.gateLen j else s.gateLen j ≠ 0) ||
    bitsOf lens 13 3 ≠ 0 || bitsOf lens 29 35 ≠ 0 ||
    (s.gateArgs 1).any (fun a => 1 < a.sel.toNat ||
      (a.sel = 1 && (2 ^ 48 ≤ a.addr.toNat || s.inPools s.task.procid.toNat a.addr.toNat))) ||
    s.buffers.isNone

/-- The gate translates the page of each plain pointer's first byte, with read permission. -/
def State.gateMiss (s : State) : Option Stop :=
  firstSome (fun (a : GateArg) => match s.locate s.agent .load a.sel a.addr 1 with
    | .ok _ => none
    | .error (.owned l) => some (.retry 1 (.hostLine l))
    | .error _ => some (.miss a.sel a.addr false false)) (s.gateArgs 1)

/-- The two calls that the gate performs itself (R401). -/
def State.gateCall (s : State) (n : Nat) : State :=
  let t := s.task
  if n = 16 then
    if 3 < (s.g 4).toNat ∨ 2 ^ 16 ≤ (s.g 5).toNat then s.setG 4 1
    else
      let v : BitVec 16 := (s.g 5).truncate 16
      (s.setTask (match (s.g 4).toNat with
        | 0 => { t with s0 := v }
        | 1 => { t with s1 := v }
        | 2 => { t with s2 := v }
        | _ => { t with s3 := v })).setG 4 0
  else (s.setG 5 (BitVec.ofNat 64 (t.s0.toNat + 2 ^ 16 * t.s1.toNat + 2 ^ 32 * t.s2.toNat + 2 ^ 48 * t.s3.toNat))).setG 4 0

/-- The registers that a call reads (R399, R401). -/
def callRegs (n : Nat) : List Nat := if n = 16 then [4, 5] else if n < 256 then [] else [4, 5, 6, 7, 8, 9, 10, 11]

/-- `sys n` (R399). -/
def systemCall (n : Nat) (s : State) : State :=
  s.instr (callRegs n) [] [] false fun s => s.notTimed <|
    if !s.mayEnd then .error (.retry 1 .drained)
    else
      let finish := fun (s : State) => Except.ok ((s.acquireAll s.curCore 5 (s.dieTime s.curCore)).advance 1)
      if n = 16 ∨ n = 17 then finish (s.gateCall n)
      else if n < 256 then finish (s.setG 4 2)
      else if s.gateRejects then finish (s.setG 4 1)
      else match s.gateMiss with
        | some e => .error e
        | none =>
          let die := dieOf s.curCore
          let d := s.dieAt die
          .ok (((s.park 1 (.syscall n)).setDieAt die { d with calls := d.calls ++ [(s.curCore, s.curCtx, n)] }).push (.serviceCallStart die))

/-! ### The service core (R398, R399) -/

/-- Is the service core of a die stopped: cluster 0 of the die (R394)? -/
def State.serviceHalted (s : State) (die : Nat) : Bool := s.coreHalted (coreOf (die * 16) 0)

/-- SERVICE_CALL_START (R398): the next call of the die, in order of arrival. -/
def serviceCallStart (die : Nat) (s : State) : State :=
  let d := s.dieAt die
  match d.calls, d.running with
  | c :: rest, none =>
    if s.serviceHalted die then s.push (.serviceCallStart die)
    else (s.setDieAt die { d with calls := rest, running := some c }).push (.sysReply die)
  | _, _ => s

/-- One byte that the firmware writes in the caller's spaces 0x0000 or 0x0001; where and what is free. A byte that
is not mapped for writing is not written (DESIGN CHOICE, unsafe, log entry 13). -/
def State.firmwareByte (s : State) (procid : Nat) : State :=
  let sel := s.pick 2
  let off := sel.2.freshWord
  let v := off.2.pick 256
  let s := v.2
  match s.locate ⟨0, procid, true⟩ .store (BitVec.ofNat 16 sel.1) off.1 1 with
  | .ok (.mem pa) => s.ioWrite (.mem pa) 1 v.1
  | _ => s

/-- The marshalled buffers are written back, with what the firmware left in them (DESIGN CHOICE, unsafe, log entry 13). -/
def State.firmwareBuffers (s : State) (bs : List (Nat × Nat × Nat)) : State :=
  bs.foldl (fun s b => (List.range b.2.2).foldl (fun s i =>
    let keep := s.pick 2
    let v := keep.2.pick 256
    if keep.1 = 0 then v.2 else v.2.writeScratch b.1 (b.2.1 + i) 1 v.1 0) s) s

/-- The memory key of a byte of a service core's private SRAM (DESIGN CHOICE, safe, log entry 7). -/
def serviceKey (die off : Nat) : Nat := 2 ^ 50 + die * 2 ^ 18 + off

/-- Takes a free condition (DESIGN CHOICE, unsafe, log entry 2). -/
def State.flip (s : State) : Bool × State :=
  let p := s.pick 2
  (p.1 = 1, p.2)

/-- The service core of a die has run firmware: its registers, its pc, its reservation, the ninth barrier counter and its SRAM are as the
firmware leaves them, free values (R398) (DESIGN CHOICE, unsafe, log entry 13). -/
def State.firmwareRuns (s : State) (die : Nat) : State :=
  let pc := s.freshWord
  let xs := (List.range 31).foldl (fun (a : Store Word × State) i => let w := a.2.freshWord; (a.1.set (i + 1) w.1 0, w.2)) (([] : Store Word), pc.2)
  let f := xs.2.flip
  let r := f.2.freshWord
  let c := r.2.pick 65536
  let ph := c.2.freshWord
  let svc : Service := { pc := pc.1, x := xs.1, reserved := if f.1 then some r.1 else none, barrier := { count := c.1, phase := ph.1.truncate 15 } }
  let s := ph.2.setDieAt die { ph.2.dieAt die with svc }
  let n := s.freshWord
  (List.range n.1.toNat).foldl (fun s _ =>
    let off := s.pick (2 ^ 18)
    let v := off.2.pick 256
    { v.2 with mem := writeBytes v.2.mem (serviceKey die off.1) 1 v.1 }) n.2

/-- What a call of the executing context writes in memory and in its marshalled buffers: free (DESIGN CHOICE, unsafe, log entry 13). -/
def State.firmwareWrites (s : State) : State :=
  let n := s.freshWord
  let s := (List.range n.1.toNat).foldl (fun s _ => s.firmwareByte s.task.procid.toNat) n.2
  s.firmwareBuffers (s.buffers.getD [])

/-- The status of a call, which is never EARG here (DESIGN CHOICE, unsafe, log entry 13). -/
def State.firmwareStatus (s : State) : Word × State :=
  let r := s.freshWord
  (if r.1 = 1 then 2 else r.1, r.2)

/-- The results of a call in the executing context: g4 the status; each of g5 to g9 as the call leaves it. What firmware computes is free
(DESIGN CHOICE, unsafe, log entry 13). -/
def State.firmwareResults (s : State) (status : Word) : State :=
  let s := s.setG 4 status
  [5, 6, 7, 8, 9].foldl (fun s i =>
    let keep := s.pick 2
    let v := keep.2.freshWord
    if keep.1 = 0 then v.2 else v.2.setG i v.1) s

/-- What identifies the call of an action: its slot, its process, and its number on the package (R314). -/
def callOf (ctx : Nat) : Nat × Nat × Nat := ((ctx - 16) % 4, (ctx - 16) / 4 % 1024, (ctx - 16) / 4096)

/-- The call of an irrevocable action ends (Table 7 of R314): a record of KIND 10 gives its status, and the actions of the slot that made it go
on, if its logical process is still there (DESIGN CHOICE, unsafe, log entry 13). -/
def State.endAction (s : State) (die core ctx n : Nat) : State :=
  let (slot, procid, serial) := callOf ctx
  let (v, s) := if n < 256 then ((2 : Word), s) else s.freshWord
  let k := s.freshWord
  let s := if n < 256 then s
    else if v = 2 then s.firmwareRuns die
    else (List.range k.1.toNat).foldl (fun s _ => s.firmwareByte procid) (k.2.firmwareRuns die)
  let s := s.report { kind := 10, procid, core, unit := slot, info := v }
  match s.lpAt core slot with
  | some lp =>
    if lp.procid = procid ∧ lp.acting = serial then
      (s.setLp core slot { lp with acting := 0, actIdx := 0, actions := lp.actions.filter (·.index ≠ lp.actIdx) }).push (.tmsgReoffer core slot)
    else s
  | none => s

/-- SYS_REPLY (R399): the caller completes, an acquire at system scope; a call that the firmware does not define, of status 2, writes g4 alone
(DESIGN CHOICE, unsafe, log entry 13). -/
def sysReply (die : Nat) (s : State) : State :=
  let d := s.dieAt die
  match d.running with
  | none => s
  | some (core, ctx, n) =>
    if s.serviceHalted die then s.push (.sysReply die)
    else
      let s := s.setDieAt die { d with running := none }
      let s := if d.calls.isEmpty then s else s.push (.serviceCallStart die)
      if 16 ≤ ctx then s.endAction die core ctx n
      else s.within (ctxKey core ctx) fun s =>
        match s.me.wait with
        | .syscall _ =>
          let (v, s) := (s.firmwareRuns die).firmwareStatus
          let s := if v = 2 then s.setG 4 v else (s.firmwareWrites).firmwareResults v
          ((s.acquireAll core 5 (s.dieTime core)).wakeMe).advance 1
        | _ => s

/-! ### Translations (R402, R437) -/

/-- Which translations an `xlinv` drops. -/
inductive Xlinv where
  | all
  | page (procid : Nat) (off : Word)
  | proc (procid : Nat)
  deriving DecidableEq, Repr

/-- Is a cached translation dropped? -/
def Xlinv.hits (x : Xlinv) (t : Trans) : Bool :=
  match x with
  | .all => true
  | .page p off => t.covers p t.priv off.toNat
  | .proc p => t.procid = p

/-- Is a walk in flight discarded? -/
def Xlinv.hitsWalk (x : Xlinv) (s : State) (procid : Nat) (priv : Bool) (off : Nat) : Bool :=
  match x with
  | .all => true
  | .page p a => procid = p && (match s.walk procid priv off with | some t => t.covers p priv a.toNat | none => true)
  | .proc p => procid = p

/-- The translations and walks concerned are dropped everywhere (DESIGN CHOICE, unsafe, log entry 9). -/
def State.xlinv (s : State) (x : Xlinv) : State :=
  let keep := fun (e : Instr) => match e with
    | .translationWalkDone p priv off => !x.hitsWalk s p priv off
    | _ => true
  let stay := fun (ts : List Trans) => ts.filter fun t => !x.hits t
  { s with
    cores := s.cores.map fun (c : Nat × Core) => (c.1, { c.2 with tlb := stay c.2.tlb })
    dies := s.dies.map fun (d : Nat × Die) => (d.1, { d.2 with
      tlb := stay d.2.tlb, walks := d.2.walks.filter fun w => !x.hitsWalk s w.2.1 w.2.2.1 w.2.2.2 })
    pkg := { s.pkg with trans := stay s.pkg.trans }
    agenda := s.agenda.filter keep }

/-- An `xlinv`, of the registers it names and what it drops (R402). -/
def dropTranslations (regs : List Nat) (e : Ext) (x : State → Xlinv) (s : State) : State :=
  s.instr regs [] e.syn true fun s => s.afterDrain true <| .ok ((s.xlinv (x s)).advance e.words)

/-- The die and the core of the oldest walk in flight for an offset. -/
def State.walkOut (s : State) (procid : Nat) (priv : Bool) (off : Nat) : Option (Nat × Nat) :=
  s.dies.findSome? fun (d : Nat × Die) => (d.2.walks.find? fun w => w.2 = (procid, priv, off)).map fun w => (d.1, w.1)

/-- TRANSLATION_WALK_DONE (R437): a walk in flight ends, and its leaf enters the caches of its die and of its core (DESIGN CHOICE, unsafe, log entry 9). -/
def translationWalkDone (procid : Nat) (priv : Bool) (off : Nat) (s : State) : State :=
  match s.walkOut procid priv off with
  | none => s
  | some (dn, core) =>
    if let some l := s.tableOwned core procid priv off then (s.askHost l).push (.translationWalkDone procid priv off)
    else
    let d := s.dieAt dn
    let d := { d with walks := d.walks.erase (core, procid, priv, off) }
    match s.walk procid priv off with
    | none => s.setDieAt dn d
    | some t => (s.setDieAt dn { d with tlb := addLeaf 16384 d.tlb t }).cacheLeaf core t

/-! ### Meanings -/

/-- FAULT_RECORD_WRITE (R386). -/
def execFaultRecordWrite (s : State) : Host.Outcome State Fault Refusal := done (faultRecordWrite s)

/-- XRESP_RESUME (R389). -/
def execXrespResume (value : Stored Word) (s : State) : Host.Outcome State Fault Refusal :=
  done (s.storeFrom value.2 (xrespResume value.1))

/-- XRESP_RESUME_AT (R389). -/
def execXrespResumeAt (value : Stored Word) (s : State) : Host.Outcome State Fault Refusal :=
  done (s.storeFrom value.2 (xrespResumeAt value.1))

/-- XRESP_TERMINATE (R389). -/
def execXrespTerminate (value : Stored Word) (s : State) : Host.Outcome State Fault Refusal :=
  done (s.storeFrom value.2 (xrespTerminate value.1))

/-- HCTL_STOP (R393). -/
def execHctlStop (dom : Stored Nat) (s : State) : Host.Outcome State Fault Refusal := done (s.storeFrom dom.2 (hctlStop dom.1))

/-- HCTL_RESTART (R396). -/
def execHctlRestart (dom : Stored Nat) (s : State) : Host.Outcome State Fault Refusal := done (s.storeFrom dom.2 (hctlRestart dom.1))

/-- UNCORRECTABLE_ERROR (R393). -/
def execUncorrectableError (core : Nat) (tids : List Nat × Option Nat) (s : State) : Host.Outcome State Fault Refusal :=
  done (uncorrectableError core tids.1 tids.2 s)

/-- `sys` (R399). -/
def execSys (i : BitVec 14) (s : State) : Host.Outcome State Fault Refusal := done (systemCall i.toNat s)

/-- SERVICE_CALL_START (R398). -/
def execServiceCallStart (die : Nat) (s : State) : Host.Outcome State Fault Refusal := done (serviceCallStart die s)

/-- SYS_REPLY (R399). -/
def execSysReply (die : Nat) (s : State) : Host.Outcome State Fault Refusal := done (sysReply die s)

/-- `xlinv.all` (R402). -/
def execXlinvAll (e : Ext) (s : State) : Host.Outcome State Fault Refusal := done (dropTranslations [] e (fun _ => .all) s)

/-- `xlinv.page` (R402). -/
def execXlinvPage (e : Ext) (s : State) : Host.Outcome State Fault Refusal :=
  done (dropTranslations [e.a.toNat, e.b.toNat] e
    (fun s => .page ((s.g e.b.toNat).toNat % 1024) (s.g e.a.toNat)) s)

/-- `xlinv.proc` (R402). -/
def execXlinvProc (e : Ext) (s : State) : Host.Outcome State Fault Refusal :=
  done (dropTranslations [e.b.toNat] e (fun s => .proc ((s.g e.b.toNat).toNat % 1024)) s)

/-- TRANSLATION_WALK_DONE (R437). -/
def execTranslationWalkDone (procid : Nat) (priv : Bool) (off : Nat) (s : State) : Host.Outcome State Fault Refusal :=
  done (translationWalkDone procid priv off s)

end Sys2Proof.Machine
end

