-- ==== Sys2Proof/Machine/Platform.lean ====
section
/-! DEFINITION. The register space (R405 to R415), the lease (R411, R412), the link reduction engine (R424 to R427),
the peer link's state (R416, R420), thermal holds (R430), the arbiter's registers (R431), and reset (R433 to R436). -/

namespace Sys2Proof.Machine

/-! ### The lease (R411, R412) -/

/-- LEASE_WRITE (R411): a store to LEASE from a port; before READY it is discarded (R433). -/
def leaseWrite (port : Bool) (v : Word) (s : State) : State :=
  let p := s.pkg
  let bad := s.setPkg { p with leaseBad := p.leaseBad + 1 }
  let e : BitVec 32 := v.truncate 32
  if p.phase < 6 then s
  else if v >>> 32 ≠ 0 then bad
  else if e ≠ p.epoch + 1 then bad
  else if port = p.port then s.setPkg { p with epoch := e, leaseTimer := p.leaseTo, expired := false }
  else if p.expired then s.setPkg { p with port, epoch := e, leaseTimer := p.leaseTo, expired := false }
  else bad

/-- LEASE_EXPIRE (R411). -/
def leaseExpire (s : State) : State := if s.pkg.leaseTimer = 0 then s.setPkg { s.pkg with expired := true } else s

/-- STANDBY_STORE_DROP (R412): a store from the port that is not active, to anything but LEASE. -/
def standbyStoreDrop (s : State) : State := s.storeFrom (some (!s.pkg.port)) id

/-! ### The link reduction engine (R424 to R427) -/

/-- A channel. -/
def State.lrAt (s : State) (k : Nat) : LrChan := s.pkg.lr.get k {}

/-- A channel replaced. -/
def State.setLr (s : State) (k : Nat) (x : LrChan) : State := s.setPkg { s.pkg with lr := s.pkg.lr.put k x }

/-- LRCHOWN_WRITE (R427): ignored while the channel holds a command. -/
def lrchownWrite (k : Nat) (v : Word) (s : State) : State :=
  let x := s.lrAt k
  if x.cmds.isEmpty then s.setLr k { x with procid := v.toNat % 1024, v := v.getLsbD 10 } else s

/-- LR_CHANNEL_STORE (R426) (DEDUCED, unsafe, log entry 26). -/
def lrChannelStore (k : Nat) (v : Word) (ack : Option (Nat × Nat × Nat × Nat)) (s : State) : State :=
  let x := s.lrAt k
  if !x.v || v.toNat % 64 ≠ 0 then (s.report { kind := 8, procid := x.procid, unit := k % 16, info := v }).ackTo ack
  else if 4 ≤ x.cmds.length then s.pushFront (.lrChannelStore k v (ack, none))
  else
    let s := s.setLr k { x with cmds := x.cmds ++ [{ index := x.started, addr := v }], started := x.started + 1 }
    (if x.cmds.isEmpty then s.push (.lrPairStart k none) else s).ackTo ack

/-- The fields of a command (Table 7). -/
structure LrRecord where
  ctl : Nat
  src : Word
  dst : Word
  count : Nat
  mbox : Nat
  minc : BitVec 32
  rest : Nat
  deriving DecidableEq, Repr

/-- The record of 64 bytes. -/
def LrRecord.of (d : Nat) : LrRecord :=
  { ctl := bitsOf d 0 64, src := BitVec.ofNat 64 (bitsOf d 64 64), dst := BitVec.ofNat 64 (bitsOf d 128 64), count := bitsOf d 192 64
    mbox := bitsOf d 256 32, minc := BitVec.ofNat 32 (bitsOf d 288 32), rest := bitsOf d 320 64 + bitsOf d 448 64 }

/-- OP: 0 reduce-scatter, 1 all-gather. -/
def LrRecord.op (r : LrRecord) : Nat := r.ctl % 4

/-- FMT: 0 FP32, 1 BF16. -/
def LrRecord.fmt (r : LrRecord) : Nat := r.ctl / 4 % 4

/-- POST. -/
def LrRecord.post (r : LrRecord) : Bool := r.ctl / 16 % 2 = 1

/-- Bytes of an element. -/
def LrRecord.size (r : LrRecord) : Nat := if r.fmt = 0 then 4 else 2

/-- The records that the rules of Table 7 refuse (DEDUCED, unsafe, log entry 27). -/
def LrRecord.refused (r : LrRecord) : Bool :=
  32 ≤ r.ctl || 1 < r.op || 1 < r.fmt || r.src.toNat % r.size ≠ 0 || r.dst.toNat % 65536 ≠ 0 || r.rest ≠ 0 ||
    r.count * r.size % 65536 ≠ 0 || 2 ^ 30 < r.count * r.size ||
    (if r.post then 0x10000 ≤ r.mbox || r.mbox % 4 ≠ 0 else r.mbox ≠ 0 || r.minc ≠ 0)

/-- Source elements: 2n for a reduce-scatter, n for an all-gather (Table 8). -/
def LrRecord.sources (r : LrRecord) : Nat := if r.op = 0 then 2 * r.count else r.count

/-- Destination elements. -/
def LrRecord.results (r : LrRecord) : Nat := if r.op = 0 then r.count else 2 * r.count

/-- A sum in FMT, and whether it overflowed (R425). -/
def lrSum (fmt a b : Nat) : Nat × Bool :=
  let f := if fmt = 0 then fp32 else bf16
  let x := f.encode (.ofCode 0) 0 false ((f.decode a).add (f.decode b) false).1
  (x.1, x.2 &&& fOF ≠ 0)

/-- Destination element `i` on side `side`, from the own and the partner's source elements (Table 8). -/
def LrRecord.result (r : LrRecord) (side : Bool) (own other : List Nat) (i : Nat) : Nat × Bool :=
  if r.op = 0 then
    let j := side.toNat * r.count + i
    lrSum r.fmt (own.getD j 0) (other.getD j 0)
  else if (i < r.count) = (side = false) then (own.getD (i % r.count) 0, false)
  else (other.getD (i % r.count) 0, false)

/-- The places of the elements of an array in a process's shared space; none where one is not mapped for the use. -/
def State.lrPlaces (s : State) (procid : Nat) (u : Use) (base : Word) (size n : Nat) : Option (List Place) :=
  (List.range n).foldl (fun (o : Option (List Place)) i =>
    o.bind fun l => (s.sharedPlace procid u (base + BitVec.ofNat 64 (size * i)) size).map fun p => l ++ [p]) (some [])

/-- The tables that the walks for the pages of an array read come from the hosts (R257). -/
def State.supplyRange (s : State) (procid : Nat) (base : Word) (n : Nat) : State :=
  s.supplyShared procid ((List.range ((base.toNat % 4096 + n + 4095) / 4096)).map fun i => base + BitVec.ofNat 64 (4096 * i))

/-- The result elements written into shadows of the destination (R231, R427); or the cause of a failure (DEDUCED, unsafe, log entry 27). -/
def State.lrWrite (s : State) (procid : Nat) (r : LrRecord) (vals : List Nat) (ps : List Place) : Except Nat State :=
  ((List.range ps.length).zip (ps.zip vals)).foldl (fun (o : Except Nat State) x =>
    match o with
    | .error c => .error c
    | .ok s =>
      let pa := match x.2.1 with | .mem pa => pa | _ => 0x8000000000
      match s.shadowPlace 0 procid false (r.dst.toNat + r.size * x.1) pa with
      | .error (2, _) => .error 1
      | .error (6, _) => .error 5
      | .error _ => .error 3
      | .ok (a, s) => .ok (s.writePa a r.size x.2.2)) (.ok s)

/-- The head command of a channel ends with a code and a cause (DEDUCED, unsafe, log entry 27). -/
def State.lrEnd (s : State) (k code cause ovf : Nat) : State :=
  let x := s.lrAt k
  (s.setLr k { x with cmds := match x.cmds with | h :: t => { h with code, cause, ovf } :: t | [] => [] }).push (.lrComplete k)

/-- Does a place hold data in error (R427)? -/
def State.placeBad (s : State) (p : Place) : Bool :=
  match p with
  | .mem pa => s.lineBad pa
  | _ => false

/-- A command whose partner matches it: the results are computed into shadows (R425, R427) (DEDUCED, unsafe, log entry 27). -/
def State.lrRun (s : State) (k procid : Nat) (r : LrRecord) (p : LrPartner) : State :=
  let s := (s.supplyRange procid r.src (r.sources * r.size)).supplyRange procid r.dst (r.results * r.size)
  match s.lrPlaces procid .load r.src r.size r.sources, s.lrPlaces procid .store r.dst r.size r.results with
  | some src, some dst =>
    match s.snoop false src with
    | some s => s.push (.lrPairStart k (some p))
    | none =>
      if src.any s.placeBad then s.lrEnd k 2 5 0 else
      let own := src.map fun x => s.readPlace x r.size
      let out := (List.range r.results).map (r.result s.pkg.boot.side own (p.data.map (·.toNat)))
      match s.lrWrite procid r (out.map (·.1)) dst with
      | .error cause => s.lrEnd k 2 cause 0
      | .ok s => s.lrEnd k 1 0 (out.filter (·.2)).length
  | _, _ => s.lrEnd k 2 1 0

/-- LR_PAIR_START (R426): the command at the head of a channel meets its partner, or ends without it (DEDUCED, unsafe, log entry 27). -/
def lrPairStart (k : Nat) (partner : Option LrPartner) (s : State) : State :=
  let x := s.lrAt k
  match x.cmds with
  | [] => s
  | h :: rest =>
    let s := s.supplyShared x.procid [h.addr]
    if h.code ≠ 0 then s
    else match s.sharedPlace x.procid .load h.addr 64 with
      | none => s.lrEnd k 2 1 0
      | some at_ => match s.snoop false [at_] with
        | some s => s.push (.lrPairStart k partner)
        | none =>
          let d := s.readPlace at_ 64
          let r := LrRecord.of d
          let s := s.setLr k { x with cmds := { h with record := d } :: rest }
          if s.placeBad at_ then s.lrEnd k 2 5 0
          else if r.refused then s.lrEnd k 4 2 0
          else if !s.pkg.linkUp then s.lrEnd k 2 4 0
          else match partner with
            | none => s
            | some p =>
              if p.index ≠ h.index then s
              else if p.refused || p.op ≠ r.op || p.fmt ≠ r.fmt || p.count ≠ r.count then s.lrEnd k 3 0 0
              else if p.failed then s.lrEnd k 2 6 0
              else s.lrRun k x.procid r p

/-- LR_COMPLETE (R427): the next step of a completion: publication; STATUS; the post, and the channel's next command (DEDUCED, unsafe, log entry 27). -/
def lrComplete (k : Nat) (s : State) : State :=
  let x := s.lrAt k
  match x.cmds with
  | [] => s
  | h :: rest =>
    let next := fun (s : State) => (s.setLr k { x with cmds := { h with stage := h.stage + 1 } :: rest }).push (.lrComplete k)
    let r := LrRecord.of h.record
    if h.code = 0 then s
    else match h.stage with
      | 0 => next (if h.code = 1 then s.publish x.procid false r.dst.toNat (r.results * r.size / 65536) else s)
      | 1 =>
        let s := s.supplyShared x.procid [h.addr + 0x30]
        let st := (s.sharedPlace x.procid .store (h.addr + 0x30) 8).toList
        match s.snoop true st with
        | some s => s.push (.lrComplete k)
        | none => next (st.foldl (fun s p => s.ioWrite p 8 (h.code + 256 * h.cause + 2 ^ 32 * h.ovf)) s)
      | _ =>
        let s := if r.post ∧ r.mbox < 0x10000 ∧ r.mbox % 4 = 0 then
            s.sendPacket 2 ioDie (counterOf r.mbox).1 (.postArrive
              { core := (counterOf r.mbox).1, index := (counterOf r.mbox).2, inc := r.minc, procid := x.procid, asOwner := false
                src := ioDie, ctx := 0, tid := 0, acks := false, id := 0 })
          else s
        let s := s.setLr k { x with cmds := rest }
        if rest.isEmpty then s else s.push (.lrPairStart k none)

/-! ### Stores of the register space -/

/-- A store to XRESP (R389): ACTION chooses the response. -/
def respond (v : Word) (s : State) : State :=
  match v.toNat % 16 with
  | 1 => xrespResume v s
  | 2 => xrespResumeAt v s
  | 3 => xrespTerminate v s
  | _ => s

/-- A store to HCTL (R393) (DESIGN CHOICE, unsafe, log entry 12). -/
def haltControl (v : Word) (s : State) : State :=
  let s := if v.getLsbD 3 then hctlStop (v.toNat % 8) s else s
  if v.getLsbD 4 then hctlRestart (v.toNat % 8) s else s

/-- PAMAP and LRCHOWN (Table 4). -/
def State.ioArrayWrite (s : State) (o : Nat) (v : Word) : State :=
  let p := s.pkg
  if 0x200 ≤ o ∧ o < 0x300 then
    let e := (o - 0x200) / 32
    let m := p.pamap.get e {}
    match o % 32 with
    | 0 => s.setPkg { p with pamap := p.pamap.put e { m with hbase := v.toNat } }
    | 8 => s.setPkg { p with pamap := p.pamap.put e { m with size := v.toNat } }
    | 16 => s.setPkg { p with pamap := p.pamap.put e { m with dbase := v.toNat } }
    | _ => s
  else if 0x400 ≤ o ∧ o < 0x600 then lrchownWrite ((o - 0x400) / 8) v s
  else s

/-- A register of the I/O die control page (Table 4); a store to one that is read-only is discarded (DEDUCED, unsafe, log entry 38) (DEDUCED, unsafe, log entry 41). -/
def State.ioRegisterWrite (s : State) (o : Nat) (v : Word) : State :=
  let p := s.pkg
  match o with
  | 0x000 => s.setPkg { p with pdbase := v }
  | 0x008 => s.setPkg { p with qtbase := v }
  | 0x010 => pdsyncWrite (v.toNat % 4096) s
  | 0x018 => qsyncWrite (v.toNat % 4096) s
  | 0x020 => s.setPkg { p with quantum := Nat.max 1400 (v.toNat % 2 ^ 32) }
  | 0x040 => s.setPkg { p with fqbase := v }
  | 0x048 => if 8 ≤ v.toNat % 32 ∧ v.toNat % 32 ≤ 16 then s.setPkg { p with fqlog2 := v.toNat % 32 } else s
  | 0x050 => s.setPkg { p with fqhead := v.truncate 32 }
  | 0x060 => s.setPkg { p with fqvec := v.truncate 16 }
  | 0x070 => s.setPkg { p with xrespa := v }
  | 0x078 => respond v s
  | 0x080 => haltControl v s
  | 0x0C8 => s.setPkg { p with leaseTo := Nat.max 12000 (v.toNat % 2 ^ 32) }
  | 0x100 => s.setPkg { p with ivtbase0 := v }
  | 0x108 => s.setPkg { p with ivtbase1 := v }
  | 0x110 => if v.toNat % 4096 ≤ 2048 then s.setPkg { p with ivtcount := v.toNat % 4096 } else s
  | _ => s.ioArrayWrite o v

/-- A register of a die's control page (Table 3 of R382): reserved bits stay zero. -/
def State.dieRegisterWrite (s : State) (die o : Nat) (v : Word) : State :=
  let d := s.dieAt die
  match o with
  | 0x00 => s.setDieAt die { d with tvec := v &&& 0x01FFFFFFFFFFFFFD#64 }
  | 0x08 => s.setDieAt die { d with dbg := v &&& 0x7FF#64 }
  | 0x10 => s.setDieAt die { d with hdom := v &&& 0x0000FFFFFFFFFFFF#64 }
  | _ => s

/-- A register of a core's control page (Table 5 of R410). -/
def State.coreRegisterWrite (s : State) (core o : Nat) (v : Word) : State :=
  if o < 0x200 then (if o % 64 = 0 then chownWrite core (o / 64) v s else s)
  else if 0x400 ≤ o ∧ o < 0x800 then
    (match o % 16 with
    | 0 => cbindWrite core ((o - 0x400) / 16) v s
    | 8 => cirqWrite core ((o - 0x400) / 16) v s
    | _ => s)
  else s

/-- A doorbell page (Table 5 of R332). -/
def State.doorbellWrite (s : State) (q o : Nat) (v : Word) : State :=
  match o with
  | 0x00 => doorbellWridx q (v.truncate 32) s
  | 0x08 => doorbellRdidx q (v.truncate 32) s
  | 0x10 => if v = 1 then doorbellResume q s else if v = 2 then doorbellDrop q s else s
  | _ => s

/-- REGISTER_WRITE (R407): a store performed at the register space, and acknowledged. A store to an aperture or a link
reduction page is acknowledged when it has entered or been refused (R226, R426). LEASE and BOOTCTL are written from the
ports only. -/
def registerWrite (off : Nat) (v : Word) (size : Nat) (ack : Option (Nat × Nat × Nat × Nat)) (s : State) : State :=
  let page := off / 0x1000
  let o := off % 0x1000
  if s.pkg.phase < 6 then s.ackTo ack
  else if 0x200 ≤ page ∧ page < 0x300 then
    (if size = 4 ∧ o < 256 ∧ o % 4 = 0 then counterPageStore (page - 0x200) (o / 4) (v.toNat % 2 ^ 32) ack s else s.ackTo ack)
  else if size ≠ 8 ∨ off % 8 ≠ 0 then s.ackTo ack
  else if page = 0 then (s.ioRegisterWrite o v).ackTo ack
  else if page < 5 then (s.dieRegisterWrite (page - 1) o v).ackTo ack
  else if 0x100 ≤ page ∧ page < 0x200 then (s.coreRegisterWrite (page - 0x100) o v).ackTo ack
  else if 0x1000 ≤ page ∧ page < 0x1800 then
    (if o = 0 then apertureStore ((page - 0x1000) / 8) ((page - 0x1000) % 8) v ack s else s.ackTo ack)
  else if 0x2000 ≤ page ∧ page < 0x3000 then (s.doorbellWrite (page - 0x2000) o v).ackTo ack
  else if 0x3000 ≤ page ∧ page < 0x3040 then (if o = 0 then lrChannelStore (page - 0x3000) v ack s else s.ackTo ack)
  else s.ackTo ack

/-! ### The peer link (R416, R420) -/

/-- PEER_LINK_DOWN (R420): UP falls, peer lines are dropped, and reductions that wait for their partners fail (R428) (DESIGN CHOICE, unsafe, log entry 10). -/
def peerLinkDown (s : State) : State :=
  let s := s.linkRetries
  let s := s.setPkg { s.pkg with linkUp := false, peerLines := [] }
  s.pkg.lr.foldl (fun s x => if x.2.cmds.isEmpty then s else s.push (.lrPairStart x.1 none)) s

/-- PEER_LINK_UP (R416): the link trains with a peer whose SIDE, as its boot image gives it, is a free value; a pair of equal sides stays down
(DESIGN CHOICE, unsafe, log entry 21). -/
def peerLinkUp (s : State) : State :=
  let (side, s) := s.pick 2
  if decide (side = 1) = s.pkg.boot.side then s else s.setPkg { s.pkg with linkUp := true }

/-- PEER_LINE_EXPIRE (R260). -/
def peerLineExpire (line : Nat) (s : State) : State := s.setPkg { s.pkg with peerLines := s.pkg.peerLines.drop line }

/-! ### Thermal holds (R430) -/

/-- The processes with a bound logical process (R320). -/
def State.timedProcesses (s : State) : List Nat := (s.cores.flatMap fun (c : Nat × Core) => c.2.lps.map (·.2.procid)).eraseDups

/-- The CYCLE of a die goes from `old` to `now`: each multiple of QUANTUM that it reaches or passes is a quantum boundary (R358), and
on die 0's counter GVT computations and periods of bounded queues start (R320, R342). -/
def State.passBoundaries (s : State) (dn old now : Nat) : State :=
  let q := Nat.max 1400 s.pkg.quantum
  let s := (List.range (now / q - old / q)).foldl (fun s _ => s.push (.quantumBoundary (dieId dn))) s
  if dn ≠ 0 then s
  else
    let s := if old / 2800 < now / 2800 then s.timedProcesses.foldl (fun s p => s.push (.gvtStart p)) s else s
    s.pkg.queues.foldl (fun s (x : Nat × Queue) =>
      if x.2.cls = 0 ∧ (x.2.state ≠ .disabled ∨ s.pkg.entries.any (·.queue = x.1)) ∧ 0 < x.2.period ∧
          (old - x.2.since) / x.2.period < (now - x.2.since) / x.2.period then
        s.push (.periodStart x.1)
      else s) s

/-- THERMAL_HOLD_ENTER (R430): the die's hottest sensor reads 105 °C or more. -/
def thermalHoldEnter (die : Nat) (s : State) : State :=
  let d := s.dieAt die
  if d.hold ∨ d.temp < 105 then s
  else (s.setDieAt die { d with hold := true, halfTick := false, cool := 0 }).setPkg { s.pkg with tholds := s.pkg.tholds + 1 }

/-- THERMAL_HOLD_EXIT (R430): after 140,000 reference cycles below 95 °C CYCLE is set to the reference value. -/
def thermalHoldExit (die : Nat) (s : State) : State :=
  let d := s.dieAt die
  let now := s.pkg.refCycle
  if d.hold ∧ 140000 ≤ d.cool then
    (s.setDieAt die { d with hold := false, cycle := now, skipped := d.skipped + (now - d.cycle) }).passBoundaries die d.cycle now
  else s

/-- A reference cycle of a die's sensors: the hottest reads a free value (R430, R431) (DESIGN CHOICE, unsafe, log entry 2). -/
def State.thermalTick (s : State) (die : Nat) : State :=
  let (temp, s) := s.pick 256
  let d := s.dieAt die
  let cool := if temp < 95 then d.cool + 1 else 0
  let s := s.setDieAt die { d with temp, cool }
  if !d.hold ∧ 105 ≤ temp then s.push (.thermalHoldEnter (dieId die))
  else if d.hold ∧ 140000 ≤ cool then s.push (.thermalHoldExit (dieId die))
  else s

/-! ### Reset (R433 to R436) -/

/-- The boot configuration of a configuration block, if every value is in its range (R435). -/
def bootConfig (n : Nat) : Option Boot :=
  let gib := bitsOf n 32 16
  if 1 < bitsOf n 0 8 ∨ 2 < bitsOf n 8 8 ∨ 1 < bitsOf n 16 8 ∨ 1 < bitsOf n 24 8 ∨ bitsOf n 48 464 ≠ 0 ∨
      (gib ≠ 128 ∧ gib ≠ 256 ∧ gib ≠ 512) then none
  else some { point := bitsOf n 0 8 = 1, part := Part.ofCode (bitsOf n 8 8), port := bitsOf n 16 8 = 1, side := bitsOf n 24 8 = 1, memGib := gib }

/-- The phase and the error that stop the sequence, if one does (Table 3 of R433). -/
def bootFailure (b : BootEnv) : Option (Nat × Nat) :=
  if !headerFits b.flash then some (2, 1)
  else if !ecdsaHolds b.flash then some (2, 2)
  else if !lmsHolds b.flash then some (2, 3)
  else if (deviceSecret b.flash b.sram).isNone then some (3, 5)
  else if (bootConfig (configBlock b.flash)).isNone then some (3, 4)
  else if !b.memoryOk then some (4, 6)
  else none

/-- The identity of the package (R436): the secret, the private key derived from it, and the public key that can be read. -/
def Package.identify (p : Package) (secret : BitVec 256) : Package :=
  let idPriv := Config.identityKey secret
  { p with secret, idPriv, idKey := publicKey idPriv }

/-- Each service core loads its firmware from the image: into its private SRAM, from offset 0 (R398, R433) (DESIGN CHOICE, unsafe, log
entry 20). -/
def State.loadFirmware (s : State) (firmware : List Byte) : State :=
  let code := firmware.take (2 ^ 18)
  { s with mem := (List.range 4).foldl (fun m die => writeBytes m (serviceKey die 0) code.length (bigEndian code.reverse)) s.mem }

/-- Where the hosts' CXL.io configuration places the register space (R407). -/
def registerBases (b : BootEnv) : Store Nat :=
  (b.base0.toList.map fun a => (0, a)) ++ b.base1.toList.map fun a => (1, a)

/-- What outlives a reset: the memory of the hosts and of the peer, which are not this package's, the contents of the
LPDDR unless the reset is a cold one, and the model's own counters (DESIGN CHOICE, unsafe, log entry 20). -/
def State.survivors (cold : Bool) (s : State) : State :=
  { mem := s.mem.filter fun x => (!cold && decide (x.1 < 0x8000000000)) || decide (0x400000000000 ≤ x.1 ∧ x.1 < 0x808000000000)
    free := s.free, nextTid := s.nextTid }

/-- The reset sequence (R433), as one step: to READY, or to the phase at which it stops (DESIGN CHOICE, unsafe, log entry 20). -/
def resetSequence (cold : Bool) (b : BootEnv) (s : State) : State :=
  let s := s.survivors cold
  let s := s.setPkg { s.pkg with regBase := registerBases b }
  match bootFailure b with
  | some (phase, err) => s.setPkg { s.pkg with phase, bootErr := err }
  | none =>
    let boot := (bootConfig (configBlock b.flash)).getD {}
    let p := s.pkg.identify ((deviceSecret b.flash b.sram).getD 0)
    (s.setPkg { p with boot, port := boot.port }).loadFirmware (imageFirmware b.flash)

/-! ### Meanings -/

/-- LEASE_WRITE (R411). -/
def execLeaseWrite (port : Bool) (value : Word) (s : State) : Host.Outcome State Fault Refusal := done (leaseWrite port value s)

/-- LEASE_EXPIRE (R411). -/
def execLeaseExpire (s : State) : Host.Outcome State Fault Refusal := done (leaseExpire s)

/-- STANDBY_STORE_DROP (R412). -/
def execStandbyStoreDrop (s : State) : Host.Outcome State Fault Refusal := done (standbyStoreDrop s)

/-- LRCHOWN_WRITE (R427). -/
def execLrchownWrite (k : Nat) (value : Stored Word) (s : State) : Host.Outcome State Fault Refusal :=
  done (s.storeFrom value.2 (lrchownWrite k value.1))

/-- LR_CHANNEL_STORE (R426). -/
def execLrChannelStore (k : Nat) (value : Word) (ack : Stored (Option (Nat × Nat × Nat × Nat))) (s : State) :
    Host.Outcome State Fault Refusal := done (s.storeFrom ack.2 (lrChannelStore k value ack.1))

/-- LR_PAIR_START (R426). -/
def execLrPairStart (k : Nat) (partner : Option LrPartner) (s : State) : Host.Outcome State Fault Refusal :=
  done (lrPairStart k partner s)

/-- LR_COMPLETE (R427). -/
def execLrComplete (k : Nat) (s : State) : Host.Outcome State Fault Refusal := done (lrComplete k s)

/-- REGISTER_WRITE (R407): a store to LEASE from a port is taken from both ports (R411, R412). -/
def execRegisterWrite (off : Nat) (value : Word) (size : Nat) (ack : Stored (Option (Nat × Nat × Nat × Nat))) (s : State) :
    Host.Outcome State Fault Refusal :=
  match ack.2 with
  | none => done (registerWrite off value size ack.1 s)
  | some p => done (if off = 0xC0 ∧ size = 8 then leaseWrite p value s else s.storeFrom (some p) (registerWrite off value size ack.1))

/-- PEER_LINK_DOWN (R420). -/
def execPeerLinkDown (s : State) : Host.Outcome State Fault Refusal := done (peerLinkDown s)

/-- PEER_LINK_UP (R416). -/
def execPeerLinkUp (s : State) : Host.Outcome State Fault Refusal := done (peerLinkUp s)

/-- PEER_LINE_EXPIRE (R260). -/
def execPeerLineExpire (line : Nat) (s : State) : Host.Outcome State Fault Refusal := done (peerLineExpire line s)

/-- THERMAL_HOLD_ENTER (R430). -/
def execThermalHoldEnter (die : DieId) (s : State) : Host.Outcome State Fault Refusal := done (thermalHoldEnter die.toNat s)

/-- THERMAL_HOLD_EXIT (R430). -/
def execThermalHoldExit (die : DieId) (s : State) : Host.Outcome State Fault Refusal := done (thermalHoldExit die.toNat s)

/-- COLD_RESET (R433). -/
def execColdReset (env : BootEnv) (s : State) : Host.Outcome State Fault Refusal := done (resetSequence true env s)

/-- BOOTCTL_RESET (R433): a store of the word of R433 to BOOTCTL from the active port; the LPDDR keeps its contents. One of the package
itself is not from a port, and does nothing. -/
def execBootctlReset (env : Stored BootEnv) (s : State) : Host.Outcome State Fault Refusal :=
  done (s.storeFrom env.2 fun s => if env.2.isSome then resetSequence false env.1 s else s)

end Sys2Proof.Machine
end

