-- ==== Sys2Proof/Machine/VectorMem.lean ====
section
/-! DEFINITION. The vector memory instructions (06_vector R178 to R183): contiguous, strided, gathered,
and tensor rows with conversion. -/

namespace Sys2Proof.Machine

/-- Element addresses at a fixed distance, each wrapped modulo 2^64 (R178). -/
def strided (ea stride : Word) (n : Nat) : List Word := (List.range n).map fun i => ea + BitVec.ofNat 64 i * stride

/-- A vector load of `w`-bit elements at the addresses (R178). -/
def State.loadVec (s : State) (m : MemArg) (w d : Nat) (eas : List Word) : Result :=
  match s.checkAll .load (s.selOf m) (w / 8) (w / 8) eas with
  | .error e => .error e
  | .ok es => s.loadElems es (.vec d w) m eas

/-- A vector store of the lanes of `x` at the addresses (R178). -/
def State.storeVec (s : State) (m : MemArg) (w : Nat) (x : Vec) (eas : List Word) : Result :=
  match s.checkAll .store (s.selOf m) (w / 8) (w / 8) eas with
  | .error e => .error e
  | .ok es => s.storeElems (es.zip ((List.range es.length).map (lane w x))) m eas

/-- `vld` (R179): 32 words of 4 bytes. -/
def vectorLoad (e : Ext) (s : State) : State :=
  s.instr [e.a.toNat, e.b.toNat] [] e.syn false (vwr := [e.d.toNat]) fun s =>
    let m := s.extArg e
    s.loadVec m 32 e.d.toNat (strided m.ea 4 32)

/-- `vst` (R179). -/
def vectorStore (e : Ext) (s : State) : State :=
  s.instr [e.a.toNat, e.b.toNat] [e.c.toNat] e.syn false fun s =>
    let m := s.extArg e
    s.storeVec m 32 (s.vreg e.c.toNat) (strided m.ea 4 32)

/-- `vlds` (R180): B is the stride in bytes. -/
def vectorLoadStrided (w : Width) (e : Ext) (s : State) : State :=
  s.instr [e.a.toNat, e.b.toNat] [] e.syn false (vwr := [e.d.toNat]) fun s =>
    let m := s.extArgNoIndex e
    s.loadVec m w.bits e.d.toNat (strided m.ea (s.g e.b.toNat) w.count)

/-- `vsts` (R180). -/
def vectorStoreStrided (w : Width) (e : Ext) (s : State) : State :=
  s.instr [e.a.toNat, e.b.toNat] [e.c.toNat] e.syn false fun s =>
    let m := s.extArgNoIndex e
    s.storeVec m w.bits (s.vreg e.c.toNat) (strided m.ea (s.g e.b.toNat) w.count)

/-- The element addresses of `vgat` and `vsca`: lanes of B, scaled by the element size (R181). -/
def State.gathered (s : State) (m : MemArg) (w : Width) (b : Nat) : List Word :=
  (List.range w.count).map fun i => m.ea + BitVec.ofNat 64 (lane w.bits (s.vreg b) i * (w.bits / 8))

/-- `vgat` (R181). -/
def vectorGather (w : Width) (e : Ext) (s : State) : State :=
  s.instr [e.a.toNat] [e.b.toNat] e.syn false (vwr := [e.d.toNat]) fun s =>
    let m := s.extArgNoIndex e
    s.loadVec m w.bits e.d.toNat (s.gathered m w e.b.toNat)

/-- `vsca` (R181). -/
def vectorScatter (w : Width) (e : Ext) (s : State) : State :=
  s.instr [e.a.toNat] [e.c.toNat, e.b.toNat] e.syn false fun s =>
    let m := s.extArgNoIndex e
    s.storeVec m w.bits (s.vreg e.c.toNat) (s.gathered m w e.b.toNat)

/-! ### Tensor rows (R182) -/

/-- Formats that `vldt` accepts (Table 5 of R177). -/
def rowFormats (f : Nat) : Bool := f = 0 || f = 1 || f = 2 || isB8 f || isK4 f

/-- Formats that `vstt` accepts (Table 5 of R177). -/
def storeFormats (f : Nat) : Bool := f = 0 || f = 1 || f = 2 || isB8 f

/-- The first element of a row access: row and column, with the column a multiple of 32. -/
def rowStart (t : Nat) (d : Desc) (ea : Word) : Except Stop (Nat × Nat) :=
  match d.position ea with
  | some (r, c) => if c % 32 = 0 then .ok (r, c) else .error (.trap 9 0 0 (BitVec.ofNat 64 t))
  | none => .error (.trap 9 0 0 (BitVec.ofNat 64 t))

/-- Elements of a row access: those within the columns. -/
def Desc.rowCount (d : Desc) (c : Nat) : Nat := Nat.min 32 (d.cols - c)

/-- The addresses that a row access reads or writes: for K4, the bytes that hold the codes. -/
def Desc.rowAddrs (d : Desc) (r c : Nat) : List Word :=
  if isK4 d.fmt then (List.range ((d.rowCount c + 1) / 2)).map fun i => d.offset r (c + 2 * i)
  else (List.range (d.rowCount c)).map fun i => d.offset r (c + i)

/-- Bytes of one access of a row. -/
def Desc.unit (d : Desc) : Nat := Nat.max 1 (elemBits d.fmt / 8)

/-- One FP32 lane of `vldt` from an element's code, with the flags (R182). -/
def rowLane (d : Desc) (be : Int) (code : Nat) : Nat × Word :=
  if d.fmt = 0 then (code, 0) else fp32.encode (.ofCode 0) 0 false (elemValue d.fmt d.sb d.cb be code)

/-- The exponent of the block, from the byte read (R146). -/
def exponentOf (v : Nat) : Int := asSigned 8 (v % 256)

/-- `vldt`: the lanes of D from the values read; the last value is the exponent if `plane`. -/
def State.finishRow (s : State) (dst : Nat) (record : BitVec 512) (n : Nat) (plane : Bool) (vs : List Nat) : State :=
  let d := Desc.ofRecord record
  let be := if plane then exponentOf (vs.getLastD 0) else 0
  let code := fun i => if isK4 d.fmt then vs.getD (i / 2) 0 / 16 ^ (i % 2) % 16 else vs.getD i 0
  let ls := (List.range 32).map fun i => if i < n then rowLane d be (code i) else (0, 0)
  (s.setV dst (ofLanes 32 (ls.map (·.1)))).mergeFlags (ls.foldl (fun f x => f ||| x.2) 0)

/-- What a completed access writes, tensor rows included. -/
def State.sinkDone (s : State) (k : Sink) (vs : List Nat) : State :=
  match k with
  | .vecTensor d data n plane => s.finishRow d data n plane vs
  | _ => s.sinkWrite k vs

/-- The accesses of a tensor row, with the exponent's, each checked in lane order (R178). -/
def State.rowAccs (s : State) (u : Use) (sel : BitVec 16) (d : Desc) (r c : Nat) : Except Stop (List Acc × List Acc) :=
  match s.checkAll u sel d.unit d.unit (d.rowAddrs r c) with
  | .error e => .error e
  | .ok es =>
    if d.pl then match s.checkAll .load sel 1 1 [d.planeOffset r (c / 64)] with
      | .error e => .error e
      | .ok ps => .ok (es, ps)
    else .ok (es, [])

/-- `vldt` (R182) (DEDUCED, unsafe, log entry 42). -/
def tensorRowLoad (e : Ext) (s : State) : State :=
  s.instr [e.a.toNat] [] e.syn false (vwr := [e.d.toNat]) fun s =>
    s.loomReady <|
    let m := s.extArgNoIndex e
    let t := e.b.toNat
    match s.descriptor t rowFormats with
    | .error x => .error x
    | .ok d => match rowStart t d m.ea with
      | .error x => .error x
      | .ok (r, c) => match s.rowAccs .load (s.selOf m) d r c with
        | .error x => .error x
        | .ok (es, ps) =>
          let data := ((s.coreAt s.curCore).tensors.get t {}).data
          let all := es ++ ps
          match s.guardOf all with
          | some w => .error (.retry 1 w)
          | none =>
            if all.all (·.place.isOwn s.curCore) then
              .ok (((s.finishRow e.d.toNat data (d.rowCount c) d.pl (all.map s.ownValue)).sawUntimed s.curCore).advance m.words)
            else .ok (s.request all [] (.vecTensor e.d.toNat data (d.rowCount c) d.pl) m (s.selOf m) none
              (d.rowAddrs r c ++ if d.pl then [d.planeOffset r (c / 64)] else []))

/-- One element of `vstt` with its flags (R182); `pos` is r × columns + c + j. -/
def State.rowCode (s : State) (e : Ext) (d : Desc) (be : Int) (pos x : Nat) : Nat × Word :=
  if d.fmt = 0 then (x, 0)
  else
    let f := if d.fmt = 1 then bf16 else if d.fmt = 2 then fp16 else binary8 (d.fmt % 32)
    let v := fp32.decode x
    let v := if isB8 d.fmt then v.scale (-(d.sb + be)) else v
    let r := if e.rnd = 4 then draw s.task.skey e.b.toNat pos else 0
    f.encode (.ofCode e.rnd.toNat) r e.sat v

/-- `vstt` once the block's exponent is known: the elements are rounded and stored, and the flags merged. -/
def State.storeRow (s : State) (e : Ext) (d : Desc) (es : List Acc) (r c : Nat) (be : Int) : Result :=
  let m := s.extArgNoIndex e
  let xs := (List.range (d.rowCount c)).map fun j =>
    s.rowCode e d be (r * d.cols + c + j) (lane 32 (s.vreg e.c.toNat) j)
  s.storeElems (es.zip (xs.map (·.1))) m (d.rowAddrs r c) (xs.foldl (fun f x => f ||| x.2) 0)

/-- `vstt` from its checks on (R182): without the exponent it is read first, and the elements are then
stored. -/
def State.storeTensorRow (s : State) (e : Ext) (exponent : Option Nat) : Result :=
  s.loomReady <|
  let m := s.extArgNoIndex e
  let t := e.b.toNat
  match s.descriptor t storeFormats with
  | .error x => .error x
  | .ok d => match rowStart t d m.ea with
    | .error x => .error x
    | .ok (r, c) => match s.rowAccs .store (s.selOf m) d r c with
      | .error x => .error x
      | .ok (es, ps) =>
        match exponent with
        | some v => s.storeRow e d es r c (exponentOf v)
        | none => match s.guardOf ps with
          | some w => .error (.retry 1 w)
          | none =>
            if ps.all (·.place.isOwn s.curCore) then s.storeRow e d es r c (exponentOf ((ps.map s.ownValue).headD 0))
            else s.eventWrite es fun s => .ok (s.request ps [] (.exponent e) m (s.selOf m) none [d.planeOffset r (c / 64)])

/-- `vstt` (R182). -/
def tensorRowStore (e : Ext) (s : State) : State :=
  s.instr [e.a.toNat] [e.c.toNat] e.syn false fun s => s.storeTensorRow e none

/-- `vld` (R179). -/
def execVld (e : Ext) (s : State) : Host.Outcome State Fault Refusal := done (vectorLoad e s)

/-- `vst` (R179). -/
def execVst (e : Ext) (s : State) : Host.Outcome State Fault Refusal := done (vectorStore e s)

/-- `vlds` (R180). -/
def execVlds (w : Width) (e : Ext) (s : State) : Host.Outcome State Fault Refusal := done (vectorLoadStrided w e s)

/-- `vsts` (R180). -/
def execVsts (w : Width) (e : Ext) (s : State) : Host.Outcome State Fault Refusal := done (vectorStoreStrided w e s)

/-- `vgat` (R181). -/
def execVgat (w : Width) (e : Ext) (s : State) : Host.Outcome State Fault Refusal := done (vectorGather w e s)

/-- `vsca` (R181). -/
def execVsca (w : Width) (e : Ext) (s : State) : Host.Outcome State Fault Refusal := done (vectorScatter w e s)

/-- `vldt` (R182). -/
def execVldt (e : Ext) (s : State) : Host.Outcome State Fault Refusal := done (tensorRowLoad e s)

/-- `vstt` (R182). -/
def execVstt (e : Ext) (s : State) : Host.Outcome State Fault Refusal := done (tensorRowStore e s)

end Sys2Proof.Machine
end

