-- ==== Sys2Proof/Machine/MemEvents.lean ====
section
/-! DEFINITION. The events of the memory engine for the requests and stores of contexts: slices, homes and visitors
(R246, R253, R254), stamps between dies (R255), acknowledgements (R108), replies (R107, R114), the peer window (R126),
the weight store (R238), and the peer link's errors (R420). -/

namespace Sys2Proof.Machine

/-! ### Requests -/

/-- The request that a context waits for. -/
def State.reqAt (s : State) (k : Nat) : Option Req := match (s.ctxAt k).wait with | .req r => some r | _ => none

/-- The time that an acquire's value without a time of the die may have come after: that of every write of the die (R265). -/
def State.timeFor (s : State) (core : Nat) (acq : Bool) (scope : Nat) : Nat := if acq && 0 < scope then s.dieTime core else 0

/-- The first element of a request is served with a value and its write time: the elements of a vector access are performed in lane
order, which R178 leaves open (DESIGN CHOICE, unsafe, log entry 47). -/
def State.serve (s : State) (k : Nat) (r : Req) (v wts : Nat) : State :=
  s.setReq k { r with todo := r.todo.drop 1, eas := r.eas.drop 1, done := r.done ++ [v], wts := Nat.max r.wts wts, reply := none, once := false }

/-- A request with its fields changed goes on with an event. -/
def State.goOn (s : State) (k : Nat) (r : Req) (e : Instr) : State := (s.setCtxAt k { s.ctxAt k with wait := .req r }).push e

/-- Has the context in `k` stores to a line that are not yet acknowledged? -/
def State.busyLine (s : State) (k line : Nat) : Bool := ({ s with cur := k }).lineBusy line

/-- Must two accesses of one task be performed in program order: to one line (R263), to one page of the register space (R408), or to
scratchpads of other cores (R126)? -/
def Place.ordered (core : Nat) : Place → Place → Bool
  | .signal a, .signal b => a / 4096 = b / 4096
  | .scratch c _, .scratch d _ => c ≠ core && d ≠ core
  | a, b => a.sameLine b

/-- Is a split load of the task outstanding that was issued before store number `id` of the core and that an access to the place must
follow (R126, R263)? -/
def State.splitBefore (s : State) (core tid id : Nat) (p : Place) : Bool :=
  s.cores.any fun c => c.2.splits.any fun x => x.reg ≠ 0 && x.tid = tid && (c.1 ≠ core || x.before ≤ id) && x.place.ordered core p

/-! ### Loads at slices (R246) -/

/-- A line is fetched for a die from its home: the reply leaves with the home's stamp (R255). -/
def State.fetchLine (s : State) (core ctx : Nat) (r : Req) (pa : Nat) : State :=
  let ev := Instr.sliceLoad (coreId core) (ctxId ctx)
  let h := homeDie pa
  if s.hostOwns (lineOf pa) then (s.askHost (lineOf pa)).push ev
  else
    let s := s.homeFetch pa
    s.goOn (ctxKey core ctx) { r with reply := some ((s.dieAt h).stamp h, s.homeData pa), once := false }
      (.crossDieReply (coreId core) (ctxId ctx))

/-- A load of peer memory (R260). -/
def State.loadPeer (s : State) (core ctx : Nat) (r : Req) (pa n : Nat) : State :=
  let k := ctxKey core ctx
  if !s.pkg.linkUp then s.push (.peerRequestTimeout (coreId core) (ctxId ctx))
  else if r.acq && s.busyLine k (lineOf pa) then s.push (.sliceLoad (coreId core) (ctxId ctx))
  else
    let s := if r.acq && r.scope = 5 then s.setPkg { s.pkg with peerLines := [] } else s
    let (v, s) := s.readPeer pa n
    (s.sawUntimed core).serve k r (s.ownBytes core ctx (s.ctxAt k).task.tid pa n v) (s.timeFor core r.acq r.scope)

/-- SLICE_LOAD (R246): a load, plain or acquire, of the first element of a request. One served at a home on another die waits for the
die's own writes of the bytes, which its contexts may have read (R263) (DEDUCED, unsafe, log entry 8). -/
def sliceLoad (core ctx : Nat) (s : State) : State :=
  let k := ctxKey core ctx
  let ev := Instr.sliceLoad (coreId core) (ctxId ctx)
  match s.reqAt k with
  | none => s
  | some r => match r.todo with
    | ⟨.mem pa, n⟩ :: _ =>
      match s.heldByWrap (dieOf core) ev with
      | some s => s
      | none =>
        if isPeerRegs pa then
          if !s.pkg.linkUp then s.push (.peerRequestTimeout (coreId core) (ctxId ctx))
          else let (v, s) := s.peerRegister pa n; s.serve k r v 0
        else if isPeerMem pa then s.loadPeer core ctx r pa n
        else if !s.backed pa then s.serve k r 0 0
        else if r.acq && s.busyLine k (lineOf pa) || s.splitOut core (s.ctxAt k).task.tid (.mem pa) then s.push ev
        else if s.lineBad pa then s.goOn k { r with error := true } (.loadReply (coreId core) (ctxId ctx))
        else
          let home := homeDie pa = dieOf core
          let own := s.ownBytes core ctx (s.ctxAt k).task.tid pa n
          if home && s.hostOwns (lineOf pa) then (s.askHost (lineOf pa)).push ev
          else if home || !r.acq || r.scope < 4 then
            match s.sliceRead core own pa n (r.hint = 0 && !r.acq) with
            | some (v, wts, s) => s.serve k r v (Nat.max wts (s.timeFor core (r.acq && !home) r.scope))
            | none => s.fetchLine core ctx r pa
          else if (s.dieAt (dieOf core)).unapplied pa n then s.push ev
          else s.fetchLine core ctx r pa
    | _ => s

/-- A cross-die reply to a load, delivered: an acquire at device or system scope takes its steps first (R247), and the
line is installed unless an event of R252 has overtaken it; where the die holds a copy by then, the load is served by that copy. -/
def State.deliverLine (s : State) (core ctx : Nat) (r : Req) (data : BitVec 512) (pa n : Nat) : State :=
  let k := ctxKey core ctx
  let dn := dieOf core
  let own := s.ownBytes core ctx (s.ctxAt k).task.tid pa n
  if r.acq && 4 ≤ r.scope then
    let last := decide (r.todo.length ≤ 1)
    let s := if last then s.acquireSteps core r.scope else s
    let s := if r.once || !last then s else s.installVisitor dn (lineOf pa) data
    let watch := match r.sink with | .watch _ _ => true | _ => false
    s.serve k { r with acq := !last || watch } (own (getBytes data (pa % 64) n)) (s.timeFor core true r.scope)
  else if r.once then
    let kept := ((s.dieAt dn).visitors.find (lineOf pa)).elim 0 (·.wts)
    ((s.seePending dn pa n).sawUntimed core).serve k r (own (getBytes ((s.dieAt dn).overOutbound (lineOf pa) data) (pa % 64) n))
      (Nat.max kept (s.timeFor core r.acq r.scope))
  else
    let s := s.installVisitor dn (lineOf pa) data
    match s.sliceRead core own pa n (r.hint = 0 && !r.acq) with
    | some (v, wts, s) => s.serve k r v (Nat.max wts (s.timeFor core r.acq r.scope))
    | none => s.push (.sliceLoad (coreId core) (ctxId ctx))

/-- CROSS_DIE_REPLY (R255): held until the die's record allows its stamp. The die's copy takes the bytes that an atomic has written, or
that one which did not write has read (R254, R263) (DEDUCED, unsafe, log entry 8). -/
def crossDieReply (core ctx : Nat) (s : State) : State :=
  let k := ctxKey core ctx
  let dn := dieOf core
  match s.reqAt k with
  | none => s
  | some r => match r.reply, r.todo with
    | some (stamp, data), ⟨.mem pa, n⟩ :: rest =>
      if !(s.dieAt dn).allows stamp then s.push (.crossDieReply (coreId core) (ctxId ctx))
      else
        let s := s.setDieAt dn ((s.dieAt dn).learn dn stamp)
        if r.atom.isSome then
          let s := (s.copyTakes core (lineOf pa) ((s.dieAt dn).overOutbound (lineOf pa) data) (byteMask (pa % 64) n &&& r.live) false).sawUntimed core
          let acq := if r.performed then r.acq else r.vals.headD 0 ≠ 0
          s.setReq k { r with todo := rest, reply := none, wts := Nat.max r.wts (s.timeFor core acq r.scope) }
        else s.deliverLine core ctx r data pa n
    | _, _ => s

/-! ### Atomics (R116 to R118, R253) -/

/-- An atomic has been performed, or has failed, with an old value (DEDUCED, unsafe, log entry 37). -/
def State.atomicOld (s : State) (k : Nat) (r : Req) (old : Nat) (performed : Bool) (wts : Nat) : State :=
  s.setReq k { r with todo := r.todo.drop 1, done := r.done ++ [old], performed, wts := Nat.max r.wts wts }

/-- Does the page of an `acas` lack the write permission (R117)? -/
def State.casDenied (s : State) (k : Nat) (r : Req) (n : Nat) : Bool :=
  let s := { s with cur := k }
  match s.locate s.agent .store r.sel r.ea n with
  | .ok _ => false
  | .error _ => true

/-- The access of the executing context no longer counts in STORECNT: an atomic, or a store that waited for its reply. -/
def State.unStore (s : State) (r : Req) : State :=
  let counted := match r.sink with
    | .atomic _ => true
    | .drop => !r.vals.isEmpty
    | _ => false
  if counted then s.setTask { s.task with storecnt := s.task.storecnt - 1 } else s

/-! ### The order of writes at a slice (R258, R273) -/

/-- Is a write that is queued at a slice still to be made: a buffered store, an outbound write, an atomic that waits? -/
def State.stillQueued (s : State) (w : SliceWrite) : Bool :=
  match w.id with
  | some i =>
    ((s.coreAt w.core).wbuf.any fun p => p.ctx = w.ctx && p.tid = w.tid && p.id = i && p.place.line? = some w.line) ||
      (s.dieAt (dieOf w.core)).outbound.any fun o => o.core = w.core && o.ctx = w.ctx && o.tid = w.tid && o.id = i && lineOf o.pa = w.line && !o.applied
  | none =>
    let k := ctxKey w.core w.ctx
    (s.ctxAt k).task.tid = w.tid && (s.reqAt k).any fun r => r.atom.isSome && r.reply.isNone && r.line? = some w.line

/-- May a queued write be applied now: R255 allows it, and no wrap of its die's clocks holds it (R250)? -/
def State.queuedMay (s : State) (w : SliceWrite) : Bool :=
  let home := homeDie (w.line * 64)
  if dieOf w.core = home then !(s.dieAt home).wrapHold
  else match w.id with
    | none => !(s.dieAt (dieOf w.core)).wrapHold && s.writeAllowed (dieOf w.core) home
    | some i => (s.dieAt (dieOf w.core)).outbound.any fun o =>
        o.core = w.core && o.ctx = w.ctx && o.tid = w.tid && o.id = i && lineOf o.pa = w.line && !o.applied && (s.dieAt home).allows o.stamp

/-- Do two entries of a slice's queue stand for one write? -/
def SliceWrite.same (a b : SliceWrite) : Bool := a.line = b.line && a.core = b.core && a.ctx = b.ctx && a.tid = b.tid && a.id = b.id

/-- A write arrives at its slice: behind those already there, but before those that arrive in the same cycle from a die of higher number
(R273). -/
def State.arriveAt (s : State) (w : SliceWrite) : State :=
  let home := homeDie (w.line * 64)
  let d := s.dieAt home
  let q := d.sliceq.filter s.stillQueued
  let before := fun (x : SliceWrite) => !(x.line = w.line && x.cycle = w.cycle && dieOf w.core < dieOf x.core)
  if q.any w.same then s.setDieAt home { d with sliceq := q }
  else s.setDieAt home { d with sliceq := q.takeWhile before ++ w :: q.dropWhile before }

/-- Does another write to the line come first at its slice: one that is queued before it and may be applied? -/
def State.sliceBusy (s : State) (w : SliceWrite) : Bool :=
  (((s.dieAt (homeDie (w.line * 64))).sliceq.filter fun x => x.line = w.line && s.stillQueued x && s.queuedMay x).head?).any fun x => !w.same x

/-- A write that must wait takes its place in the slice's queue; for the first, the hosts are asked to yield the line (R258). -/
def State.queueWrite (s : State) (w : SliceWrite) : State :=
  let s := s.arriveAt w
  if s.hostHolds w.line && !s.sliceBusy w then s.backInvalidate w.line else s

/-- A queued write has been applied. -/
def State.leaveSlice (s : State) (w : SliceWrite) : State :=
  let home := homeDie (w.line * 64)
  let d := s.dieAt home
  s.setDieAt home { d with sliceq := d.sliceq.filter fun x => !w.same x }

/-- The entry of a slice's queue for an atomic of a context. -/
def State.atomicWrite (s : State) (core ctx pa : Nat) : SliceWrite :=
  { line := lineOf pa, core, ctx, tid := (s.ctxAt (ctxKey core ctx)).task.tid, id := none, cycle := s.pkg.refCycle }

/-- The entry of a slice's queue for a buffered store. -/
def State.storeWrite (s : State) (core : Nat) (p : Pending) (pa : Nat) : SliceWrite :=
  { line := lineOf pa, core, ctx := p.ctx, tid := p.tid, id := some p.id, cycle := s.pkg.refCycle }

/-- The entry of a slice's queue for an outbound write. -/
def State.outboundWrite (s : State) (o : Outbound) : SliceWrite :=
  { line := lineOf o.pa, core := o.core, ctx := o.ctx, tid := o.tid, id := some o.id, cycle := s.pkg.refCycle }

/-- An atomic at the home slice: on the own die, or on another, whose reply then crosses dies (R253, R255); one that writes takes its turn
among the writes queued there (R258). -/
def State.atomicHome (s : State) (core ctx : Nat) (r : Req) (pa n old : Nat) (new : Option Nat) : State :=
  let k := ctxKey core ctx
  let ev := Instr.homeAtomic (coreId core) (ctxId ctx)
  let line := lineOf pa
  let h := homeDie pa
  let w := s.atomicWrite core ctx pa
  if new.isSome && (s.sliceBusy w || s.hostHolds line) then (s.queueWrite w).push ev
  else if s.hostOwns line then (s.askHost line).push ev
  else if h = dieOf core then
    match new with
    | none =>
      let s := s.homeFetch pa
      s.atomicOld k r old false ((s.dieAt h).home.get line {}).wts
    | some v =>
      let (wts, s) := ((s.leaveSlice w).imageStored w.tid pa).writeHome (some core) pa n v
      (s.updateL1At core pa n v wts).atomicOld k r old true wts
  else if (s.dieAt (dieOf core)).unapplied pa n then s.push ev
  else
    let s := match new with
      | none => s.homeFetch pa
      | some v => (((s.leaveSlice w).imageStored w.tid pa).writeHome none pa n v).2.applied (dieOf core) pa n v
    s.goOn k { r with done := r.done ++ [old], performed := new.isSome, reply := some ((s.dieAt h).stamp h, s.homeData pa), once := false }
      (.crossDieReply (coreId core) (ctxId ctx))

/-- The contention predictor of a core after an atomic to a line: how it changes is a free choice (R118) (DESIGN CHOICE, safe, log entry 8). -/
def State.predictNext (s : State) (core pa : Nat) : State :=
  let (n, s) := s.pick 2
  let c := s.coreAt core
  let bit := 1#64 <<< (pa / 64 % 64)
  s.setCoreAt core { c with predict := if n = 1 then c.predict ||| bit else c.predict &&& ~~~bit }

/-- HOME_ATOMIC (R253): an atomic of the first element of a request, once the context's earlier accesses to its line
are performed (DEDUCED, unsafe, log entry 8) (DEDUCED, unsafe, log entry 37). -/
def homeAtomic (core ctx : Nat) (s : State) : State :=
  let k := ctxKey core ctx
  let ev := Instr.homeAtomic (coreId core) (ctxId ctx)
  match s.reqAt k with
  | none => s
  | some r => match r.atom, r.todo with
    | some (op, e, c), ⟨.mem pa, n⟩ :: _ =>
      match s.heldByWrap (dieOf core) ev with
      | some s => s
      | none =>
        if s.busyLine k (lineOf pa) || s.splitBefore core (s.ctxAt k).task.tid (s.coreAt core).storeSerial (.mem pa) then s.push ev
        else if (isPeerMem pa || isPeerRegs pa) && !s.pkg.linkUp then s.push (.peerRequestTimeout (coreId core) (ctxId ctx))
        else if s.backed pa && !isPeerMem pa && s.hostOwns (lineOf pa) then (s.askHost (lineOf pa)).push ev
        else if s.lineBad pa then s.goOn k { r with error := true } (.loadReply (coreId core) (ctxId ctx))
        else
          let s := s.predictNext core pa
          let old := s.readPa pa n
          let new := atomicNew op (8 * n) old e.toNat c.toNat
          if op = .cas && new.isSome && s.casDenied k r n then
            s.within k fun s => (s.unStore r).late (.miss r.sel r.ea true false)
          else if !s.backed pa then s.atomicOld k r old new.isSome 0
          else if isPeerMem pa then
            let s := match new with | some v => (s.imageStored (s.ctxAt k).task.tid pa).writePeer pa n v | none => s
            (s.sawUntimed core).atomicOld k r old new.isSome (s.timeFor core (if new.isSome then r.acq else r.vals.headD 0 ≠ 0) r.scope)
          else s.atomicHome core ctx r pa n old new
    | _, _ => s

/-! ### Stores (R108, R244, R254, R255) -/

/-- Is a store to a counter page, by now a post on its way to its counter, one of a task's before number `id` (R408, R414)? -/
def earlierPost (core ctx tid page id : Nat) : Instr → Bool
  | .postArrive p => p.asOwner && p.acks && p.src = core && p.ctx = ctx && p.tid = tid && p.id < id && page = 0x200 + p.core
  | _ => false

/-- Is an earlier store of the task to a page of the register space still to be performed (R408)? -/
def State.pageBusy (s : State) (core ctx tid page id : Nat) : Bool :=
  s.agenda.any (earlierPost core ctx tid page id) || ((s.coreAt core).wbuf.any fun p => p.ctx = ctx && p.tid = tid && p.id < id && (match p.place with | .signal o => o / 4096 = page | _ => false)) ||
    s.agenda.any fun e => match ackOf e with
      | some (c, x, t, i) => c = core && x = ctx && t = tid && i < id && pageOf e = page
      | none => false

/-- The registers that a device core's store reaches as a release at system scope: offset 0 of a doorbell page or a link reduction page,
and XRESP (R332, R389, R426). -/
def releaseRegister (off : Nat) : Bool := off = 0x78 || (0x2000 ≤ off / 4096 && off / 4096 < 0x3040 && off % 4096 = 0)

/-- Must a store to such a register wait for earlier accesses of its task (R110, R332, R426)? -/
def State.registerHeld (s : State) (core : Nat) (p : Pending) : Bool :=
  match p.place with
  | .signal o =>
    releaseRegister o &&
      (((s.coreAt core).unacked.any fun u => u.1 = p.ctx && u.2.1 = p.tid && u.2.2 < p.id) ||
        ((s.coreAt core).splits.any fun x => x.tid = p.tid && x.reg ≠ 0 && x.before ≤ p.id) ||
        s.buffered p.tid || s.tasks.any fun t => t.tid = p.tid && t.subUnacked ≠ 0)
  | _ => false

/-- Do two places lie in the peer's memory (R419)? -/
def Place.bothPeer : Place → Place → Bool
  | .mem a, .mem b => isPeerMem a && isPeerMem b
  | _, _ => false

/-- May a buffered store be performed: no earlier store of the task to its line or page, or to the peer's memory as it is, is buffered,
and no earlier split load of it is outstanding. -/
def State.storeReady (s : State) (core : Nat) (earlier : List Pending) (p : Pending) : Bool :=
  !p.dead && !s.registerHeld core p && !(earlier.any fun q => q.ctx = p.ctx && q.tid = p.tid && (q.place.sameLine p.place || q.place.bothPeer p.place)) &&
    !s.splitBefore core p.tid p.id p.place &&
    (match p.place with | .signal o => !s.pageBusy core p.ctx p.tid (o / 4096) p.id | _ => true)

/-- The stores of a buffer that may be performed. -/
def State.readyStores (s : State) (core : Nat) (earlier : List Pending) : List Pending → List Pending
  | [] => []
  | p :: rest =>
    let r := s.readyStores core (earlier ++ [p]) rest
    if s.storeReady core earlier p then p :: r else r

/-- A store leaves the buffer. -/
def State.unbuffer (s : State) (core : Nat) (p : Pending) : State :=
  let c := s.coreAt core
  s.setCoreAt core { c with wbuf := c.wbuf.erase p }

/-- A store has been performed, or answered: its acknowledgement is on the way with a write time. -/
def State.ackPending (s : State) (core : Nat) (p : Pending) (wts : Nat) : State :=
  let s := s.unbuffer core p
  let c := s.coreAt core
  (s.setCoreAt core { c with acks := c.acks ++ [{ ctx := p.ctx, tid := p.tid, id := p.id, wts, line := p.place.line? }] }).push
    (.storeAck (coreId core) (ctxId p.ctx))

/-- A store to a line homed on another die: it updates the die's visitor copy, and travels as an outbound write; a
release at device or system scope updates the copy with its acknowledgement (R254, R255) (DEDUCED, unsafe, log entry 8). -/
def State.sendOutbound (s : State) (core : Nat) (p : Pending) (pa : Nat) : State :=
  let dn := dieOf core
  let d := s.dieAt dn
  let cur := d.vclk.get dn 0
  if s.outboundFull dn then s.push (.sliceWrite (coreId core))
  else
    let atHome := p.release && 4 ≤ p.scope
    let o : Outbound := { core, ctx := p.ctx, tid := p.tid, id := p.id, pa, size := p.size, value := p.value, stamp := d.stamp dn, epoch := cur, release := atHome }
    let s := ((s.unbuffer core p).setDieAt dn { d with outbound := d.outbound ++ [o] }).imageStored p.tid pa
    let s := if atHome then s else s.writeVisitor core pa p.size p.value
    s.push (.outboundWriteApply (dieId dn))

/-- A buffered store to memory is performed at its slice (R246), in its turn among the writes queued there (R258). -/
def State.storeMem (s : State) (core : Nat) (p : Pending) (pa : Nat) : State :=
  let ev := Instr.sliceWrite (coreId core)
  match s.heldByWrap (dieOf core) ev with
  | some s => s
  | none =>
  if isPeerMem pa || isPeerRegs pa then
    if !s.pkg.linkUp then
      let c := s.coreAt core
      (s.setCoreAt core { c with wbuf := c.wbuf.map fun q => if q = p then { q with dead := true } else q }).push
        (.peerRequestTimeout (coreId core) (ctxId p.ctx))
    else (if isPeerMem pa then (s.imageStored p.tid pa).writePeer pa p.size p.value else s).ackPending core p 0
  else if !s.backed pa then s.ackPending core p 0
  else if homeDie pa ≠ dieOf core then s.sendOutbound core p pa
  else
    let w := s.storeWrite core p pa
    if s.sliceBusy w || s.hostHolds (lineOf pa) then (s.queueWrite w).push ev
    else
      let (wts, s) := ((s.leaveSlice w).imageStored p.tid pa).writeHome (some core) pa p.size p.value
      (s.updateL1At core pa p.size p.value wts).ackPending core p wts

/-- SLICE_WRITE (R246): one of the core's buffered stores is performed, in any order but that of R263 and R408. -/
def sliceWrite (core : Nat) (s : State) : State :=
  let s := (s.coreAt core).wbuf.foldl (fun s p => if s.registerHeld core p then s.flushUpdates p.tid else s) s
  let ready := s.readyStores core [] (s.coreAt core).wbuf
  let (n, s) := s.pick ready.length
  match ready[n]? with
  | none => if (s.coreAt core).wbuf.any (!·.dead) then s.push (.sliceWrite (coreId core)) else s
  | some p => match p.place with
    | .signal off => registerWrite off (BitVec.ofNat 64 p.value) p.size (some (core, p.ctx, p.tid, p.id)) (s.unbuffer core p)
    | .mem pa => s.storeMem core p pa
    | _ => s.ackPending core p 0

/-- The outbound writes of a die that stand at their homes: of each line, the oldest that is not applied (R258). -/
def outboundHeads (earlier : List Outbound) : List Outbound → List Outbound
  | [] => []
  | o :: rest =>
    let r := outboundHeads (earlier ++ [o]) rest
    if !o.applied && !(earlier.any fun q => !q.applied && lineOf q.pa = lineOf o.pa) then o :: r else r

/-- OUTBOUND_WRITE_APPLY (R255): one of the die's outbound writes is applied at its home, where the home's record allows its stamp, in its
turn among the writes queued there (R258, R273). -/
def outboundWriteApply (dn : Nat) (s : State) : State :=
  let ev := Instr.outboundWriteApply (dieId dn)
  let heads := outboundHeads [] (s.dieAt dn).outbound
  let s := heads.foldl (fun s o => s.arriveAt (s.outboundWrite o)) s
  let ready := heads.filter fun o => (s.dieAt (homeDie o.pa)).allows o.stamp && !s.sliceBusy (s.outboundWrite o)
  let (n, s) := s.pick ready.length
  match ready[n]? with
  | none => if (s.dieAt dn).outbound.any (!·.applied) then s.push ev else s
  | some o =>
    if s.hostHolds (lineOf o.pa) then (s.backInvalidate (lineOf o.pa)).push ev
    else
      let s := ((s.leaveSlice (s.outboundWrite o)).writeHome none o.pa o.size o.value).2.applied dn o.pa o.size o.value
      let d := s.dieAt dn
      let mark := fun (q : Outbound) =>
        if q.core = o.core ∧ q.ctx = o.ctx ∧ q.tid = o.tid ∧ q.id = o.id ∧ q.pa = o.pa ∧ q.size = o.size then { q with applied := true } else q
      let s := s.setDieAt dn { d with outbound := d.outbound.map mark }
      let c := s.coreAt o.core
      (s.setCoreAt o.core { c with acks := c.acks ++ [{ ctx := o.ctx, tid := o.tid, id := o.id, wts := 0, line := some (lineOf o.pa) }] }).push (.storeAck (coreId o.core) (ctxId o.ctx))

/-- The acknowledgement of an outbound write: its bytes are no longer pending, or a release's bytes reach the die's copy
(R254). -/
def State.ackOutbound (s : State) (core ctx tid id : Nat) : State :=
  let dn := dieOf core
  let d := s.dieAt dn
  match d.outbound.find? fun o => o.applied && o.core = core && o.ctx = ctx && o.tid = tid && o.id = id with
  | none => s
  | some o =>
    let d := { d with outbound := d.outbound.erase o }
    let settle := fun (x : Nat × Visitor) => if x.1 = lineOf o.pa then (x.1, { x.2 with pending := d.pendingOf x.1 }) else x
    let s := s.setDieAt dn { d with visitors := d.visitors.map settle }
    (if o.release then
        s.copyTakes core (lineOf o.pa) (putBytes 0 (o.pa % 64) o.size o.value) (byteMask (o.pa % 64) o.size &&& o.live) false
      else s).updateDoneep dn |>.releaseHeld dn

/-- Is any part of a store still on its way? -/
def State.storeOut (s : State) (core ctx tid id : Nat) : Bool :=
  ((s.coreAt core).wbuf.any fun p => p.ctx = ctx && p.tid = tid && p.id = id) ||
    ((s.dieAt (dieOf core)).outbound.any fun o => o.core = core && o.ctx = ctx && o.tid = tid && o.id = id) ||
    ((s.coreAt core).acks.any fun a => a.ctx = ctx && a.tid = tid && a.id = id) ||
    s.agenda.any fun e => ackOf e = some (core, ctx, tid, id)

/-- A store is acknowledged in full: STORECNT falls, and a release store that waits for it completes (R107, R108). -/
def State.storeDone (s : State) (core ctx tid id : Nat) : State :=
  let c := s.coreAt core
  if (ctx, tid, id) ∉ c.unacked || s.storeOut core ctx tid id then s
  else
    let s := (s.setCoreAt core { c with unacked := c.unacked.erase (ctx, tid, id) }).mapTask tid fun t => { t with storecnt := t.storecnt - 1 }
    let k := ctxKey core ctx
    match (s.ctxAt k).wait with
    | .relStore words =>
      if (s.ctxAt k).task.tid = tid ∧ (s.ctxAt k).task.storecnt = 0 then s.within k fun s => s.wakeMe.advance words else s
    | _ => s

/-- STORE_ACK (R108): the oldest acknowledgement on its way to a context arrives. -/
def storeAck (core ctx : Nat) (s : State) : State :=
  let c := s.coreAt core
  match c.acks.find? fun a => a.ctx = ctx with
  | none => s
  | some a =>
    (((s.setCoreAt core { c with acks := c.acks.erase a }).raiseClock core a.wts).ackOutbound core ctx a.tid a.id).storeDone core ctx a.tid a.id

/-! ### Replies (R107) -/

/-- A result computed after the reply: the state it gives, or its stop after the park. -/
def State.orLate (s : State) (r : Result) : State :=
  match r with
  | .ok s => s
  | .error e => s.late e

/-- The steps of an acquire of the executing context whose request has its values (R247): at device or system scope, and for an atomic that
is an acquire and a release, the clock passes every write of the die, which the value or the order of R266 may come after (R266, R268)
(DEDUCED, unsafe, log entry 8). -/
def State.acquireFor (s : State) (r : Req) : State :=
  s.acquireAll s.curCore r.scope (if 4 ≤ r.scope || (r.atom.isSome && r.rel) then s.dieTime s.curCore else 0)

/-- The reply to a watch's read (R120). -/
def State.finishWatch (s : State) (r : Req) (v : Word) (p : Place) : State :=
  let again := { r with todo := [⟨p, 8⟩], done := [], hit := false }
  if r.done.headD 0 ≠ v.toNat then ((if r.acq then s.acquireFor r else s).wakeMe).advance r.words
  else if r.hit then s.setReq s.cur again
  else s.setMe { s.me with wait := .watch again }

/-- A request has all its values: what completes the instruction (R107, R110, R117). -/
def State.finishReq (s : State) (r : Req) : State :=
  let s := (s.raiseClock s.curCore r.wts).unStore r
  let acq := if r.atom.isSome && !r.performed then r.vals.headD 0 ≠ 0 else r.acq
  let line := BitVec.ofNat 512 (r.done.headD 0)
  match r.sink with
  | .watch v p => s.finishWatch r v p
  | .tensor t => s.orLate (s.wakeMe.finishTdef t line r.words)
  | .template i => s.orLate (s.wakeMe.finishXdef i line r.words)
  | .bind => s.orLate (s.wakeMe.finishTbind line r.sel r.ea r.words)
  | .action => s.orLate (s.wakeMe.finishTirr r.done r.words)
  | .exponent e => s.orLate (s.wakeMe.storeTensorRow e (some (r.done.headD 0)))
  | .join => s.finishJoin (r.done.headD 0) r.words
  | .recv d len => ((s.finishRecv d len).wakeMe).advance r.words
  | .entry q => match s.finishQsub q r.done r.words with
    | .ok s => s
    | .error s => s.push (.loadReply (coreId s.curCore) (ctxId s.curCtx))
  | k =>
    let s := (s.sinkDone k r.done).mergeFlags r.flags
    ((if acq then s.acquireFor r else s).wakeMe).advance r.words

/-- LOAD_REPLY (R107): the reply completes the instruction, or delivers a data-error trap (R113, R420). -/
def loadReply (core ctx : Nat) (s : State) : State :=
  let k := ctxKey core ctx
  match s.reqAt k with
  | none => s
  | some r =>
    if r.error then s.within k fun s => (s.unStore r).late (.trap 6 0 r.sel r.ea)
    else match r.todo with
      | [] => s.within k fun s => s.finishReq r
      | ⟨.signal off, n⟩ :: _ =>
        if s.pageBusy core ctx (s.ctxAt k).task.tid (off / 4096) (s.coreAt core).storeSerial ||
            s.splitBefore core (s.ctxAt k).task.tid (s.coreAt core).storeSerial (.signal off) then
          s.push (.loadReply (coreId core) (ctxId ctx))
        else if r.atom.isSome then s.atomicOld k r 0 false 0
        else
          let (v, s) := s.loadRegister off n
          s.serve k r (v % 2 ^ (8 * n)) 0
      | _ => s

/-! ### The peer window, weight stores and counters -/

/-- Does an element lie in an allocation that still lives (R126)? -/
def State.liveWindow (s : State) (t : Task) (a : Acc) : Bool :=
  match a.place with
  | .scratch c off => (match s.alloc c t.procid.toNat with | some l => l.base ≤ off && off + a.size ≤ l.base + l.size | none => false)
  | _ => true

/-- The effective address of a request's first element, in lane order, whose allocation has been released; asked before any element is
performed (R126, R178). -/
def State.windowGone (s : State) (t : Task) (r : Req) : Option Word :=
  if !r.done.isEmpty then none
  else ((List.range r.todo.length).find? fun i => match r.todo[i]? with | some a => !s.liveWindow t a | none => false).map fun i => r.eas.getD i r.ea

/-- PEER_WINDOW_ACCESS (R126): the first element of a request, at the shared port of its core. -/
def peerWindowAccess (core ctx : Nat) (s : State) : State :=
  let k := ctxKey core ctx
  let ev := Instr.peerWindowAccess (coreId core) (ctxId ctx)
  match s.reqAt k with
  | none => s
  | some r => match r.todo with
    | ⟨.scratch c off, n⟩ :: _ =>
      let t := (s.ctxAt k).task
      match s.windowGone t r with
      | some ea => s.within k fun s => (s.unStore r).late (.trap 4 0 r.sel ea)
      | none =>
      if (s.coreAt c).guarded off n || s.splitBefore core t.tid (s.coreAt core).storeSerial (.scratch c off) then s.push ev
      else match r.atom with
        | some (op, e, x) =>
          let old := s.readScratch c off n
          let new := atomicNew op (8 * n) old e.toNat x.toNat
          let s := match new with | some v => s.writeScratch c off n v t.tid | none => s
          (s.sawUntimed core).atomicOld k r old new.isSome (s.timeFor core (r.acq || r.vals.headD 0 ≠ 0) r.scope)
        | none => match r.vals[r.done.length]? with
          | some v => (s.writeScratch c off n v t.tid).serve k r 0 0
          | none => (s.sawUntimed core).serve k r (s.readScratch c off n) (s.timeFor core r.acq r.scope)
    | _ => s

/-- WEIGHT_STORE_ACCESS (R238): a read of a bank, which waits out its refresh window. -/
def weightStoreAccess (core ctx : Nat) (s : State) : State :=
  let k := ctxKey core ctx
  match s.reqAt k with
  | none => s
  | some r => match r.todo with
    | ⟨.weight d off, n⟩ :: _ =>
      let bank := off / 2 ^ 26
      if s.refreshing d bank then s.pushOnce (.refreshWindowEnd (dieId d) bank)
      else s.serve k r (s.readWeight d off n) 0
    | _ => s

/-- REFRESH_WINDOW_END (R238): the accesses that wait for the bank go on. -/
def refreshWindowEnd (d bank : Nat) (s : State) : State :=
  if s.refreshing d bank then s.pushOnce (.refreshWindowEnd (dieId d) bank)
  else s.ctxs.foldl (fun s (x : Nat × Context) =>
    match x.2.wait with
    | .req r => (match r.todo with
      | ⟨.weight e off, _⟩ :: _ => if e = d ∧ off / 2 ^ 26 = bank then s.pushOnce (.weightStoreAccess (coreId (x.1 / 16)) (ctxId (x.1 % 16))) else s
      | _ => s)
    | _ => s) s

/-- Is a post of the task to a counter still on its way (R263)? -/
def State.postsOut (s : State) (core : Nat) (t : Task) (m i : Nat) : Bool :=
  let mine := fun (e : Instr) => match e with
    | .postArrive p => p.core = m && p.index = i && p.src = core && p.tid = t.tid && p.acks
    | _ => false
  (t.sendq.any fun q => match q with | .post p => p.core = m && p.index = i | _ => false) ||
    (s.coreAt core).waiting.any (fun w => mine w.2.2.1) || s.pkg.packets.any (fun p => mine p.2.release) ||
    s.cores.any (fun c => c.2.reorder.any fun p => mine p.release) || s.agenda.any mine

/-- COUNTER_LOAD_ARRIVE (R23, R275): a 32-bit load of a counter, refused unless it serves the process. -/
def counterLoadArrive (core ctx : Nat) (s : State) : State :=
  let k := ctxKey core ctx
  match s.reqAt k with
  | none => s
  | some r => match r.todo with
    | ⟨.counter m i, _⟩ :: _ =>
      let t := (s.ctxAt k).task
      let x := (s.coreAt m).counters.get i {}
      if !(x.v && x.owner = t.procid) then s.within k fun s => s.late (.trap 4 0 r.sel r.ea)
      else if s.postsOut core t m i then s.push (.counterLoadArrive (coreId core) (ctxId ctx))
      else (s.sawUntimed core).serve k r x.count.toNat (s.timeFor core r.acq r.scope)
    | _ => s

/-! ### Split loads (R114, R115, R131) -/

/-- The value of a split load to memory, with its write time. -/
def State.splitMem (s : State) (core : Nat) (x : Split) (pa : Nat) : Got (Nat × Nat) :=
  let own := (s.coreAt core).overlay x.before x.ctx x.tid pa x.size
  let dn := dieOf core
  match s.wrapWait dn with
  | some s => .wait s
  | none =>
  if isPeerRegs pa then
    if s.pkg.linkUp then (let (v, s) := s.peerRegister pa x.size; .ok (v, 0) s) else .bad 0
  else if isPeerMem pa then
    if s.pkg.linkUp then (let (v, s) := s.readPeer pa x.size; .ok (own v, 0) (s.sawUntimed core)) else .bad 0
  else if !s.backed pa then .ok (0, 0) s
  else match if x.hint = 2 then none else s.hitL1 core own pa x.size with
    | some (v, t) => .ok (v, ((s.coreAt core).l1.find (lineOf pa)).elim 0 (·.wts)) t
    | none =>
      if homeDie pa = dn && s.hostOwns (lineOf pa) then .wait (s.askHost (lineOf pa))
      else if s.lineBad pa then .bad 0
      else match (s.bump core 5 1).sliceRead core own pa x.size (x.hint = 0) with
        | some (v, wts, s) => .ok (v, wts) s
        | none =>
          let h := homeDie pa
          if s.hostOwns (lineOf pa) then .wait (s.askHost (lineOf pa))
          else if !s.replyAllowed dn h then .wait s
          else
            let s := (s.learnFrom dn h).homeFetch pa
            let s := s.installVisitor dn (lineOf pa) (s.homeData pa)
            match s.sliceRead core own pa x.size (x.hint = 0) with
            | some (v, wts, s) => .ok (v, wts) s
            | none => .wait s

/-- The value of a split load, with its write time. -/
def State.splitValue (s : State) (core : Nat) (x : Split) : Got (Nat × Nat) :=
  match x.place with
  | .mem pa => s.splitMem core x pa
  | .scratch c off => if (s.coreAt c).guarded off x.size then .wait s else .ok (s.readScratch c off x.size, 0) (s.sawUntimed core)
  | .weight d off => if s.refreshing d (off / 2 ^ 26) then .wait s else .ok (s.readWeight d off x.size, 0) s
  | .counter m i => .ok (((s.coreAt m).counters.get i {}).count.toNat, 0) s
  | .signal off =>
    if s.pageBusy core x.ctx x.tid (off / 4096) x.before then .wait s
    else let (v, s) := s.loadRegister off x.size; .ok (v, 0) s

/-- The reply of a split load writes its register, sets FULL and clears PEND (R83). -/
def Task.takeSplit (t : Task) (reg : Nat) (v : Word) : Task := { t.setG reg v with pend := t.pend &&& ~~~bit256 reg }

/-- The data error of a split load, or its space fault: the register stays empty, and the trap is taken at the next issue (R115, R126). -/
def Task.dropSplit (t : Task) (reg cls : Nat) (sel : BitVec 16) (ea : Word) : Task :=
  { t with pend := t.pend &&& ~~~bit256 reg, pendingError := some (sel, ea), pendingClass := cls }

/-- The forwarding entry of a core for a register of a task, with the entries that remain once it has served that register (R131). -/
def Core.forwardFor (c : Core) (tid reg : Nat) : Option (Forward × Store Forward) :=
  (c.forwards.find? fun (f : Nat × Forward) => f.2.tid = tid && f.2.mask.getLsbD reg).map fun f =>
    let mask := f.2.mask &&& ~~~bit256 reg
    (f.2, if mask = 0 then c.forwards.drop f.1 else c.forwards.put f.1 { f.2 with mask })

/-- An error reply goes to its task, by way of the forwarding entries, each of which it frees of the register (R131). -/
def State.giveError (s : State) (core tid reg cls : Nat) (sel : BitVec 16) (ea : Word) : (fuel : Nat) → State
  | 0 => s
  | n + 1 => match (s.coreAt core).forwardFor tid reg with
    | some (f, rest) => (s.setCoreAt core { s.coreAt core with forwards := rest }).giveError f.dest tid reg cls sel ea n
    | none => s.mapTask tid fun t => t.dropSplit reg cls sel ea

/-- A reply at a core goes to its task, to the image in memory where no register file holds the register's line, or on to where the
task's forwarding entry says (R131); the image of a held task takes its full and pending bits (R83). -/
def State.giveSplit (s : State) (core wts tid reg : Nat) (v : Word) : State :=
  match (s.coreAt core).forwardFor tid reg with
  | some (f, rest) =>
    (s.setCoreAt core { s.coreAt core with forwards := rest }).push (.splitLoadForward (coreId core) wts (coreId f.dest) reg v tid)
  | none =>
    let s := (s.tasks.filter fun t => t.tid = tid && (8 + reg / 8) ∈ t.absent).foldl (fun s t =>
      (s.engineWrite core t.procid.toNat (t.image + BitVec.ofNat 64 (8 * (64 + reg))) 8 v.toNat).getD s) s
    let s := (s.raiseClock core wts).mapTask tid fun t => t.takeSplit reg v
    (s.cores.flatMap fun c => c.2.held.filter (·.2.tid = tid)).foldl (fun s h =>
      s.writeImage core h.2 2 4 h.2.holder.isSome ((List.range 8).map (16 + ·))) s

/-- A prefetch brings its line to the core: the state with the line there if it can be had now, else none (R121, R251). -/
def State.prefetchLine (s : State) (core pa : Nat) (x : Split) : Got Unit :=
  let lease := ((s.coreAt core).l1.find (lineOf pa)).any fun l => decide ((s.coreAt core).lclk ≤ l.rts)
  if isPeerMem pa || isPeerRegs pa || !s.backed pa || lease || s.setPinned core (lineOf pa) then .ok () s
  else match s.splitMem core { x with hint := 0 } pa with
    | .ok _ s => .ok () s
    | .wait s => .wait s
    | .bad n => .bad n

/-- Must a split load follow an earlier one of its task that is still outstanding (R126, R263)? -/
def State.splitBehind (s : State) (core : Nat) (x : Split) : Bool :=
  ((s.coreAt core).splits.takeWhile (· ≠ x)).any fun y => y.reg ≠ 0 && x.reg ≠ 0 && y.tid = x.tid && y.place.ordered core x.place

/-- Has the allocation been released that a split load reads (R126)? -/
def State.splitGone (s : State) (core : Nat) (x : Split) : Bool :=
  !x.place.isOwn core && s.tasks.any fun t => t.tid = x.tid && !s.liveWindow t ⟨x.place, x.size⟩

/-- SPLIT_LOAD_REPLY (R114). -/
def splitLoadReply (core n : Nat) (s : State) : State :=
  match (s.coreAt core).splits.find? fun x => splitId x.tid x.reg = n with
  | none => s
  | some x =>
    let fin := fun (s : State) => let c := s.coreAt core; s.setCoreAt core { c with splits := c.splits.erase x }
    let again := fun (s : State) => s.push (.splitLoadReply (coreId core) n)
    if x.reg = 0 then
      match x.place with
      | .mem pa => (match s.prefetchLine core pa x with
        | .wait s => again s
        | .bad _ => fin s
        | .ok _ s => fin s)
      | _ => fin s
    else if s.splitBehind core x then again s
    else if s.splitGone core x then (fin s).giveError core x.tid x.reg 4 x.sel x.ea 256
    else match s.splitValue core x with
    | .wait s => again s
    | .bad _ => (fin s).giveError core x.tid x.reg 6 x.sel x.ea 256
    | .ok (v, wts) s => (fin s).giveSplit core wts x.tid x.reg (extendLoad x.size true (v % 2 ^ (8 * x.size)))

/-- SPLIT_LOAD_FORWARD (R131, R248): a reply sent on reaches the core that its entry named. -/
def splitLoadForward (core wts dest reg : Nat) (v : Word) (tid : Nat) (s : State) : State :=
  let s := if dieOf core = dieOf dest then s.raiseClock dest wts else s.arrivalSteps dest
  s.giveSplit dest (s.coreAt dest).lclk tid reg v

/-! ### `wtne` (R120) -/

/-- Does a copy guard a doubleword of a scratchpad (R230)? -/
def State.guardOf8 (s : State) (core : Nat) (p : Place) : Bool :=
  match p with
  | .scratch _ off => (s.coreAt core).guarded off 8
  | _ => false

/-- WTNE_LINE_WRITE (R120): the watched line has been written, and the value is read again. -/
def wtneLineWrite (core ctx : Nat) (s : State) : State :=
  let k := ctxKey core ctx
  match (s.ctxAt k).wait with
  | .watch r => match r.sink, r.todo with
    | .watch v p, _ :: _ =>
      if p.isOwn core then
        (if (s.guardOf8 core p) then s.push (.wtneLineWrite (coreId core) (ctxId ctx))
        else if s.ownValue ⟨p, 8⟩ = v.toNat then s
        else s.within k fun s => ((if r.acq then s.acquireAll s.curCore r.scope (s.dieTime s.curCore) else s.sawUntimed s.curCore).wakeMe).advance r.words)
      else s.setReq k { r with hit := false }
    | _, _ => s
  | _ => s

/-! ### The peer link's errors (R420) -/

/-- PEER_REQUEST_TIMEOUT (R420): a request sent while the link was down is answered with an error. -/
def peerRequestTimeout (core ctx : Nat) (s : State) : State :=
  let k := ctxKey core ctx
  match (s.coreAt core).wbuf.find? fun p => p.dead && p.ctx = ctx with
  | some p => (s.mapTask p.tid fun t => { t with pendingError := some (p.sel, p.ea), pendingClass := 6 }).ackPending core p 0
  | none => match s.reqAt k with
    | none => s
    | some r => s.goOn k { r with error := true } (.loadReply (coreId core) (ctxId ctx))

/-! ### Meanings -/

/-- SLICE_LOAD (R246). -/
def execSliceLoad (core : CoreId) (ctx : CtxId) (s : State) : Host.Outcome State Fault Refusal := done (sliceLoad core.toNat ctx.toNat s)

/-- CROSS_DIE_REPLY (R255). -/
def execCrossDieReply (core : CoreId) (ctx : CtxId) (s : State) : Host.Outcome State Fault Refusal := done (crossDieReply core.toNat ctx.toNat s)

/-- HOME_ATOMIC (R253). -/
def execHomeAtomic (core : CoreId) (ctx : CtxId) (s : State) : Host.Outcome State Fault Refusal := done (homeAtomic core.toNat ctx.toNat s)

/-- SLICE_WRITE (R246). -/
def execSliceWrite (core : CoreId) (s : State) : Host.Outcome State Fault Refusal := done (sliceWrite core.toNat s)

/-- OUTBOUND_WRITE_APPLY (R255). -/
def execOutboundWriteApply (die : DieId) (s : State) : Host.Outcome State Fault Refusal := done (outboundWriteApply die.toNat s)

/-- STORE_ACK (R108). -/
def execStoreAck (core : CoreId) (ctx : CtxId) (s : State) : Host.Outcome State Fault Refusal := done (storeAck core.toNat ctx.toNat s)

/-- LOAD_REPLY (R107). -/
def execLoadReply (core : CoreId) (ctx : CtxId) (s : State) : Host.Outcome State Fault Refusal := done (loadReply core.toNat ctx.toNat s)

/-- PEER_WINDOW_ACCESS (R126). -/
def execPeerWindowAccess (core : CoreId) (ctx : CtxId) (s : State) : Host.Outcome State Fault Refusal := done (peerWindowAccess core.toNat ctx.toNat s)

/-- WEIGHT_STORE_ACCESS (R238). -/
def execWeightStoreAccess (core : CoreId) (ctx : CtxId) (s : State) : Host.Outcome State Fault Refusal := done (weightStoreAccess core.toNat ctx.toNat s)

/-- REFRESH_WINDOW_END (R238). -/
def execRefreshWindowEnd (die : DieId) (bank : Nat) (s : State) : Host.Outcome State Fault Refusal := done (refreshWindowEnd die.toNat bank s)

/-- COUNTER_LOAD_ARRIVE (R23). -/
def execCounterLoadArrive (core : CoreId) (ctx : CtxId) (s : State) : Host.Outcome State Fault Refusal := done (counterLoadArrive core.toNat ctx.toNat s)

/-- SPLIT_LOAD_REPLY (R114). -/
def execSplitLoadReply (core : CoreId) (n : Nat) (s : State) : Host.Outcome State Fault Refusal := done (splitLoadReply core.toNat n s)

/-- SPLIT_LOAD_FORWARD (R131). -/
def execSplitLoadForward (core : CoreId) (wts : Nat) (dest : CoreId) (reg : Nat) (value : Word) (tid : Nat) (s : State) :
    Host.Outcome State Fault Refusal := done (splitLoadForward core.toNat wts dest.toNat reg value tid s)

/-- WTNE_LINE_WRITE (R120). -/
def execWtneLineWrite (core : CoreId) (ctx : CtxId) (s : State) : Host.Outcome State Fault Refusal := done (wtneLineWrite core.toNat ctx.toNat s)

/-- PEER_REQUEST_TIMEOUT (R420). -/
def execPeerRequestTimeout (core : CoreId) (ctx : CtxId) (s : State) : Host.Outcome State Fault Refusal := done (peerRequestTimeout core.toNat ctx.toNat s)

end Sys2Proof.Machine
end

