-- ==== Sys2Proof/Machine/HostEvents.lean ====
section
/-! DEFINITION. The memory engine's own events: clock ticks and wraps (R246, R250), the end of visitor copies (R254),
published epochs (R255), host coherence (R257, R258), and the accesses of the peer package (R418, R422). -/

namespace Sys2Proof.Machine

/-! ### Clocks (R246, R250) -/

/-- The cores of a die. -/
def dieCores (dn : Nat) : List Nat := (List.range 64).map (64 * dn + ·)

/-- LCLK_TICK (R246): every logical clock of the die advances by one; a wrap begins if one is due. -/
def lclkTick (dn : Nat) (s : State) : State :=
  let s := (dieCores dn).foldl (fun (s : State) c => let x := s.coreAt c; s.setCoreAt c { x with lclk := x.lclk + 1 }) s
  if s.needWrap dn && !(s.dieAt dn).wrapHold then s.pushOnce (.clockWrapBegin (dieId dn)) else s

/-- CLOCK_WRAP_BEGIN (R250): new requests of the die's own agents are held. -/
def clockWrapBegin (dn : Nat) (s : State) : State :=
  if s.needWrap dn && !(s.dieAt dn).wrapHold then (s.setDieAt dn { s.dieAt dn with wrapHold := true }).push (.clockWrapDone (dieId dn)) else s

/-- Is a request of an agent of the die in flight (R250)? -/
def State.inFlight (s : State) (dn : Nat) : Bool :=
  (s.ctxs.any fun (x : Nat × Context) => dieOf (x.1 / 16) = dn && (match x.2.wait with | .req r => r.reply.isSome | _ => false)) ||
    !(s.dieAt dn).outbound.isEmpty || s.cores.any fun (c : Nat × Core) => dieOf c.1 = dn && !c.2.acks.isEmpty

/-- Clocks carried on the die's own way fall to zero with it (R250, R273). -/
def zeroCarried (dn : Nat) : Instr → Instr
  | .splitLoadForward core wts dest reg v tid => .splitLoadForward core (if dieOf core.toNat = dn then 0 else wts) dest reg v tid
  | e => e

/-- The reset of a die's clocks and caches (R250): visitor bytes that R254 keeps stay, the others end. -/
def State.wrapClocks (s : State) (dn : Nat) : State :=
  let d := s.dieAt dn
  let kept := (d.visitors.filter fun (v : Nat × Visitor) => v.2.pending ≠ 0).map fun (v : Nat × Visitor) =>
    (v.1, { v.2 with stale := ~~~v.2.pending, wts := 0, rts := 0 })
  let home := d.home.map fun (h : Nat × HomeLine) => (h.1, { h.2 with wts := 0, rts := 0 })
  let s := s.setDieAt dn { d with home, visitors := kept, vismax := [], xwts := 0, dwts := 0, wrapHold := false }
  let wait := fun (w : Wait) => match w with | .req r => Wait.req { r with wts := 0 } | w => w
  let calm := fun (t : Task) => { t with saw := 0 }
  { s with
    cores := s.cores.map fun (c : Nat × Core) =>
      if dieOf c.1 = dn then (c.1, { c.2 with
        lclk := 0, sread := 0, l1 := [], icache := [], inbound := c.2.inbound.map calm, held := c.2.held.map fun h => (h.1, calm h.2) })
      else c
    ctxs := s.ctxs.map fun (x : Nat × Context) =>
      if dieOf (x.1 / 16) = dn then (x.1, { x.2 with wait := wait x.2.wait, task := calm x.2.task }) else x
    pkg := { s.pkg with shuttles := s.pkg.shuttles.map fun (h : Task × Nat × Nat × Nat) => if h.2.2.2 = dn then (calm h.1, h.2.1, 0, dn) else h }
    agenda := s.agenda.map (zeroCarried dn) }

/-- CLOCK_WRAP_DONE (R250): with no request in flight the die resets its clocks and caches, and what was held goes on. -/
def clockWrapDone (dn : Nat) (s : State) : State :=
  if !(s.dieAt dn).wrapHold then s
  else if s.inFlight dn then s.push (.clockWrapDone (dieId dn))
  else (s.wrapClocks dn).releaseHeld dn

/-- VISITOR_EXPIRE (R254). -/
def visitorExpire (dn line : Nat) (s : State) : State := s.endVisitor dn line

/-! ### Published epochs (R255) -/

/-- DONEEP_PUBLISH (R255): DONEEP of the die goes to the other three. -/
def doneepPublish (dn : Nat) (s : State) : State :=
  (List.range 4).foldl (fun (s : State) e =>
    if e = dn then s else s.push (.doneepReceive (dieId e) (dieId dn) (BitVec.ofNat 32 ((s.dieAt dn).doneep.get dn 0)))) s

/-- DONEEP_RECEIVE (R255): the latest value published counts. -/
def doneepReceive (dn src epoch : Nat) (s : State) : State :=
  let d := s.dieAt dn
  s.setDieAt dn { d with doneep := d.doneep.put src (epochMax (d.doneep.get src 0) epoch) }

/-! ### Hosts (R257, R258) -/

/-- Does a port's request for a line wait: for the port's own answer, or for the other host's (R258)? -/
def State.portBusy (s : State) (line : Nat) (port : Bool) : Bool :=
  let key := line * 2 + port.toNat
  key ∈ s.pkg.backInv || key ∈ s.pkg.snoops

/-- Can a host hold the line: memory of this package, or of the host? -/
def State.hostLine (s : State) (pa : Nat) : Bool := s.backed pa && !isPeerMem pa

/-- HOST_READ (R257) (DEDUCED, unsafe, log entry 11). -/
def hostRead (port : Bool) (pa : Nat) (s : State) : State :=
  let ev := Instr.hostRead port pa
  let pa := s.frame pa
  let line := lineOf pa
  if !s.hostLine pa || s.hostState line port ≠ 0 then s
  else if s.portBusy line port then s.push ev
  else if s.hostState line (!port) = 2 ∨ s.hostState line (!port) = 4 then (s.askHost line).push ev
  else
    let st := s.pkgState pa
    let s := if st = 4 then s.setPkgState pa 3 else if st = 2 then s.setPkgState pa 1 else s
    s.setHostState line port 1

/-- HOST_TAKES_OWNERSHIP (R257): the home slice enters I, as for a write from outside (DEDUCED, unsafe, log entry 11). -/
def hostTakesOwnership (port : Bool) (pa : Nat) (s : State) : State :=
  let ev := Instr.hostTakesOwnership port pa
  let pa := s.frame pa
  let line := lineOf pa
  let other := line * 2 + (!port).toNat
  if !s.hostLine pa then s
  else if s.portBusy line port then s.push ev
  else if s.hostState line (!port) ≠ 0 then
    (if other ∈ s.pkg.backInv then s else s.setPkg { s.pkg with backInv := s.pkg.backInv ++ [other] }).push ev
  else (((s.outsideWrite pa).setPkgState pa 0).setHostState line port 4).wakeWatchers (.mem pa)

/-- BACK_INVALIDATION_ACK (R258): the host gives the line up, or, where it was asked for its data only, keeps it (DEDUCED, unsafe, log entry 11). -/
def backInvalidationAck (port : Bool) (pa : Nat) (data : Option (BitVec 512)) (s : State) : State :=
  let pa := s.frame pa
  let line := lineOf pa
  let key := line * 2 + port.toNat
  let st := s.hostState line port
  let s := match data with
    | some d => if (key ∈ s.pkg.backInv ∨ key ∈ s.pkg.snoops) ∧ (st = 2 ∨ st = 4) then s.hostData pa d else s
    | none => s
  if key ∈ s.pkg.backInv then
    let s := s.setPkg { s.pkg with backInv := s.pkg.backInv.filter (· ≠ key), snoops := s.pkg.snoops.filter (· ≠ key) }
    s.setHostState line port 0
  else if key ∈ s.pkg.snoops then
    let kept := if st = 4 ∨ data.isSome then 3 else 1
    let s := s.setPkg { s.pkg with snoops := s.pkg.snoops.filter (· ≠ key) }
    if st = 2 ∨ st = 4 then s.setHostState line port kept else s
  else s

/-- HOST_WRITEBACK (R253): a host returns a line that it held in M or O, and keeps at most an O or S copy (DEDUCED, unsafe, log entry 11). -/
def hostWriteback (port : Bool) (pa : Nat) (data : BitVec 512) (keep : Nat) (s : State) : State :=
  let pa := s.frame pa
  let line := lineOf pa
  let st := s.hostState line port
  if st < 2 then s
  else
    let s := if st = 3 then s else s.hostData pa data
    s.setHostState line port (if keep = 1 ∨ (keep = 3 ∧ st ≠ 2) then keep else 0)

/-- SLICE_EVICTION (R257): the line returns to I; its data are in memory. -/
def sliceEviction (pa : Nat) (s : State) : State := s.setPkgState pa 0

/-! ### The peer package's accesses (R418, R422) -/

/-- The operation of an atomic by its code (Table 5 of R116). -/
def AtomOp.ofCode (n : Nat) : AtomOp :=
  match n with
  | 0 => .add | 1 => .and | 2 => .or | 3 => .xor | 4 => .min | 5 => .max | 6 => .minu | 7 => .maxu | 8 => .swp | _ => .cas

/-- The new value that an access of the peer writes, if it writes. -/
def peerNew (a : PeerAcc) (old : Nat) : Option Nat :=
  match a.kind with
  | .read => none
  | .write | .release => some (a.value % 2 ^ (8 * a.size))
  | .atomic op e => atomicNew (.ofCode op) (8 * a.size) old e.toNat a.value

/-- A store of the peer to a page of the register space: aperture and counter pages only (R422) (DESIGN CHOICE, unsafe, log entry 19). -/
def State.peerPage (s : State) (a : PeerAcc) : State :=
  if s.pkg.phase < 6 then s
  else
  let page := a.addr / 4096
  let o := a.addr % 4096
  match a.kind with
  | .write | .release =>
    if 0x200 ≤ page ∧ page < 0x300 ∧ a.size = 4 ∧ o < 256 ∧ o % 4 = 0 then counterPageStore (page - 0x200) (o / 4) (a.value % 2 ^ 32) none s
    else if 0x1000 ≤ page ∧ page < 0x1800 ∧ a.size = 8 ∧ o = 0 then
      apertureStore ((page - 0x1000) / 8) ((page - 0x1000) % 8) (BitVec.ofNat 64 a.value) none s
    else s
  | _ => s

/-- PEER_ACCESS_ARRIVE (R418): an access of the peer package is performed, as one of an agent at system scope; a write is
one caused from outside every die (R246). A publication that may happen comes first (R428), and one that waits keeps its place in its
stream (R417). -/
def peerAccessArrive (a : PeerAcc) (s : State) : State :=
  let ev := Instr.peerAccessArrive a
  let s := s.tryPublish
  if a.page then s.peerPage a
  else if a.own then
    let pa := 0x800000000000 + a.addr
    if !isPeerMem pa then s
    else match peerNew a (s.readPa pa a.size) with
      | some v => (s.writePa pa a.size v).wakeWatchers (.mem pa)
      | none => s
  else
    let pa := s.frame a.addr
    if 0x8000000000 ≤ a.addr ∨ !s.backed pa then s
    else if s.hostOwns (lineOf pa) then (s.askHost (lineOf pa)).pushFront ev
    else match peerNew a (s.readPa pa a.size) with
      | none => s.homeFetch pa
      | some v =>
        if (s.dieAt (homeDie pa)).sliceq.any fun x => x.line = lineOf pa && s.stillQueued x && s.queuedMay x then s.pushFront ev
        else if s.hostHolds (lineOf pa) then (s.backInvalidate (lineOf pa)).pushFront ev
        else (s.writeHome none pa a.size v).2

/-! ### Meanings -/

/-- LCLK_TICK (R246). -/
def execLclkTick (die : DieId) (s : State) : Host.Outcome State Fault Refusal := done (lclkTick die.toNat s)

/-- CLOCK_WRAP_BEGIN (R250). -/
def execClockWrapBegin (die : DieId) (s : State) : Host.Outcome State Fault Refusal := done (clockWrapBegin die.toNat s)

/-- CLOCK_WRAP_DONE (R250). -/
def execClockWrapDone (die : DieId) (s : State) : Host.Outcome State Fault Refusal := done (clockWrapDone die.toNat s)

/-- VISITOR_EXPIRE (R254). -/
def execVisitorExpire (die : DieId) (line : Nat) (s : State) : Host.Outcome State Fault Refusal := done (visitorExpire die.toNat line s)

/-- DONEEP_PUBLISH (R255). -/
def execDoneepPublish (die : DieId) (s : State) : Host.Outcome State Fault Refusal := done (doneepPublish die.toNat s)

/-- DONEEP_RECEIVE (R255). -/
def execDoneepReceive (die src : DieId) (epoch : BitVec 32) (s : State) : Host.Outcome State Fault Refusal :=
  done (doneepReceive die.toNat src.toNat epoch.toNat s)

/-- HOST_READ (R257). -/
def execHostRead (port : Bool) (pa : Nat) (s : State) : Host.Outcome State Fault Refusal := done (hostRead port pa s)

/-- HOST_TAKES_OWNERSHIP (R257). -/
def execHostTakesOwnership (port : Bool) (pa : Nat) (s : State) : Host.Outcome State Fault Refusal := done (hostTakesOwnership port pa s)

/-- BACK_INVALIDATION_ACK (R258). -/
def execBackInvalidationAck (port : Bool) (pa : Nat) (data : Option (BitVec 512)) (s : State) : Host.Outcome State Fault Refusal :=
  done (backInvalidationAck port pa data s)

/-- HOST_WRITEBACK (R253). -/
def execHostWriteback (port : Bool) (pa : Nat) (data : BitVec 512) (keep : Nat) (s : State) : Host.Outcome State Fault Refusal :=
  done (hostWriteback port pa data keep s)

/-- SLICE_EVICTION (R257). -/
def execSliceEviction (pa : Nat) (s : State) : Host.Outcome State Fault Refusal := done (sliceEviction pa s)

/-- PEER_ACCESS_ARRIVE (R418). -/
def execPeerAccessArrive (a : PeerAcc) (s : State) : Host.Outcome State Fault Refusal := done (peerAccessArrive a s)

end Sys2Proof.Machine
end

