-- ==== Sys2Proof/Machine/Fetch.lean ====
section
/-! DEFINITION. Instruction fetch (R38, R39, R100): the words at PC from cached translations and instruction-cache lines
under their leases, and the fills that R72 starts. -/

namespace Sys2Proof.Machine

/-! ### What is present -/

/-- The 4 bytes at an offset, if the translation is cached and permits the fetch, and the line is in the instruction
cache under a valid lease; a signal page is read at the register (R408). -/
def State.fetchWord (s : State) (k : Nat) (ea : Word) : Option IWord :=
  let t := (s.ctxAt k).task
  let c := s.coreAt (k / 16)
  if 2 ^ 57 < ea.toNat + 4 then none
  else match s.cached (k / 16) t.procid.toNat false ea.toNat with
    | none => none
    | some x =>
      if !x.permits .fetch t.mode then none
      else match s.placeOf x ea.toNat with
        | .mem pa => match c.icache.find (lineOf pa) with
          | some l => if c.lclk ≤ l.rts then some (BitVec.ofNat 32 (getBytes l.data (pa % 64) 4)) else none
          | none => none
        | .signal off => some (BitVec.ofNat 32 (s.loadRegister off 4).1)
        | _ => none

/-- `n` words from an offset, up to the first that is not present, and where that one is. -/
def State.fetchFrom (s : State) (k : Nat) (ea : Word) : Nat → List IWord × Option Word
  | 0 => ([], none)
  | n + 1 => match s.fetchWord k ea with
    | none => ([], some ea)
    | some w => let r := s.fetchFrom k (ea + 4) n; (w :: r.1, r.2)

/-- The words of the next instruction of a context that are present, and the first offset that is not. -/
def State.fetched (s : State) (k : Nat) : List IWord × Option Word :=
  let pc := (s.ctxAt k).task.pc
  match s.fetchWord k pc with
  | none => ([], some pc)
  | some w => let r := s.fetchFrom k (pc + 4) (lenWords w - 1); (w :: r.1, r.2)

/-- The first offset that a context must have filled: of an annulled instruction, its word 0 only (R67, R72). -/
def State.missing (s : State) (k : Nat) : Option Word :=
  let t := (s.ctxAt k).task
  if t.annul ≠ 0 then (match s.fetchWord k t.pc with | some _ => none | none => some t.pc) else (s.fetched k).2

/-! ### Fills -/

/-- A line for the instruction cache, read as a plain load reads it (R39, R246). -/
def State.fillLine (s : State) (core pa : Nat) : Got L1Line :=
  let pa := pa / 64 * 64
  let dn := dieOf core
  let (lease, s) := s.lease
  let rts := (s.coreAt core).lclk + lease
  match s.wrapWait dn with
  | some s => .wait s
  | none =>
  if isPeerRegs pa then .ok { data := 0, wts := 0, rts, visitor := true } s
  else if isPeerMem pa then
    if s.pkg.linkUp then (let (v, s) := s.readPeer pa 64; .ok { data := BitVec.ofNat 512 v, wts := 0, rts, visitor := true } s) else .bad 0
  else if !s.backed pa then .ok { data := 0, wts := 0, rts, visitor := false } s
  else if s.lineBad pa then .bad 0
  else if homeDie pa = dn then
    if s.hostOwns (lineOf pa) then .wait (s.askHost (lineOf pa))
    else
      let s := s.homeFetch pa
      let d := s.dieAt dn
      let h := d.home.get (lineOf pa) {}
      let s := s.setDieAt dn { d with home := d.home.put (lineOf pa) { h with rts := Nat.max h.rts rts } }
      .ok { data := s.homeData pa, wts := h.wts, rts, visitor := false } s
  else
    let line := fun (r : Nat × State) =>
      let v := ((r.2.dieAt dn).visitors.find (lineOf pa)).getD { data := 0, wts := 0, rts := 0, born := 0 }
      Got.ok ({ data := v.data, wts := v.wts, rts, visitor := true } : L1Line) r.2
    match s.readVisitor core pa 64 lease with
    | some r => line r
    | none =>
      let h := homeDie pa
      if s.hostOwns (lineOf pa) then .wait (s.askHost (lineOf pa))
      else if !s.replyAllowed dn h then .wait s
      else
        let s := (s.learnFrom dn h).homeFetch pa
        let s := s.installVisitor dn (lineOf pa) (s.homeData pa)
        match s.readVisitor core pa 64 lease with
        | some r => line r
        | none => .wait s

/-- One of the 512 lines of a full instruction cache makes room for another: which, is a free choice (R100). -/
def State.codeRoom (s : State) (core line : Nat) : State :=
  let c := s.coreAt core
  if c.icache.length < 512 || (c.icache.find line).isSome then s
  else
    let (i, s) := s.pick c.icache.length
    match c.icache[i]? with
    | some l => s.setCoreAt core { c with icache := c.icache.drop l.1 }
    | none => s

/-- A line enters the instruction cache, and the core's clock takes its write time. -/
def State.installCode (s : State) (core pa : Nat) (l : L1Line) : State :=
  let s := s.codeRoom core (lineOf pa)
  let c := s.coreAt core
  (s.setCoreAt core { c with icache := c.icache.put (lineOf pa) l }).raiseClock core l.wts

/-- One fill of the executing context's fetch at an offset: the checks of R106 for a fetch, the walk, the line. -/
def State.fillOne (s : State) (ea : Word) : State :=
  let core := s.curCore
  let ev := Instr.fillArrive (coreId core) (ctxId s.curCtx)
  match s.locate s.agent .fetch 0 ea 4 with
  | .error .space => s.late (.trap 4 0 0 ea)
  | .error .absent => s.late (.miss 0 ea false true)
  | .error (.owned l) => (s.askHost l).push ev
  | .ok p =>
    match s.lookup core s.task.procid.toNat false ea.toNat with
    | some (_, false) => (s.noteWalk core s.task.procid.toNat 0 ea).push ev
    | _ => match p with
      | .mem pa => match s.fillLine core pa with
        | .wait s => s.push ev
        | .bad _ => s.late (.trap 6 0 0 ea)
        | .ok l s =>
          let s := s.installCode core pa l
          if (s.missing s.cur).isSome then s.push ev else s.wakeMe
      | _ => s.wakeMe

/-- The fills of the register lines that the executing context waits for (R81): one comes, until all are there. -/
def fillLines (ls : List Nat) (s : State) : State :=
  let ev := Instr.fillArrive (coreId s.curCore) (ctxId s.curCtx)
  match ls with
  | [] => s.wakeMe
  | l :: _ => match s.fillRegisters l with
    | .ok _ s => s.push ev
    | .wait s => s.push ev
    | .bad _ => s.late (.trap 6 0 1 (s.task.lineOffset l))

/-- FILL_ARRIVE (R81, R87): a fill of the executing context arrives, or reports a fault. -/
def fillArrive (s : State) : State :=
  match s.me.wait with
  | .fill => match s.missing s.cur with
    | none => s.wakeMe
    | some ea => s.fillOne ea
  | .lines ls => fillLines (ls.filter (· ∈ s.task.absent)) s
  | _ => s

/-- FILL_ARRIVE (R81). -/
def execFillArrive (core : CoreId) (ctx : CtxId) (s : State) : Host.Outcome State Fault Refusal :=
  done (s.within (ctxKey core.toNat ctx.toNat) fillArrive)

end Sys2Proof.Machine
end

