-- ==== Sys2Proof/Machine/Issue.lean ====
section
/-! DEFINITION. The issue turn (R72): the parks that end because their condition holds, the walk of a core's contexts, and
what each cycle advances: CYCLE (R34), the lease's timer (R411), and the happenings that come at fixed distances. -/

namespace Sys2Proof.Machine

/-! ### Parks decided at the turn (Table 3 of R71) -/

/-- Is an event there for the executing task's logical process, or is it done (R310)? -/
def State.eventThere (s : State) : Bool :=
  match s.boundLp with
  | none => true
  | some (_, _, lp) => !lp.waiting && lp.work.isEmpty &&
      (lp.inputs.any (·.state = 1) || (s.gvtOf lp.procid = BitVec.allOnes 64 && lp.actions.isEmpty))

/-- Has room come in a DEV queue's ring, or has the queue ceased to take entries (R357)? -/
def State.roomThere (s : State) (q : Nat) : Bool :=
  let x := s.queue q
  x.state = .disabled || !x.dev || (x.wridx - x.rdidx).toNat ≠ x.size

/-- Is the condition met that the executing context's instruction waits for, to be issued again? (DEDUCED, unsafe, log entry 6). -/
def State.waitOver (s : State) : Wait → Bool
  | .drained => s.drained
  | .storeRoom => s.task.storecnt < 255
  | .loads => s.task.pend = 0
  | .flushLine l => !s.lineBusy l
  | .slotFree => (match s.boundLp with | some (_, _, lp) => !lp.waiting | none => true)
  | .pendClear r => !s.task.isPend r
  | .full rs => rs.all s.task.isFull || rs.any fun r => !s.task.isFull r && !s.task.isPend r
  | .guard c off n => !(s.coreAt c).guarded off n
  | .sendRoom => s.task.sendq.length < 8
  | .queueRoom q => s.roomThere q
  | .event => s.eventThere
  | .hostLine l => !s.hostOwns l
  | .engineRead => true
  | .claim h => (match s.occupant s.curCore h with
      | none => true
      | some k => (s.ctxAt k).task.procid ≠ s.task.procid && (s.ctxAt k).claiming)
  | .subsApplied => s.task.subUnacked = 0 && !s.buffered s.task.tid
  | _ => false

/-- Does a wait ask for the task's subscription updates to leave (R295, R296)? -/
def Wait.flushes : Wait → Bool
  | .drained | .subsApplied | .exit | .publish _ _ _ _ _ => true
  | _ => false

/-- The park of the executing context is decided again (DEDUCED, unsafe, log entry 6). -/
def State.pollMe (s : State) : State :=
  if s.me.state ≠ .parked then s
  else
    let s := if s.me.wait.flushes then s.flushUpdates s.task.tid else s
    match s.me.wait with
    | .exit => if s.mayEnd then s.endTask else s
    | .channel ch _ => s.wakeChannel s.curCore ch
    | .publish _ _ _ _ _ => s.tryPublish
    | .accepted words => s.wakeMe.advance words
    | .xcan owner words => if s.engineWaits s.curCore owner then s else s.wakeMe.advance words
    | w => if s.waitOver w then s.wakeMe else s

/-- What is decided for a context before the turn: its send queue, its park, a task past COST at the instruction about to issue (R372), and a
pre-emption that waits (R280, R392). -/
def State.prepare (s : State) : State :=
  if s.me.state = .free || s.me.state = .stopped then s
  else
    let s := s.pumpSend 40
    let s := s.pollMe
    let s := if s.me.state = .ready && s.task.killed then s.park 1 .exit else s
    let s := if s.me.state = .ready && s.pastCost s.cur then boundedCostExpire s.task.tid s else s
    if s.me.preempt && s.me.state ≠ .free then s.tryPreempt else s

/-- Is there work that a FREE context of a core might take (R351), or for which a context is to be pre-empted (R358)? -/
def State.workThere (s : State) (core : Nat) : Bool :=
  let c := s.coreAt core
  let free := (List.range c.part.contexts).any fun i => (s.ctxAt (ctxKey core i)).state = .free
  let work := !c.inbound.isEmpty || (s.heldElsewhere core).isSome || !c.held.isEmpty || !c.spindles.isEmpty || !c.roots.isEmpty ||
    (s.theftProcess core).isSome || (c.reserved ++ c.claims).any fun x => s.rootTurn core x.2 && (s.boundedRoot x.2).isSome
  s.mayStart core && (free && work || !(s.preferred core).isEmpty)

/-! ### The walk (R72) -/

/-- Has the context issued within the last 3 cycles? -/
def tooSoon (now : Nat) : Option Nat → Bool
  | some t => now < t + 4
  | none => false

/-- Does a die advance in this reference cycle: at half rate in a thermal hold (R430)? -/
def Die.ticks (d : Die) : Bool := !d.hold || d.halfTick

/-- A context's next instruction is chosen: LAST is set, and the step that follows executes it. -/
def State.choose (s : State) (key k : Nat) (w : IWord) : State :=
  let now := (s.dieAt (dieOf (key / 16))).elapsed
  let x := s.ctxAt key
  let started := match x.task.started with | some t => some t | none => some now
  { s.setCtxAt key { x with last := some now, syn := [], task := { x.task with started } } with
    cur := key, ir := w, phase := .run, passed := k, before := (x.last, x.task.started) }

/-- An annulled instruction is discarded (R67, R87). -/
def State.discard (s : State) (key : Nat) (w : IWord) : State :=
  let x := s.ctxAt key
  (s.setCtxAt key { x with task := { x.task with pc := x.task.pc + BitVec.ofNat 64 (4 * lenWords w), annul := x.task.annul - 1 } }).bump (key / 16) 2 1

/-- The fill of an instruction starts, and the context parks (R72); it has read no register yet, so a fault of the fetch gives none back
(R66). -/
def State.startFill (s : State) (key : Nat) : State :=
  s.within key fun s => ((s.setMe { s.me with syn := [] }).park 4 .fill).push (.fillArrive (coreId s.curCore) (ctxId s.curCtx))

/-- The data error of a split load or store is taken at the next issue (R115, R420). -/
def State.takeError (s : State) (key : Nat) (sel : BitVec 16) (ea : Word) : State :=
  let now := (s.dieAt (dieOf (key / 16))).elapsed
  s.within key fun s =>
    let cls := s.task.pendingClass
    ((s.setMe { s.me with last := some now }).setTask { s.task with pendingError := none, pendingClass := 6 }).trap cls 0 sel ea

/-- A task whose PC is 0 ends as at a transfer to 0: nothing is fetched from there (R99) (DEDUCED, unsafe, log entry 42). -/
def State.endAtZero (s : State) (key : Nat) : State :=
  let now := (s.dieAt (dieOf (key / 16))).elapsed
  s.within key fun s => let s := s.setMe { s.me with last := some now }; s.settle s.exitTask

/-! ### The end of a turn and of a cycle -/

/-- A line of an L1, of an instruction cache, of a slice's visitor copies or of the system cache, or a cached translation of a core,
of a die or of the I/O die, may be replaced: a free choice (R244, R252, R254, R260). -/
def State.replaceOne (s : State) : State :=
  let (kind, s) := s.pick 8
  let (core, s) := s.pick 256
  let c := s.coreAt core
  match kind with
  | 1 =>
    let (i, s) := s.pick c.l1.length
    (match c.l1[i]? with
    | some l => if l.1 ∈ s.pinsOn core then s else s.setCoreAt core { c with l1 := c.l1.drop l.1 }
    | none => s)
  | 2 =>
    let (i, s) := s.pick c.icache.length
    (match c.icache[i]? with
    | some l => s.setCoreAt core { c with icache := c.icache.drop l.1 }
    | none => s)
  | 3 =>
    let (i, s) := s.pick c.tlb.length
    s.setCoreAt core { s.coreAt core with tlb := c.tlb.eraseIdx i }
  | 4 =>
    let d := s.dieAt (core / 64)
    let (i, s) := s.pick d.tlb.length
    s.setDieAt (core / 64) { s.dieAt (core / 64) with tlb := d.tlb.eraseIdx i }
  | 5 =>
    let (i, s) := s.pick s.pkg.trans.length
    s.setPkg { s.pkg with trans := s.pkg.trans.eraseIdx i }
  | 6 =>
    let (i, s) := s.pick (s.dieAt (core / 64)).visitors.length
    (match (s.dieAt (core / 64)).visitors[i]? with
    | some v => s.endVisitor (core / 64) v.1
    | none => s)
  | 7 =>
    let (i, s) := s.pick s.pkg.peerLines.length
    (match s.pkg.peerLines[i]? with
    | some l => s.setPkg { s.pkg with peerLines := s.pkg.peerLines.drop l.1 }
    | none => s)
  | _ => s

/-- The happenings that every cycle of a die may bring: clock ticks, quanta, periods, and the end of visitor copies (R246, R254, R320, R342,
R358); in a thermal hold the die has a cycle in every second of the reference's (R430). -/
def State.dieCycle (s : State) (dn : Nat) : State :=
  let d := s.dieAt dn
  if !d.ticks then s.setDieAt dn { d with real := d.real + 1, halfTick := true }
  else
    let s := s.setDieAt dn { d with cycle := d.cycle + 1, real := d.real + 1, halfTick := false }
    let now := d.elapsed + 1
    let s := if now % 256 = 0 then s.push (.lclkTick (dieId dn)) else s
    let s := if s.needWrap dn && !d.wrapHold then s.pushOnce (.clockWrapBegin (dieId dn)) else s
    let s := s.passBoundaries dn d.cycle (d.cycle + 1)
    d.visitors.foldl (fun s (v : Nat × Visitor) =>
      if v.2.born + 65536 ≤ now ∧ (v.2.pending = 0 ∨ v.2.stale ≠ ~~~v.2.pending) then s.pushOnce (.visitorExpire (dieId dn) v.1) else s) s

/-- The lease's timer, in cycles of the I/O die: six to seven of the reference (R411, R429) (DEDUCED, unsafe, log entry 41). -/
def State.leaseTick (s : State) : State :=
  let p := s.pkg
  if p.refCycle % 7 = 6 ∨ p.leaseTimer = 0 then s
  else
    let s := s.setPkg { p with leaseTimer := p.leaseTimer - 1 }
    if p.leaseTimer = 1 then s.push .leaseExpire else s

/-- Bounded tasks past COST (R343). -/
def State.costTick (s : State) : State :=
  s.ctxs.foldl (fun s (x : Nat × Context) =>
    if s.pastCost x.1 then s.pushOnce (.boundedCostExpire (coreId (x.1 / 16)) (ctxId (x.1 % 16)) x.2.task.tid) else s) s

/-- What the front-end, the walkers and the engines look at again: waiting entries, nodes, ended groups. -/
def State.watchCycle (s : State) : State :=
  let s := s.pkg.entries.foldl (fun s e =>
    if e.launch = 0 ∧ !e.rejected then s.pushOnce (.entryStart e.procid)
    else if (e.kind = 2 ∨ e.kind = 3) ∧ e.launch ≠ 0 ∧ !e.gateWait ∧ !e.faulted then s.watchNodes e
    else s) s
  s.pkg.groups.foldl (fun s (g : Nat × Group) => if g.2.ended then s.tryRelease (g.1 / 64) (g.1 % 64) else s) s

/-- The end of a reference cycle: the arrivals at barriers, then what each cycle advances (DESIGN CHOICE, unsafe, log entry 5) (DEDUCED, unsafe, log entry 41). -/
def State.endCycle (s : State) : State :=
  let s := s.arrivals
  let s := (List.range 4).foldl State.dieCycle s
  let n := s.pkg.refCycle + 1
  let s := (List.range 4).foldl State.thermalTick (s.setPkg { s.pkg with refCycle := n }).leaseTick
  let s := if n % 140000 = 0 then s.push .tokenRedivision else s
  let s := s.pkg.peerLines.foldl (fun s (l : Nat × Nat × BitVec 512) => if l.2.1 + 65536 ≤ n then s.pushOnce (.peerLineExpire l.1) else s) s
  (s.costTick.watchCycle).replaceOne

/-- The turn of a core is over: the next core's comes, and after the last core's the cycle ends. -/
def State.endTurn (s : State) (core : Nat) : State :=
  let s := { s with turn := (core + 1) % 256, passed := 0, resume := false }
  if core = 255 then s.endCycle else s

/-- Counters 0, 3 and 7 of a core's turn (R403) (DEDUCED, unsafe, log entry 41). -/
def State.countCycle (s : State) (core : Nat) : State :=
  let s := s.bump core 0 1
  if (s.coreAt core).loomq.any fun q => q.started && (q.op = .mma || q.op = .mmam) then s.bump core 7 1 else s

/-- The walk of a core's contexts from the turn's owner (R72): `k` have been passed. A context whose pre-emption is decided issues nothing
(R392). -/
def State.walkTurn (s : State) (core owner n : Nat) : (fuel k : Nat) → State
  | 0, _ => (s.bump core 3 1).endTurn core
  | f + 1, k =>
    let key := ctxKey core ((owner + k) % n)
    let x := s.ctxAt key
    if x.state ≠ .ready || x.preempt then s.walkTurn core owner n f (k + 1)
    else if x.task.pc = 0 then ((s.endAtZero key).bump core 1 1).endTurn core
    else if x.task.annul ≠ 0 then
      match s.fetchWord key x.task.pc with
      | none => (s.startFill key).walkTurn core owner n f (k + 1)
      | some w => (s.discard key w).walkTurn core owner n f (k + 1)
    else if tooSoon (s.dieAt (dieOf core)).elapsed x.last then s.walkTurn core owner n f (k + 1)
    else match x.task.pendingError with
      | some (sel, ea) => ((s.takeError key sel ea).bump core 1 1).endTurn core
      | none => match s.fetched key with
        | (w :: _, none) => s.choose key k w
        | _ => (s.startFill key).walkTurn core owner n f (k + 1)

/-- ISSUE_TURN (R72): a core's turn, from the owner of the cycle, or from where an instruction that did not take the turn
left it (DESIGN CHOICE, unsafe, log entry 5). -/
def issueTurn (core : Nat) (s : State) : State :=
  let n := (s.coreAt core).part.contexts
  let owner := (s.dieAt (dieOf core)).cycle % 16 % n
  if !(s.dieAt (dieOf core)).ticks then s.endTurn core
  else if s.resume then { s with resume := false }.walkTurn core owner n (n - 1 - s.passed) (s.passed + 1)
  else
    let s := (List.range 16).foldl (fun s i => s.within (ctxKey core i) State.prepare) s
    let s := if s.workThere core then s.pushOnce (.takeWork core) else s
    (s.countCycle core).walkTurn core owner n n 0

/-- What follows an instruction: its turn is over, unless it did not take it (R72). -/
def State.afterRun (s : State) (core : Nat) : State :=
  match s.phase with
  | .run => ({ s with phase := .event }.bump core 1 1).endTurn core
  | .event => s

/-! ### The next event -/

/-- The order that an event keeps with others: those with the same route are performed in order of arrival. Packets of one
stream (R17), and stores to one page of the register space (R408), have routes (DESIGN CHOICE, unsafe, log entry 5). -/
def routeOf : Instr → Option (Nat × Nat × Nat)
  | .postArrive p => some (2, p.src, p.core)
  | .msgDeliver p => some (2, p.src, p.core)
  | .spawnArrive p => some (2, p.src, p.core)
  | .subUpdateApply core entry _ _ _ _ => some (3, core, entry)
  | .tmsgArrive m => some (5, m.src, m.core)
  | .antiMsgArrive m => some (5, m.src, m.core)
  | .apertureStore core ch _ (_, _) => some (6, 0x1000 + 8 * core + ch, 0)
  | .lrChannelStore k _ (_, _) => some (6, 0x3000 + k, 0)
  | .counterPageStore core _ _ (_, _) => some (6, 0x200 + core, 0)
  | .registerWrite off _ _ (_, _) => some (6, off / 4096, 0)
  | .doorbellWridx q (_, _) => some (6, 0x2000 + q, 0)
  | .doorbellRdidx q (_, _) => some (6, 0x2000 + q, 0)
  | .doorbellResume (q, _) => some (6, 0x2000 + q, 0)
  | .doorbellDrop (q, _) => some (6, 0x2000 + q, 0)
  | .leaseWrite port _ => some (7, port.toNat, 0)
  | .peerAccessArrive a => some (8, a.stream, 0)
  | _ => none

/-- The port of a store to LEASE (R411). -/
def leasePort : Instr → Option Bool
  | .leaseWrite port _ => some port
  | .registerWrite off _ size (_, (some port)) => if off = 0xC0 ∧ size = 8 then some port else none
  | _ => none

/-- The queue of a store to a doorbell page, what it stores, 0 an index, 1 RESUME, 2 another, and its port (R332). -/
def doorbellOf : Instr → Option (Nat × Nat × Option Bool)
  | .doorbellWridx q (_, p) => some (q, 0, p)
  | .doorbellRdidx q (_, p) => some (q, 0, p)
  | .doorbellResume (q, p) => some (q, 1, p)
  | .doorbellDrop (q, p) => some (q, 2, p)
  | .registerWrite off v _ (_, p) =>
    if 0x2000 ≤ off / 4096 ∧ off / 4096 < 0x3000 then
      some (off / 4096 - 0x2000, if off % 4096 < 0x10 then 0 else if off % 4096 = 0x10 ∧ v = 1 then 1 else 2, p)
    else none
  | _ => none

/-- The core and the queue of a `qsub` whose last reply an event delivers (R357). -/
def State.qsubReply (s : State) : Instr → Option (Nat × Nat)
  | .loadReply core ctx => (match (s.ctxAt (ctxKey core.toNat ctx.toNat)).wait with
    | .req r => (match r.sink, r.todo with
      | .entry q, [] => some (core.toNat, q)
      | _, _ => none)
    | _ => none)
  | _ => none

/-- Must an event come before another, where the two meet in one cycle (R366, R374, R428): the active port's store to LEASE before the
other's, and before its doorbell stores; an index store before RESUME; the `qsub` of the lower core; a node's fault before its end; a
publication before the peer's accesses (DEDUCED, unsafe, log entry 44)? -/
def State.comesFirst (s : State) (f e : Instr) : Bool :=
  (match leasePort f, leasePort e, doorbellOf e with
    | some p, some q, _ => p = s.pkg.port && q ≠ s.pkg.port
    | some _, none, some (_, _, some _) => true
    | _, _, _ => false) ||
  (match doorbellOf f, doorbellOf e with
    | some (q, 0, _), some (r, 1, _) => q = r
    | _, _ => false) ||
  (match s.qsubReply f, s.qsubReply e with
    | some (c, q), some (d, r) => q = r && c < d
    | _, _ => false) ||
  (match f, e with
    | .nodeFault l a _, .nodeComplete m b => l = m && a = b
    | .lrComplete k, .peerAccessArrive _ => ((s.lrAt k).cmds.head?).any fun h => h.stage = 0
    | _, _ => false)

/-- The places in the agenda of the events that may come next; `seen` are earlier ones (DESIGN CHOICE, unsafe, log entry 5). -/
def State.eligible (s : State) (seen : List Instr) (i : Nat) : List Instr → List Nat
  | [] => []
  | e :: rest =>
    let behind := seen.any fun f => (routeOf e).isSome && routeOf f = routeOf e && !s.comesFirst e f
    let ok := !behind && !(seen ++ rest).any fun f => s.comesFirst f e
    if ok then i :: s.eligible (seen ++ [e]) (i + 1) rest else s.eligible (seen ++ [e]) (i + 1) rest

/-- Does an event belong to the cycle in which it comes, before anything else that is to come: a tick of the logical clocks, a wrap that is
due, the end of a copy by its age, the start of a period, a task past COST, a thermal hold, the end of the lease (R246, R249, R250, R254,
R260, R342, R372, R411, R430)? -/
def urgent : Instr → Bool
  | .lclkTick _ | .clockWrapBegin _ | .visitorExpire _ _ | .peerLineExpire _ | .periodStart _ | .boundedCostExpire _ _ _ |
    .thermalHoldEnter _ | .thermalHoldExit _ | .leaseExpire => true
  | _ => false

/-- What comes next: an urgent event; else an event of the agenda, or the issue turn, as a free choice; with no event, the issue turn
(DESIGN CHOICE, unsafe, log entry 5). -/
def State.nextEvent (s : State) : Instr × State :=
  let es := s.eligible [] 0 s.agenda
  let turn := Instr.issueTurn (coreId s.turn)
  match s.agenda.findIdx? urgent with
  | some i => (s.agenda.getD i turn, { s with agenda := s.agenda.eraseIdx i })
  | none =>
  if es.isEmpty then (turn, s)
  else
    let (n, s) := s.pick (es.length + 1)
    match es[n]? with
    | none => (turn, s)
    | some i => match s.agenda[i]? with
      | none => (turn, s)
      | some e => (e, { s with agenda := s.agenda.eraseIdx i })

/-- ISSUE_TURN (R72). -/
def execIssueTurn (core : CoreId) (s : State) : Host.Outcome State Fault Refusal := done (issueTurn core.toNat s)

end Sys2Proof.Machine
end

