-- ==== Sys2Proof/Machine/Mem.lean ====
section
/-! DEFINITION. The scalar memory instructions (04_core_memory R111 to R121): loads, stores, split loads,
atomics, `fence`, `wtne` and the line operations. -/

namespace Sys2Proof.Machine

/-- A load in the base form (R111): `size` bytes into D. -/
def loadBase (size : Nat) (signed : Bool) (d a : BitVec 7) (sp : BitVec 2) (i : BitVec 5) (s : State) : State :=
  s.instr [a.toNat] [] [] false (wr := [d.toNat]) fun s => s.loadReg (s.baseArg a sp i size) size (.reg d.toNat size signed)

/-- A load in a literal or extended form (R111). -/
def loadExt (size : Nat) (signed : Bool) (e : Ext) (s : State) : State :=
  s.instr [e.a.toNat, e.b.toNat] [] e.syn false (wr := [e.d.toNat]) fun s =>
    s.loadReg (s.extArg e) size (.reg e.d.toNat size signed)

/-- A store in the base form (R112): the low `size` bytes of S. -/
def storeBase (size : Nat) (d a : BitVec 7) (sp : BitVec 2) (i : BitVec 5) (s : State) : State :=
  s.instr [d.toNat, a.toNat] [] [] false fun s => s.storeReg (s.baseArg a sp i size) size (s.g d.toNat).toNat

/-- A store in a literal or extended form (R112). -/
def storeExt (size : Nat) (e : Ext) (s : State) : State :=
  s.instr [e.c.toNat, e.a.toNat, e.b.toNat] [] e.syn false fun s =>
    s.storeReg (s.extArg e) size (s.g e.c.toNat).toNat

/-- The 128-bit value of a register pair, the even register lowest. -/
def State.pair (s : State) (r : Nat) : Nat := (s.g r).toNat + 2 ^ 64 * (s.g (r + 1)).toNat

/-- A split load in the base form (R114). -/
def splitBase (size : Nat) (d a : BitVec 7) (sp : BitVec 2) (i : BitVec 5) (s : State) : State :=
  s.instr [a.toNat] [] [] false (wr := [d.toNat]) fun s => s.splitLoad (s.baseArg a sp i size) size d.toNat

/-- A split load in a literal or extended form (R114). -/
def splitExt (size : Nat) (e : Ext) (s : State) : State :=
  s.instr [e.a.toNat, e.b.toNat] [] e.syn false (wr := [e.d.toNat]) fun s => s.splitLoad (s.extArg e) size e.d.toNat

/-- An atomic of `size` bytes (R116). -/
def atomicExt (op : AtomOp) (size : Nat) (e : Ext) (s : State) : State :=
  s.instr [e.a.toNat, e.b.toNat, e.c.toNat] [] e.syn false (wr := [e.d.toNat]) fun s => s.atomic op size e

/-- A line operation in the base form (R121). -/
def lineBase (f : State → MemArg → Result) (a : BitVec 7) (sp : BitVec 2) (i : BitVec 5) (s : State) : State :=
  s.instr [a.toNat] [] [] false fun s => f s (s.baseArg a sp i 64)

/-- A line operation in a literal or extended form (R121). -/
def lineExt (f : State → MemArg → Result) (e : Ext) (s : State) : State :=
  s.instr [e.a.toNat, e.b.toNat] [] e.syn false fun s => f s (s.extArg e)

/-- `ldb` (R111). -/
def execLdb (d a : BitVec 7) (sp : BitVec 2) (i : BitVec 5) (s : State) : Host.Outcome State Fault Refusal := done (loadBase 1 true d a sp i s)

/-- `ldb` (R111). -/
def execLdbX (e : Ext) (s : State) : Host.Outcome State Fault Refusal := done (loadExt 1 true e s)

/-- `ldbu` (R111). -/
def execLdbu (d a : BitVec 7) (sp : BitVec 2) (i : BitVec 5) (s : State) : Host.Outcome State Fault Refusal := done (loadBase 1 false d a sp i s)

/-- `ldbu` (R111). -/
def execLdbuX (e : Ext) (s : State) : Host.Outcome State Fault Refusal := done (loadExt 1 false e s)

/-- `ldh` (R111). -/
def execLdh (d a : BitVec 7) (sp : BitVec 2) (i : BitVec 5) (s : State) : Host.Outcome State Fault Refusal := done (loadBase 2 true d a sp i s)

/-- `ldh` (R111). -/
def execLdhX (e : Ext) (s : State) : Host.Outcome State Fault Refusal := done (loadExt 2 true e s)

/-- `ldhu` (R111). -/
def execLdhu (d a : BitVec 7) (sp : BitVec 2) (i : BitVec 5) (s : State) : Host.Outcome State Fault Refusal := done (loadBase 2 false d a sp i s)

/-- `ldhu` (R111). -/
def execLdhuX (e : Ext) (s : State) : Host.Outcome State Fault Refusal := done (loadExt 2 false e s)

/-- `ldw` (R111). -/
def execLdw (d a : BitVec 7) (sp : BitVec 2) (i : BitVec 5) (s : State) : Host.Outcome State Fault Refusal := done (loadBase 4 true d a sp i s)

/-- `ldw` (R111). -/
def execLdwX (e : Ext) (s : State) : Host.Outcome State Fault Refusal := done (loadExt 4 true e s)

/-- `ldwu` (R111). -/
def execLdwu (d a : BitVec 7) (sp : BitVec 2) (i : BitVec 5) (s : State) : Host.Outcome State Fault Refusal := done (loadBase 4 false d a sp i s)

/-- `ldwu` (R111). -/
def execLdwuX (e : Ext) (s : State) : Host.Outcome State Fault Refusal := done (loadExt 4 false e s)

/-- `ldd` (R111). -/
def execLdd (d a : BitVec 7) (sp : BitVec 2) (i : BitVec 5) (s : State) : Host.Outcome State Fault Refusal := done (loadBase 8 false d a sp i s)

/-- `ldd` (R111). -/
def execLddX (e : Ext) (s : State) : Host.Outcome State Fault Refusal := done (loadExt 8 false e s)

/-- `stb` (R112). -/
def execStb (d a : BitVec 7) (sp : BitVec 2) (i : BitVec 5) (s : State) : Host.Outcome State Fault Refusal := done (storeBase 1 d a sp i s)

/-- `stb` (R112). -/
def execStbX (e : Ext) (s : State) : Host.Outcome State Fault Refusal := done (storeExt 1 e s)

/-- `sth` (R112). -/
def execSth (d a : BitVec 7) (sp : BitVec 2) (i : BitVec 5) (s : State) : Host.Outcome State Fault Refusal := done (storeBase 2 d a sp i s)

/-- `sth` (R112). -/
def execSthX (e : Ext) (s : State) : Host.Outcome State Fault Refusal := done (storeExt 2 e s)

/-- `stw` (R112). -/
def execStw (d a : BitVec 7) (sp : BitVec 2) (i : BitVec 5) (s : State) : Host.Outcome State Fault Refusal := done (storeBase 4 d a sp i s)

/-- `stw` (R112). -/
def execStwX (e : Ext) (s : State) : Host.Outcome State Fault Refusal := done (storeExt 4 e s)

/-- `std` (R112). -/
def execStd (d a : BitVec 7) (sp : BitVec 2) (i : BitVec 5) (s : State) : Host.Outcome State Fault Refusal := done (storeBase 8 d a sp i s)

/-- `std` (R112). -/
def execStdX (e : Ext) (s : State) : Host.Outcome State Fault Refusal := done (storeExt 8 e s)

/-- `ldp` (R111): one access of 16 bytes into D and D + 1. -/
def execLdp (d a : BitVec 7) (sp : BitVec 2) (i : BitVec 5) (s : State) : Host.Outcome State Fault Refusal := done (s.instr [a.toNat] [] [] false (wr := [d.toNat, d.toNat + 1]) fun s =>
    s.loadReg (s.baseArg a sp i 16) 16 (.pair d.toNat))

/-- `ldp` (R111). -/
def execLdpX (e : Ext) (s : State) : Host.Outcome State Fault Refusal := done (s.instr [e.a.toNat, e.b.toNat] [] e.syn false (wr := [e.d.toNat, e.d.toNat + 1]) fun s =>
    s.loadReg (s.extArg e) 16 (.pair e.d.toNat))

/-- `stp` (R112): S at ea and S + 1 at ea + 8, as one write. -/
def execStp (d a : BitVec 7) (sp : BitVec 2) (i : BitVec 5) (s : State) : Host.Outcome State Fault Refusal := done (s.instr [d.toNat, d.toNat + 1, a.toNat] [] [] false fun s =>
    s.storeReg (s.baseArg a sp i 16) 16 (s.pair d.toNat))

/-- `stp` (R112). -/
def execStpX (e : Ext) (s : State) : Host.Outcome State Fault Refusal := done (s.instr [e.c.toNat, e.c.toNat + 1, e.a.toNat, e.b.toNat] [] e.syn false fun s =>
    s.storeReg (s.extArg e) 16 (s.pair e.c.toNat))

/-- `ldf` (R114). -/
def execLdf (d a : BitVec 7) (sp : BitVec 2) (i : BitVec 5) (s : State) : Host.Outcome State Fault Refusal := done (splitBase 8 d a sp i s)

/-- `ldf` (R114). -/
def execLdfX (e : Ext) (s : State) : Host.Outcome State Fault Refusal := done (splitExt 8 e s)

/-- `ldfw` (R114). -/
def execLdfw (d a : BitVec 7) (sp : BitVec 2) (i : BitVec 5) (s : State) : Host.Outcome State Fault Refusal := done (splitBase 4 d a sp i s)

/-- `ldfw` (R114). -/
def execLdfwX (e : Ext) (s : State) : Host.Outcome State Fault Refusal := done (splitExt 4 e s)

/-- `aadd` (R116). -/
def execAadd (e : Ext) (s : State) : Host.Outcome State Fault Refusal := done (atomicExt .add 8 e s)

/-- `aand` (R116). -/
def execAand (e : Ext) (s : State) : Host.Outcome State Fault Refusal := done (atomicExt .and 8 e s)

/-- `aor` (R116). -/
def execAor (e : Ext) (s : State) : Host.Outcome State Fault Refusal := done (atomicExt .or 8 e s)

/-- `axor` (R116). -/
def execAxor (e : Ext) (s : State) : Host.Outcome State Fault Refusal := done (atomicExt .xor 8 e s)

/-- `amin` (R116). -/
def execAmin (e : Ext) (s : State) : Host.Outcome State Fault Refusal := done (atomicExt .min 8 e s)

/-- `amax` (R116). -/
def execAmax (e : Ext) (s : State) : Host.Outcome State Fault Refusal := done (atomicExt .max 8 e s)

/-- `aminu` (R116). -/
def execAminu (e : Ext) (s : State) : Host.Outcome State Fault Refusal := done (atomicExt .minu 8 e s)

/-- `amaxu` (R116). -/
def execAmaxu (e : Ext) (s : State) : Host.Outcome State Fault Refusal := done (atomicExt .maxu 8 e s)

/-- `aswp` (R116). -/
def execAswp (e : Ext) (s : State) : Host.Outcome State Fault Refusal := done (atomicExt .swp 8 e s)

/-- `acas` (R116). -/
def execAcas (e : Ext) (s : State) : Host.Outcome State Fault Refusal := done (atomicExt .cas 8 e s)

/-- `aaddw` (R116). -/
def execAaddw (e : Ext) (s : State) : Host.Outcome State Fault Refusal := done (atomicExt .add 4 e s)

/-- `aandw` (R116). -/
def execAandw (e : Ext) (s : State) : Host.Outcome State Fault Refusal := done (atomicExt .and 4 e s)

/-- `aorw` (R116). -/
def execAorw (e : Ext) (s : State) : Host.Outcome State Fault Refusal := done (atomicExt .or 4 e s)

/-- `axorw` (R116). -/
def execAxorw (e : Ext) (s : State) : Host.Outcome State Fault Refusal := done (atomicExt .xor 4 e s)

/-- `aminw` (R116). -/
def execAminw (e : Ext) (s : State) : Host.Outcome State Fault Refusal := done (atomicExt .min 4 e s)

/-- `amaxw` (R116). -/
def execAmaxw (e : Ext) (s : State) : Host.Outcome State Fault Refusal := done (atomicExt .max 4 e s)

/-- `aminuw` (R116). -/
def execAminuw (e : Ext) (s : State) : Host.Outcome State Fault Refusal := done (atomicExt .minu 4 e s)

/-- `amaxuw` (R116). -/
def execAmaxuw (e : Ext) (s : State) : Host.Outcome State Fault Refusal := done (atomicExt .maxu 4 e s)

/-- `aswpw` (R116). -/
def execAswpw (e : Ext) (s : State) : Host.Outcome State Fault Refusal := done (atomicExt .swp 4 e s)

/-- `acasw` (R116). -/
def execAcasw (e : Ext) (s : State) : Host.Outcome State Fault Refusal := done (atomicExt .cas 4 e s)

/-- `fence` (R119). -/
def execFence (e : Ext) (s : State) : Host.Outcome State Fault Refusal := done (s.instr [] [] [] false fun s => s.fence (s.extArg e))

/-- `wtne` (R120). -/
def execWtne (d a : BitVec 7) (sp : BitVec 2) (i : BitVec 5) (s : State) : Host.Outcome State Fault Refusal := done (s.instr [d.toNat, a.toNat] [] [] false fun s => s.waitNotEqual (s.baseArg a sp i 8) (s.g d.toNat))

/-- `wtne` (R120). -/
def execWtneX (e : Ext) (s : State) : Host.Outcome State Fault Refusal := done (s.instr [e.c.toNat, e.a.toNat, e.b.toNat] [] e.syn false fun s =>
    s.waitNotEqual (s.extArg e) (s.g e.c.toNat))

/-- `pin` (R121). -/
def execPin (a : BitVec 7) (sp : BitVec 2) (i : BitVec 5) (s : State) : Host.Outcome State Fault Refusal := done (lineBase State.pinLine a sp i s)

/-- `pin` (R121). -/
def execPinX (e : Ext) (s : State) : Host.Outcome State Fault Refusal := done (lineExt State.pinLine e s)

/-- `unpin` (R121). -/
def execUnpin (a : BitVec 7) (sp : BitVec 2) (i : BitVec 5) (s : State) : Host.Outcome State Fault Refusal := done (lineBase State.unpinLine a sp i s)

/-- `unpin` (R121). -/
def execUnpinX (e : Ext) (s : State) : Host.Outcome State Fault Refusal := done (lineExt State.unpinLine e s)

/-- `flush` (R121). -/
def execFlush (a : BitVec 7) (sp : BitVec 2) (i : BitVec 5) (s : State) : Host.Outcome State Fault Refusal := done (lineBase State.flushLine a sp i s)

/-- `flush` (R121). -/
def execFlushX (e : Ext) (s : State) : Host.Outcome State Fault Refusal := done (lineExt State.flushLine e s)

/-- `pref` (R121). -/
def execPref (a : BitVec 7) (sp : BitVec 2) (i : BitVec 5) (s : State) : Host.Outcome State Fault Refusal := done (lineBase State.prefetch a sp i s)

/-- `pref` (R121). -/
def execPrefX (e : Ext) (s : State) : Host.Outcome State Fault Refusal := done (lineExt State.prefetch e s)

end Sys2Proof.Machine
end

