-- ==== Sys2Proof/Machine/Dispatch.lean ====
section
/-! DEFINITION. One arm per constructor of `Instr`: a direct call of its meaning. -/

namespace Sys2Proof.Machine

/-- What an instruction or an event does. -/
def exec (i : Instr) (s : State) : Host.Outcome State Fault Refusal :=
  match i with
  | .issueTurn core => Sys2Proof.Machine.execIssueTurn core s
  | .fillArrive core ctx => Sys2Proof.Machine.execFillArrive core ctx s
  | .imageRecall core ctx => Sys2Proof.Machine.execImageRecall core ctx s
  | .divideDone core ctx => Sys2Proof.Machine.execDivideDone core ctx s
  | .vectorLongDone core => Sys2Proof.Machine.execVectorLongDone core s
  | .loadReply core ctx => Sys2Proof.Machine.execLoadReply core ctx s
  | .storeAck core ctx => Sys2Proof.Machine.execStoreAck core ctx s
  | .splitLoadReply core n => Sys2Proof.Machine.execSplitLoadReply core n s
  | .splitLoadForward core wts dest reg value tid => Sys2Proof.Machine.execSplitLoadForward core wts dest reg value tid s
  | .wtneLineWrite core ctx => Sys2Proof.Machine.execWtneLineWrite core ctx s
  | .shuttleDepart core ctx => Sys2Proof.Machine.execShuttleDepart core ctx s
  | .shuttleArrive tid => Sys2Proof.Machine.execShuttleArrive tid s
  | .waymaskGrowDone core => Sys2Proof.Machine.execWaymaskGrowDone core s
  | .waymaskShrink core => Sys2Proof.Machine.execWaymaskShrink core s
  | .rfpartRepartition core => Sys2Proof.Machine.execRfpartRepartition core s
  | .granaryReply core ctx => Sys2Proof.Machine.execGranaryReply core ctx s
  | .lclkTick die => Sys2Proof.Machine.execLclkTick die s
  | .sliceLoad core ctx => Sys2Proof.Machine.execSliceLoad core ctx s
  | .sliceWrite core => Sys2Proof.Machine.execSliceWrite core s
  | .homeAtomic core ctx => Sys2Proof.Machine.execHomeAtomic core ctx s
  | .outboundWriteApply die => Sys2Proof.Machine.execOutboundWriteApply die s
  | .crossDieReply core ctx => Sys2Proof.Machine.execCrossDieReply core ctx s
  | .doneepPublish die => Sys2Proof.Machine.execDoneepPublish die s
  | .doneepReceive die src epoch => Sys2Proof.Machine.execDoneepReceive die src epoch s
  | .visitorExpire die line => Sys2Proof.Machine.execVisitorExpire die line s
  | .peerLineExpire line => Sys2Proof.Machine.execPeerLineExpire line s
  | .clockWrapBegin die => Sys2Proof.Machine.execClockWrapBegin die s
  | .clockWrapDone die => Sys2Proof.Machine.execClockWrapDone die s
  | .hostRead port pa => Sys2Proof.Machine.execHostRead port pa s
  | .hostTakesOwnership port pa => Sys2Proof.Machine.execHostTakesOwnership port pa s
  | .backInvalidationAck port pa data => Sys2Proof.Machine.execBackInvalidationAck port pa data s
  | .sliceEviction pa => Sys2Proof.Machine.execSliceEviction pa s
  | .peerAccessArrive a => Sys2Proof.Machine.execPeerAccessArrive a s
  | .peerLinkDown => Sys2Proof.Machine.execPeerLinkDown s
  | .peerLinkUp => Sys2Proof.Machine.execPeerLinkUp s
  | .peerRequestTimeout core ctx => Sys2Proof.Machine.execPeerRequestTimeout core ctx s
  | .packetArrive n => Sys2Proof.Machine.execPacketArrive n s
  | .packetResend n => Sys2Proof.Machine.execPacketResend n s
  | .streamAck src net stream => Sys2Proof.Machine.execStreamAck src net stream s
  | .refreshWindowEnd die bank => Sys2Proof.Machine.execRefreshWindowEnd die bank s
  | .loomCmdStart core => Sys2Proof.Machine.execLoomCmdStart core s
  | .loomCmdDone core serial => Sys2Proof.Machine.execLoomCmdDone core serial s
  | .mmamSliceDone core serial => Sys2Proof.Machine.execMmamSliceDone core serial s
  | .loomClaimRetry core holder => Sys2Proof.Machine.execLoomClaimRetry core holder s
  | .loomRecallDone core ctx => Sys2Proof.Machine.execLoomRecallDone core ctx s
  | .loomRestoreDone core ctx => Sys2Proof.Machine.execLoomRestoreDone core ctx s
  | .copyStart core => Sys2Proof.Machine.execCopyStart core s
  | .copyLineWritten core serial => Sys2Proof.Machine.execCopyLineWritten core serial s
  | .copyComplete core serial => Sys2Proof.Machine.execCopyComplete core serial s
  | .copyTfault core serial sel off w => Sys2Proof.Machine.execCopyTfault core serial sel off w s
  | .copyRunFault core serial cause => Sys2Proof.Machine.execCopyRunFault core serial cause s
  | .apertureStore core ch value ack => Sys2Proof.Machine.execApertureStore core ch value ack s
  | .chownWrite core ch value => Sys2Proof.Machine.execChownWrite core ch value s
  | .postArrive p => Sys2Proof.Machine.execPostArrive p s
  | .mwaitWake core m => Sys2Proof.Machine.execMwaitWake core m s
  | .msgDeliver p => Sys2Proof.Machine.execMsgDeliver p s
  | .sendReply core ctx tid code => Sys2Proof.Machine.execSendReply core ctx tid code s
  | .sendReoffer core ctx tid => Sys2Proof.Machine.execSendReoffer core ctx tid s
  | .spawnArrive p => Sys2Proof.Machine.execSpawnArrive p s
  | .spawnReply core ctx tid value => Sys2Proof.Machine.execSpawnReply core ctx tid value s
  | .subRequestArrive p => Sys2Proof.Machine.execSubRequestArrive p s
  | .subUpdateApply core entry off data mask writers => Sys2Proof.Machine.execSubUpdateApply core entry off data mask writers s
  | .subLineTimeout core entry off => Sys2Proof.Machine.execSubLineTimeout core entry off s
  | .cbindWrite core m value => Sys2Proof.Machine.execCbindWrite core m value s
  | .cirqWrite core m value => Sys2Proof.Machine.execCirqWrite core m value s
  | .counterPageStore core m value ack => Sys2Proof.Machine.execCounterPageStore core m value ack s
  | .tmsgArrive m => Sys2Proof.Machine.execTmsgArrive m s
  | .tmsgReoffer core slot => Sys2Proof.Machine.execTmsgReoffer core slot s
  | .antiMsgArrive m => Sys2Proof.Machine.execAntiMsgArrive m s
  | .gvtStart procid => Sys2Proof.Machine.execGvtStart procid s
  | .gvtPublish procid => Sys2Proof.Machine.execGvtPublish procid s
  | .pdsyncWrite n => Sys2Proof.Machine.execPdsyncWrite n s
  | .qsyncWrite n => Sys2Proof.Machine.execQsyncWrite n s
  | .doorbellWridx q value => Sys2Proof.Machine.execDoorbellWridx q value s
  | .doorbellRdidx q value => Sys2Proof.Machine.execDoorbellRdidx q value s
  | .doorbellResume q => Sys2Proof.Machine.execDoorbellResume q s
  | .doorbellDrop q => Sys2Proof.Machine.execDoorbellDrop q s
  | .queueRead => Sys2Proof.Machine.execQueueRead s
  | .headerRepoll q => Sys2Proof.Machine.execHeaderRepoll q s
  | .entryStart procid => Sys2Proof.Machine.execEntryStart procid s
  | .periodStart q => Sys2Proof.Machine.execPeriodStart q s
  | .entryComplete id => Sys2Proof.Machine.execEntryComplete id s
  | .takeWork core => Sys2Proof.Machine.execTakeWork core s
  | .theftRequest core ctx victim procid => Sys2Proof.Machine.execTheftRequest core ctx victim procid s
  | .theftReply core ctx victim procid granted => Sys2Proof.Machine.execTheftReply core ctx victim procid granted s
  | .quantumBoundary die => Sys2Proof.Machine.execQuantumBoundary die s
  | .preempt core ctx => Sys2Proof.Machine.execPreempt core ctx s
  | .allocSwapOut procid cluster => Sys2Proof.Machine.execAllocSwapOut procid cluster s
  | .allocSwapIn procid cluster => Sys2Proof.Machine.execAllocSwapIn procid cluster s
  | .nodeFire launch addr => Sys2Proof.Machine.execNodeFire launch addr s
  | .nodeComplete launch addr => Sys2Proof.Machine.execNodeComplete launch addr s
  | .nodeFault launch addr cause => Sys2Proof.Machine.execNodeFault launch addr cause s
  | .weightGateOpen id => Sys2Proof.Machine.execWeightGateOpen id s
  | .tokenRedivision => Sys2Proof.Machine.execTokenRedivision s
  | .boundedCostExpire core ctx tid => Sys2Proof.Machine.execBoundedCostExpire core ctx tid s
  | .faultRecordWrite => Sys2Proof.Machine.execFaultRecordWrite s
  | .xrespResume value => Sys2Proof.Machine.execXrespResume value s
  | .xrespResumeAt value => Sys2Proof.Machine.execXrespResumeAt value s
  | .xrespTerminate value => Sys2Proof.Machine.execXrespTerminate value s
  | .hctlStop dom => Sys2Proof.Machine.execHctlStop dom s
  | .hctlRestart dom => Sys2Proof.Machine.execHctlRestart dom s
  | .uncorrectableError core tids => Sys2Proof.Machine.execUncorrectableError core tids s
  | .serviceCallStart die => Sys2Proof.Machine.execServiceCallStart die s
  | .sysReply die => Sys2Proof.Machine.execSysReply die s
  | .leaseWrite port value => Sys2Proof.Machine.execLeaseWrite port value s
  | .leaseExpire => Sys2Proof.Machine.execLeaseExpire s
  | .standbyStoreDrop => Sys2Proof.Machine.execStandbyStoreDrop s
  | .lrchownWrite k value => Sys2Proof.Machine.execLrchownWrite k value s
  | .lrChannelStore k value ack => Sys2Proof.Machine.execLrChannelStore k value ack s
  | .lrPairStart k partner => Sys2Proof.Machine.execLrPairStart k partner s
  | .lrComplete k => Sys2Proof.Machine.execLrComplete k s
  | .registerWrite off value size ack => Sys2Proof.Machine.execRegisterWrite off value size ack s
  | .coldReset env => Sys2Proof.Machine.execColdReset env s
  | .bootctlReset env => Sys2Proof.Machine.execBootctlReset env s
  | .thermalHoldEnter die => Sys2Proof.Machine.execThermalHoldEnter die s
  | .thermalHoldExit die => Sys2Proof.Machine.execThermalHoldExit die s
  | .subReply p code => Sys2Proof.Machine.execSubReply p code s
  | .peerWindowAccess core ctx => Sys2Proof.Machine.execPeerWindowAccess core ctx s
  | .weightStoreAccess core ctx => Sys2Proof.Machine.execWeightStoreAccess core ctx s
  | .counterLoadArrive core ctx => Sys2Proof.Machine.execCounterLoadArrive core ctx s
  | .translationWalkDone procid priv off => Sys2Proof.Machine.execTranslationWalkDone procid priv off s
  | .hostWriteback port pa data keep => Sys2Proof.Machine.execHostWriteback port pa data keep s
  | .add d a b => Sys2Proof.Machine.execAdd d a b s
  | .sub d a b => Sys2Proof.Machine.execSub d a b s
  | .mul d a b => Sys2Proof.Machine.execMul d a b s
  | .mulh d a b => Sys2Proof.Machine.execMulh d a b s
  | .mulhu d a b => Sys2Proof.Machine.execMulhu d a b s
  | .div d a b => Sys2Proof.Machine.execDiv d a b s
  | .divu d a b => Sys2Proof.Machine.execDivu d a b s
  | .rem d a b => Sys2Proof.Machine.execRem d a b s
  | .remu d a b => Sys2Proof.Machine.execRemu d a b s
  | .and d a b => Sys2Proof.Machine.execAnd d a b s
  | .or d a b => Sys2Proof.Machine.execOr d a b s
  | .xor d a b => Sys2Proof.Machine.execXor d a b s
  | .andn d a b => Sys2Proof.Machine.execAndn d a b s
  | .orn d a b => Sys2Proof.Machine.execOrn d a b s
  | .shl d a b => Sys2Proof.Machine.execShl d a b s
  | .shr d a b => Sys2Proof.Machine.execShr d a b s
  | .sra d a b => Sys2Proof.Machine.execSra d a b s
  | .rotl d a b => Sys2Proof.Machine.execRotl d a b s
  | .min d a b => Sys2Proof.Machine.execMin d a b s
  | .max d a b => Sys2Proof.Machine.execMax d a b s
  | .minu d a b => Sys2Proof.Machine.execMinu d a b s
  | .maxu d a b => Sys2Proof.Machine.execMaxu d a b s
  | .addw d a b => Sys2Proof.Machine.execAddw d a b s
  | .subw d a b => Sys2Proof.Machine.execSubw d a b s
  | .mulw d a b => Sys2Proof.Machine.execMulw d a b s
  | .shlw d a b => Sys2Proof.Machine.execShlw d a b s
  | .shrw d a b => Sys2Proof.Machine.execShrw d a b s
  | .sraw d a b => Sys2Proof.Machine.execSraw d a b s
  | .bext d a b => Sys2Proof.Machine.execBext d a b s
  | .bins d a b => Sys2Proof.Machine.execBins d a b s
  | .bset d a b => Sys2Proof.Machine.execBset d a b s
  | .bclr d a b => Sys2Proof.Machine.execBclr d a b s
  | .seq d a b => Sys2Proof.Machine.execSeq d a b s
  | .sne d a b => Sys2Proof.Machine.execSne d a b s
  | .slt d a b => Sys2Proof.Machine.execSlt d a b s
  | .sltu d a b => Sys2Proof.Machine.execSltu d a b s
  | .sle d a b => Sys2Proof.Machine.execSle d a b s
  | .sleu d a b => Sys2Proof.Machine.execSleu d a b s
  | .not d a => Sys2Proof.Machine.execNot d a s
  | .neg d a => Sys2Proof.Machine.execNeg d a s
  | .clz d a => Sys2Proof.Machine.execClz d a s
  | .ctz d a => Sys2Proof.Machine.execCtz d a s
  | .popc d a => Sys2Proof.Machine.execPopc d a s
  | .sextb d a => Sys2Proof.Machine.execSextb d a s
  | .sexth d a => Sys2Proof.Machine.execSexth d a s
  | .sextw d a => Sys2Proof.Machine.execSextw d a s
  | .zextb d a => Sys2Proof.Machine.execZextb d a s
  | .zexth d a => Sys2Proof.Machine.execZexth d a s
  | .zextw d a => Sys2Proof.Machine.execZextw d a s
  | .bswap d a => Sys2Proof.Machine.execBswap d a s
  | .addi d a imm => Sys2Proof.Machine.execAddi d a imm s
  | .andi d a imm => Sys2Proof.Machine.execAndi d a imm s
  | .ori d a imm => Sys2Proof.Machine.execOri d a imm s
  | .xori d a imm => Sys2Proof.Machine.execXori d a imm s
  | .shli d a imm => Sys2Proof.Machine.execShli d a imm s
  | .shri d a imm => Sys2Proof.Machine.execShri d a imm s
  | .srai d a imm => Sys2Proof.Machine.execSrai d a imm s
  | .rotli d a imm => Sys2Proof.Machine.execRotli d a imm s
  | .muli d a imm => Sys2Proof.Machine.execMuli d a imm s
  | .li d imm => Sys2Proof.Machine.execLi d imm s
  | .lpc d imm => Sys2Proof.Machine.execLpc d imm s
  | .skp a b cc k ib => Sys2Proof.Machine.execSkp a b cc k ib s
  | .br imm => Sys2Proof.Machine.execBr imm s
  | .call imm => Sys2Proof.Machine.execCall imm s
  | .jmp a imm => Sys2Proof.Machine.execJmp a imm s
  | .callr d a imm => Sys2Proof.Machine.execCallr d a imm s
  | .ret => Sys2Proof.Machine.execRet s
  | .dbnz d imm => Sys2Proof.Machine.execDbnz d imm s
  | .mfs d imm => Sys2Proof.Machine.execMfs d imm s
  | .mts d imm => Sys2Proof.Machine.execMts d imm s
  | .fset d => Sys2Proof.Machine.execFset d s
  | .fclr d => Sys2Proof.Machine.execFclr d s
  | .ldb d a sp imm => Sys2Proof.Machine.execLdb d a sp imm s
  | .ldbu d a sp imm => Sys2Proof.Machine.execLdbu d a sp imm s
  | .ldh d a sp imm => Sys2Proof.Machine.execLdh d a sp imm s
  | .ldhu d a sp imm => Sys2Proof.Machine.execLdhu d a sp imm s
  | .ldw d a sp imm => Sys2Proof.Machine.execLdw d a sp imm s
  | .ldwu d a sp imm => Sys2Proof.Machine.execLdwu d a sp imm s
  | .ldd d a sp imm => Sys2Proof.Machine.execLdd d a sp imm s
  | .stb d a sp imm => Sys2Proof.Machine.execStb d a sp imm s
  | .sth d a sp imm => Sys2Proof.Machine.execSth d a sp imm s
  | .stw d a sp imm => Sys2Proof.Machine.execStw d a sp imm s
  | .std d a sp imm => Sys2Proof.Machine.execStd d a sp imm s
  | .ldp d a sp imm => Sys2Proof.Machine.execLdp d a sp imm s
  | .stp d a sp imm => Sys2Proof.Machine.execStp d a sp imm s
  | .ldf d a sp imm => Sys2Proof.Machine.execLdf d a sp imm s
  | .ldfw d a sp imm => Sys2Proof.Machine.execLdfw d a sp imm s
  | .wtne d a sp imm => Sys2Proof.Machine.execWtne d a sp imm s
  | .pin a sp imm => Sys2Proof.Machine.execPin a sp imm s
  | .unpin a sp imm => Sys2Proof.Machine.execUnpin a sp imm s
  | .flush a sp imm => Sys2Proof.Machine.execFlush a sp imm s
  | .pref a sp imm => Sys2Proof.Machine.execPref a sp imm s
  | .alloc d a => Sys2Proof.Machine.execAlloc d a s
  | .free a => Sys2Proof.Machine.execFree a s
  | .go a sp imm => Sys2Proof.Machine.execGo a sp imm s
  | .bara imm => Sys2Proof.Machine.execBara imm s
  | .barw imm => Sys2Proof.Machine.execBarw imm s
  | .barset a imm => Sys2Proof.Machine.execBarset a imm s
  | .wsref d => Sys2Proof.Machine.execWsref d s
  | .join a => Sys2Proof.Machine.execJoin a s
  | .exit => Sys2Proof.Machine.execExit s
  | .yield => Sys2Proof.Machine.execYield s
  | .ndone a => Sys2Proof.Machine.execNdone a s
  | .trap imm => Sys2Proof.Machine.execTrap imm s
  | .sys imm => Sys2Proof.Machine.execSys imm s
  | .eret => Sys2Proof.Machine.execEret s
  | .halt => Sys2Proof.Machine.execHalt s
  | .brk => Sys2Proof.Machine.execBrk s
  | .rfpart imm => Sys2Proof.Machine.execRfpart imm s
  | .wmask imm => Sys2Proof.Machine.execWmask imm s
  | .ctrrd d a => Sys2Proof.Machine.execCtrrd d a s
  | .ctrcfg a b => Sys2Proof.Machine.execCtrcfg a b s
  | .addX e => Sys2Proof.Machine.execAddX e s
  | .subX e => Sys2Proof.Machine.execSubX e s
  | .mulX e => Sys2Proof.Machine.execMulX e s
  | .mulhX e => Sys2Proof.Machine.execMulhX e s
  | .mulhuX e => Sys2Proof.Machine.execMulhuX e s
  | .divX e => Sys2Proof.Machine.execDivX e s
  | .divuX e => Sys2Proof.Machine.execDivuX e s
  | .remX e => Sys2Proof.Machine.execRemX e s
  | .remuX e => Sys2Proof.Machine.execRemuX e s
  | .andX e => Sys2Proof.Machine.execAndX e s
  | .orX e => Sys2Proof.Machine.execOrX e s
  | .xorX e => Sys2Proof.Machine.execXorX e s
  | .andnX e => Sys2Proof.Machine.execAndnX e s
  | .ornX e => Sys2Proof.Machine.execOrnX e s
  | .shlX e => Sys2Proof.Machine.execShlX e s
  | .shrX e => Sys2Proof.Machine.execShrX e s
  | .sraX e => Sys2Proof.Machine.execSraX e s
  | .rotlX e => Sys2Proof.Machine.execRotlX e s
  | .minX e => Sys2Proof.Machine.execMinX e s
  | .maxX e => Sys2Proof.Machine.execMaxX e s
  | .minuX e => Sys2Proof.Machine.execMinuX e s
  | .maxuX e => Sys2Proof.Machine.execMaxuX e s
  | .addwX e => Sys2Proof.Machine.execAddwX e s
  | .subwX e => Sys2Proof.Machine.execSubwX e s
  | .mulwX e => Sys2Proof.Machine.execMulwX e s
  | .shlwX e => Sys2Proof.Machine.execShlwX e s
  | .shrwX e => Sys2Proof.Machine.execShrwX e s
  | .srawX e => Sys2Proof.Machine.execSrawX e s
  | .bextX e => Sys2Proof.Machine.execBextX e s
  | .binsX e => Sys2Proof.Machine.execBinsX e s
  | .bsetX e => Sys2Proof.Machine.execBsetX e s
  | .bclrX e => Sys2Proof.Machine.execBclrX e s
  | .seqX e => Sys2Proof.Machine.execSeqX e s
  | .sneX e => Sys2Proof.Machine.execSneX e s
  | .sltX e => Sys2Proof.Machine.execSltX e s
  | .sltuX e => Sys2Proof.Machine.execSltuX e s
  | .sleX e => Sys2Proof.Machine.execSleX e s
  | .sleuX e => Sys2Proof.Machine.execSleuX e s
  | .notX e => Sys2Proof.Machine.execNotX e s
  | .negX e => Sys2Proof.Machine.execNegX e s
  | .clzX e => Sys2Proof.Machine.execClzX e s
  | .ctzX e => Sys2Proof.Machine.execCtzX e s
  | .popcX e => Sys2Proof.Machine.execPopcX e s
  | .sextbX e => Sys2Proof.Machine.execSextbX e s
  | .sexthX e => Sys2Proof.Machine.execSexthX e s
  | .sextwX e => Sys2Proof.Machine.execSextwX e s
  | .zextbX e => Sys2Proof.Machine.execZextbX e s
  | .zexthX e => Sys2Proof.Machine.execZexthX e s
  | .zextwX e => Sys2Proof.Machine.execZextwX e s
  | .bswapX e => Sys2Proof.Machine.execBswapX e s
  | .addiX e => Sys2Proof.Machine.execAddiX e s
  | .andiX e => Sys2Proof.Machine.execAndiX e s
  | .oriX e => Sys2Proof.Machine.execOriX e s
  | .xoriX e => Sys2Proof.Machine.execXoriX e s
  | .shliX e => Sys2Proof.Machine.execShliX e s
  | .shriX e => Sys2Proof.Machine.execShriX e s
  | .sraiX e => Sys2Proof.Machine.execSraiX e s
  | .rotliX e => Sys2Proof.Machine.execRotliX e s
  | .muliX e => Sys2Proof.Machine.execMuliX e s
  | .liX e => Sys2Proof.Machine.execLiX e s
  | .lpcX e => Sys2Proof.Machine.execLpcX e s
  | .skpX e cc k ib imm => Sys2Proof.Machine.execSkpX e cc k ib imm s
  | .jmpX e => Sys2Proof.Machine.execJmpX e s
  | .callrX e => Sys2Proof.Machine.execCallrX e s
  | .dbnzX e => Sys2Proof.Machine.execDbnzX e s
  | .mfsX e => Sys2Proof.Machine.execMfsX e s
  | .mtsX x => Sys2Proof.Machine.execMtsX x s
  | .fsetX e => Sys2Proof.Machine.execFsetX e s
  | .fclrX e => Sys2Proof.Machine.execFclrX e s
  | .ldbX e => Sys2Proof.Machine.execLdbX e s
  | .ldbuX e => Sys2Proof.Machine.execLdbuX e s
  | .ldhX e => Sys2Proof.Machine.execLdhX e s
  | .ldhuX e => Sys2Proof.Machine.execLdhuX e s
  | .ldwX e => Sys2Proof.Machine.execLdwX e s
  | .ldwuX e => Sys2Proof.Machine.execLdwuX e s
  | .lddX e => Sys2Proof.Machine.execLddX e s
  | .stbX e => Sys2Proof.Machine.execStbX e s
  | .sthX e => Sys2Proof.Machine.execSthX e s
  | .stwX e => Sys2Proof.Machine.execStwX e s
  | .stdX e => Sys2Proof.Machine.execStdX e s
  | .ldpX e => Sys2Proof.Machine.execLdpX e s
  | .stpX e => Sys2Proof.Machine.execStpX e s
  | .ldfX e => Sys2Proof.Machine.execLdfX e s
  | .ldfwX e => Sys2Proof.Machine.execLdfwX e s
  | .aadd e => Sys2Proof.Machine.execAadd e s
  | .aand e => Sys2Proof.Machine.execAand e s
  | .aor e => Sys2Proof.Machine.execAor e s
  | .axor e => Sys2Proof.Machine.execAxor e s
  | .amin e => Sys2Proof.Machine.execAmin e s
  | .amax e => Sys2Proof.Machine.execAmax e s
  | .aminu e => Sys2Proof.Machine.execAminu e s
  | .amaxu e => Sys2Proof.Machine.execAmaxu e s
  | .aswp e => Sys2Proof.Machine.execAswp e s
  | .acas e => Sys2Proof.Machine.execAcas e s
  | .aaddw e => Sys2Proof.Machine.execAaddw e s
  | .aandw e => Sys2Proof.Machine.execAandw e s
  | .aorw e => Sys2Proof.Machine.execAorw e s
  | .axorw e => Sys2Proof.Machine.execAxorw e s
  | .aminw e => Sys2Proof.Machine.execAminw e s
  | .amaxw e => Sys2Proof.Machine.execAmaxw e s
  | .aminuw e => Sys2Proof.Machine.execAminuw e s
  | .amaxuw e => Sys2Proof.Machine.execAmaxuw e s
  | .aswpw e => Sys2Proof.Machine.execAswpw e s
  | .acasw e => Sys2Proof.Machine.execAcasw e s
  | .fence e => Sys2Proof.Machine.execFence e s
  | .wtneX e => Sys2Proof.Machine.execWtneX e s
  | .pinX e => Sys2Proof.Machine.execPinX e s
  | .unpinX e => Sys2Proof.Machine.execUnpinX e s
  | .flushX e => Sys2Proof.Machine.execFlushX e s
  | .prefX e => Sys2Proof.Machine.execPrefX e s
  | .allocX e => Sys2Proof.Machine.execAllocX e s
  | .freeX e => Sys2Proof.Machine.execFreeX e s
  | .goX e => Sys2Proof.Machine.execGoX e s
  | .vadd t e => Sys2Proof.Machine.execVadd t e s
  | .vsub t e => Sys2Proof.Machine.execVsub t e s
  | .vmul t e => Sys2Proof.Machine.execVmul t e s
  | .vfma t e => Sys2Proof.Machine.execVfma t e s
  | .vmin t e => Sys2Proof.Machine.execVmin t e s
  | .vmax t e => Sys2Proof.Machine.execVmax t e s
  | .vabs t e => Sys2Proof.Machine.execVabs t e s
  | .vand e => Sys2Proof.Machine.execVand e s
  | .vor e => Sys2Proof.Machine.execVor e s
  | .vxor e => Sys2Proof.Machine.execVxor e s
  | .vnot e => Sys2Proof.Machine.execVnot e s
  | .vshl t e => Sys2Proof.Machine.execVshl t e s
  | .vshr t e => Sys2Proof.Machine.execVshr t e s
  | .vsra t e => Sys2Proof.Machine.execVsra t e s
  | .vcmp t cc e => Sys2Proof.Machine.execVcmp t cc e s
  | .vsel e => Sys2Proof.Machine.execVsel e s
  | .vperm w e => Sys2Proof.Machine.execVperm w e s
  | .vbcast w e => Sys2Proof.Machine.execVbcast w e s
  | .vext w e => Sys2Proof.Machine.execVext w e s
  | .vred t op e => Sys2Proof.Machine.execVred t op e s
  | .vrcp t e => Sys2Proof.Machine.execVrcp t e s
  | .vrsq t e => Sys2Proof.Machine.execVrsq t e s
  | .vexp2 t e => Sys2Proof.Machine.execVexp2 t e s
  | .vlog2 t e => Sys2Proof.Machine.execVlog2 t e s
  | .vcvt v e => Sys2Proof.Machine.execVcvt v e s
  | .vrq e => Sys2Proof.Machine.execVrq e s
  | .vmov e => Sys2Proof.Machine.execVmov e s
  | .vcnt e => Sys2Proof.Machine.execVcnt e s
  | .vfirst e => Sys2Proof.Machine.execVfirst e s
  | .vld e => Sys2Proof.Machine.execVld e s
  | .vst e => Sys2Proof.Machine.execVst e s
  | .vlds w e => Sys2Proof.Machine.execVlds w e s
  | .vsts w e => Sys2Proof.Machine.execVsts w e s
  | .vgat w e => Sys2Proof.Machine.execVgat w e s
  | .vsca w e => Sys2Proof.Machine.execVsca w e s
  | .vldt e => Sys2Proof.Machine.execVldt e s
  | .vstt e => Sys2Proof.Machine.execVstt e s
  | .tdef e => Sys2Proof.Machine.execTdef e s
  | .tclaim e => Sys2Proof.Machine.execTclaim e s
  | .trel e => Sys2Proof.Machine.execTrel e s
  | .tld e => Sys2Proof.Machine.execTld e s
  | .mma e => Sys2Proof.Machine.execMma e s
  | .mmam e => Sys2Proof.Machine.execMmam e s
  | .acz e => Sys2Proof.Machine.execAcz e s
  | .acld e => Sys2Proof.Machine.execAcld e s
  | .acst t e => Sys2Proof.Machine.execAcst t e s
  | .acrd e => Sys2Proof.Machine.execAcrd e s
  | .xdef e => Sys2Proof.Machine.execXdef e s
  | .xfer e => Sys2Proof.Machine.execXfer e s
  | .xwait e => Sys2Proof.Machine.execXwait e s
  | .xstat e => Sys2Proof.Machine.execXstat e s
  | .xcan e => Sys2Proof.Machine.execXcan e s
  | .xpub e => Sys2Proof.Machine.execXpub e s
  | .wsrefX e => Sys2Proof.Machine.execWsrefX e s
  | .post e => Sys2Proof.Machine.execPost e s
  | .mwait e => Sys2Proof.Machine.execMwait e s
  | .mrd e => Sys2Proof.Machine.execMrd e s
  | .mset e => Sys2Proof.Machine.execMset e s
  | .send e => Sys2Proof.Machine.execSend e s
  | .recv e => Sys2Proof.Machine.execRecv e s
  | .spawn e => Sys2Proof.Machine.execSpawn e s
  | .spawnGrp e => Sys2Proof.Machine.execSpawnGrp e s
  | .subscribe e => Sys2Proof.Machine.execSubscribe e s
  | .unsub e => Sys2Proof.Machine.execUnsub e s
  | .subflush e => Sys2Proof.Machine.execSubflush e s
  | .tbind e => Sys2Proof.Machine.execTbind e s
  | .tnext e => Sys2Proof.Machine.execTnext e s
  | .tsend e => Sys2Proof.Machine.execTsend e s
  | .tdone e => Sys2Proof.Machine.execTdone e s
  | .tirr e => Sys2Proof.Machine.execTirr e s
  | .tgvt e => Sys2Proof.Machine.execTgvt e s
  | .fork e => Sys2Proof.Machine.execFork e s
  | .joinX e => Sys2Proof.Machine.execJoinX e s
  | .ndoneX e => Sys2Proof.Machine.execNdoneX e s
  | .qsub e => Sys2Proof.Machine.execQsub e s
  | .ptokTake e => Sys2Proof.Machine.execPtokTake e s
  | .ptokGive e => Sys2Proof.Machine.execPtokGive e s
  | .xlinvAll e => Sys2Proof.Machine.execXlinvAll e s
  | .xlinvPage e => Sys2Proof.Machine.execXlinvPage e s
  | .xlinvProc e => Sys2Proof.Machine.execXlinvProc e s
  | .ctrrdX e => Sys2Proof.Machine.execCtrrdX e s
  | .ctrcfgX e => Sys2Proof.Machine.execCtrcfgX e s

end Sys2Proof.Machine
end

