-- ==== Sys2Proof/Machine/Step.lean ====
section
/-! DEFINITION. One step of the machine: the next event, an issue turn among them (R72), or the instruction that the turn
chose. -/

namespace Sys2Proof.Machine

/-- The chosen instruction is decoded and executed; words that decode to no instruction raise the trap of R65. -/
noncomputable def runChosen (s : State) : Host.Outcome State Fault Refusal :=
  match s.fetched s.cur with
  | (ws, none) =>
    match decode ws with
    | .ok (i, _) =>
      match exec i s with
      | .next t => .next (t.afterRun s.curCore)
      | o => o
    | .error _ => .next ((s.settle (.error s.illegal)).afterRun s.curCore)
  | _ => .next { s with phase := .event }

/-- One step: in the phase `run`, the chosen instruction; otherwise an event of the agenda or the issue turn. -/
noncomputable def step (s : State) : Host.Outcome State Fault Refusal :=
  match s.phase with
  | .run => runChosen s
  | .event => exec s.nextEvent.1 s.nextEvent.2

/-- The frame in which `withFetchWord` places an instruction (DESIGN CHOICE, safe, log entry 4). -/
def fetchFrame : Nat := 0x10000

/-- The physical address of the word at an offset of PC, in that frame. -/
def State.placedAt (s : State) (pc : Word) (i : Nat) : Nat := s.frame (fetchFrame + (pc + BitVec.ofNat 64 (4 * i)).toNat % 4096)

/-- One word placed: in memory, and in the instruction cache of the executing core (DESIGN CHOICE, safe, log entry 4). -/
def State.placeWord (s : State) (pc : Word) (i : Nat) (w : IWord) : State :=
  let pa := s.placedAt pc i
  let c := s.coreAt s.curCore
  let l := c.icache.get (lineOf pa) { data := 0, wts := 0, rts := c.lclk, visitor := false }
  let line : L1Line := { l with data := putBytes l.data (pa % 64) 4 w.toNat, rts := c.lclk }
  ({ s with mem := writeBytes s.mem pa 4 w.toNat }).setCoreAt s.curCore { c with icache := c.icache.put (lineOf pa) line }

/-- The words placed one after the other. -/
def State.placeWords (s : State) (pc : Word) (i : Nat) : List IWord → State
  | [] => s
  | w :: rest => (s.placeWord pc i w).placeWords pc (i + 1) rest

/-- The state with an instruction, given by its bits, where the next step fetches: at PC of the executing context, which
has been chosen to issue, with its page's translation cached (DESIGN CHOICE, safe, log entry 4). -/
def State.withFetchWord (s : State) (nbits w : Nat) : State :=
  let x := s.me
  let pc := x.task.pc
  let ws := tableWords (w % 2 ^ nbits)
  let page : Trans := { procid := x.task.procid.toNat, priv := false, base := pc.toNat, log2 := 12, pa := fetchFrame, dpa := true
                        r := true, w := true, x := true, p := false }
  let c := s.coreAt s.curCore
  let s := (s.setMe { x with state := .ready, parkwhy := 0, wait := .none }).setCoreAt s.curCore { c with tlb := page :: c.tlb }
  { s.placeWords pc 0 ws with phase := .run, ir := ws.headD 0, passed := 0, resume := false }

end Sys2Proof.Machine
end

