-- ==== Sys2Proof/Safety.lean ====
section
/-! DEFINITION. What counts as a safe run, and the terms in which the statements say what an instruction needs and what it
changes. -/

namespace Sys2Proof.Machine

/-- A property of states that a step keeps. -/
def kept (p : State → Prop) : Prop := ∀ s t, p s → step s = .next t → p t

/-- Memory is in its canonical form. -/
def State.memOk (s : State) : Prop := Memory.wf s.mem = true

/-! ### What an instruction needs -/

/-- The general registers read and written and the vector registers read and written lie in the partition (R48), the register file
holds their lines (R81), and no register read has a parity error (R391). -/
structure sound (s : State) (gs wr vs vwr : List Nat) : Prop where
  within : s.part.holds (gs ++ wr) (vs ++ vwr) = true
  present : s.task.missing (gs ++ wr) (vs ++ vwr) = []
  goodG : ∀ r ∈ gs, r ∉ s.task.badRegs
  goodV : ∀ r ∈ vs, r ∉ s.task.badVecs

/-- Every register read synchronised is full (R84). -/
abbrev allFull (s : State) (syn : List Nat) : Prop := ∀ r ∈ syn, s.task.isFull r = true

/-- No host owns a line of the tables that walks of a process's shared space read for some offsets (R257). -/
def State.tablesHere (s : State) (procid : Nat) (offs : List Word) : Prop := ∀ x ∈ offs, s.tableOwned 256 procid false x.toNat = none

/-! ### What an instruction changes -/

/-- Nothing differs but the executing context: memory, every other context, the cores, the dies, the package and the events
to come are the same. -/
structure onlyMine (s t : State) : Prop where
  rest : { t with ctxs := s.ctxs } = s
  others : ∀ k, k ≠ s.cur → t.ctxAt k = s.ctxAt k

/-- The instruction has emptied the registers `syn` (R84), written `v` to general register `d` unless it is g0 (R47), and
set PC; nothing else differs but the full bits and the operand log, which R83 and R79 tie to the write. -/
structure wroteG (s t : State) (syn : List Nat) (d : Nat) (v : Word) (pc : Word) : Prop where
  mine : onlyMine s t
  ctx : { t.me with task := s.task, syn := s.me.syn } = s.me
  task : { t.task with
    pc := s.task.pc, g := s.task.g, full := s.task.full, oplog := s.task.oplog, logptr := s.task.logptr
    badRegs := s.task.badRegs } = s.task
  pc : t.task.pc = pc
  value : t.g d = if d = 0 then 0 else v
  regs : ∀ r, r ≠ d → t.g r = s.g r
  full : ∀ r, r < 256 → (t.task.isFull r = true ↔ r = 0 ∨ r = d ∨ (s.task.isFull r = true ∧ r ∉ syn))

/-- The same of an instruction that has read a scratchpad: its core remembers, besides, the time of its die (R264). -/
structure readG (s t : State) (syn : List Nat) (d : Nat) (v : Word) (pc : Word) : Prop where
  wrote : wroteG s { t with cores := s.cores } syn d v pc
  core : { t.coreAt s.curCore with sread := (s.coreAt s.curCore).sread } = s.coreAt s.curCore
  cores : ∀ c, c ≠ s.curCore → t.coreAt c = s.coreAt c

/-- A memory instruction has done what it does at its issue: its context is parked with PARKWHY 1, PC as before, and completes, PC past
`n` words, in the cycle after (R74, R107). -/
structure acceptedFor (s t : State) (n : Nat) : Prop where
  pc : t.task.pc = s.task.pc
  parked : t.me.state = .parked ∧ t.me.parkwhy = 1 ∧ t.me.wait = .accepted n

/-- The instruction has written vector register `d`, ORed `f` into FLAGS, emptied `syn`, and moved PC past `n` words; nothing
else differs. -/
structure wroteV (s t : State) (syn : List Nat) (d : Nat) (x : Vec) (f : Word) (n : Nat) : Prop where
  mine : onlyMine s t
  ctx : { t.me with task := s.task, syn := s.me.syn } = s.me
  task : { t.task with
    pc := s.task.pc, v := s.task.v, full := s.task.full, flags := s.task.flags
    badVecs := s.task.badVecs } = s.task
  pc : t.task.pc = s.task.pc + BitVec.ofNat 64 (4 * n)
  value : t.vreg d = x
  regs : ∀ r, r ≠ d → t.vreg r = s.vreg r
  flags : t.task.flags = s.task.flags ||| f
  full : ∀ r, r < 256 → (t.task.isFull r = true ↔ r = 0 ∨ (s.task.isFull r = true ∧ r ∉ syn))

/-- The same of an instruction that has read a scratchpad (R264). -/
structure readV (s t : State) (syn : List Nat) (d : Nat) (x : Vec) (f : Word) (n : Nat) : Prop where
  wrote : wroteV s { t with cores := s.cores } syn d x f n
  core : { t.coreAt s.curCore with sread := (s.coreAt s.curCore).sread } = s.coreAt s.curCore
  cores : ∀ c, c ≠ s.curCore → t.coreAt c = s.coreAt c

/-- The instruction has written no register: it has emptied `syn` and set PC; nothing else differs. -/
structure wentTo (s t : State) (syn : List Nat) (pc : Word) : Prop where
  mine : onlyMine s t
  ctx : { t.me with task := s.task, syn := s.me.syn } = s.me
  task : { t.task with pc := s.task.pc, full := s.task.full } = s.task
  pc : t.task.pc = pc
  full : ∀ r, r < 256 → (t.task.isFull r = true ↔ r = 0 ∨ (s.task.isFull r = true ∧ r ∉ syn))

/-- The context has parked with a PARKWHY and a wait, its registers `syn` emptied, and the events `evs` are to come; PC and
everything else is as before (R71). -/
structure parkedFor (s t : State) (syn : List Nat) (why : Nat) (w : Wait) (evs : List Instr) : Prop where
  rest : { t with ctxs := s.ctxs, agenda := s.agenda } = s
  agenda : t.agenda = s.agenda ++ evs
  others : ∀ k, k ≠ s.cur → t.ctxAt k = s.ctxAt k
  ctx : { t.me with task := s.task, syn := s.me.syn, state := s.me.state, parkwhy := s.me.parkwhy, wait := s.me.wait } = s.me
  parked : t.me.state = .parked ∧ t.me.parkwhy = why ∧ t.me.wait = w
  task : { t.task with full := s.task.full } = s.task
  full : ∀ r, r < 256 → (t.task.isFull r = true ↔ r = 0 ∨ (s.task.isFull r = true ∧ r ∉ syn))

/-- Nothing differs but the context `k`. -/
structure onlyCtx (s t : State) (k : Nat) : Prop where
  rest : { t with ctxs := s.ctxs } = s
  others : ∀ j, j ≠ k → t.ctxAt j = s.ctxAt j

/-- A context parked for a reply has been made READY: `v` is in general register `d` unless it is g0, and PC is past `n`
words; nothing else of the context differs. -/
structure repliedG (x y : Context) (d : Nat) (v : Word) (n : Nat) : Prop where
  ctx : { y with task := x.task, syn := x.syn, state := x.state, parkwhy := x.parkwhy, wait := x.wait } = x
  ready : y.state = .ready ∧ y.parkwhy = 0 ∧ y.wait = .none ∧ y.syn = []
  task : { y.task with
    pc := x.task.pc, g := x.task.g, full := x.task.full, oplog := x.task.oplog, logptr := x.task.logptr
    badRegs := x.task.badRegs } = x.task
  pc : y.task.pc = x.task.pc + BitVec.ofNat 64 (4 * n)
  value : y.task.gr d = if d = 0 then 0 else v
  regs : ∀ r, r ≠ d → y.task.gr r = x.task.gr r
  full : ∀ r, r < 256 → (y.task.isFull r = true ↔ r = d ∨ x.task.isFull r = true)

/-- The instruction parks its context with a PARKWHY, a wait and the events that follow. -/
def parksFor (i : Instr) (s : State) (syn : List Nat) (why : Nat) (w : Wait) (evs : List Instr) : Prop :=
  ∃ t, exec i s = .next t ∧ parkedFor s t syn why w evs

/-- The instruction completes and has written `v` to general register `d`, and only that. -/
def givesG (i : Instr) (s : State) (syn : List Nat) (d : Nat) (v : Word) (n : Nat) : Prop :=
  ∃ t, exec i s = .next t ∧ wroteG s t syn d v (s.task.pc + BitVec.ofNat 64 (4 * n))

/-- The instruction completes and has written `v`, read from a scratchpad, to general register `d`, and only that. -/
def readsG (i : Instr) (s : State) (syn : List Nat) (d : Nat) (v : Word) (n : Nat) : Prop :=
  ∃ t, exec i s = .next t ∧ readG s t syn d v (s.task.pc + BitVec.ofNat 64 (4 * n))

/-- The instruction completes and has written `v` to general register `d` and set PC, and only that. -/
def linksTo (i : Instr) (s : State) (syn : List Nat) (d : Nat) (v pc : Word) : Prop := ∃ t, exec i s = .next t ∧ wroteG s t syn d v pc

/-- The instruction completes and has written `x` to vector register `d` and ORed `f` into FLAGS, and only that. -/
def givesV (i : Instr) (s : State) (syn : List Nat) (d : Nat) (x : Vec) (f : Word) (n : Nat) : Prop :=
  ∃ t, exec i s = .next t ∧ wroteV s t syn d x f n

/-- The instruction completes and has written `x`, read from a scratchpad, to vector register `d`, and only that. -/
def readsV (i : Instr) (s : State) (syn : List Nat) (d : Nat) (x : Vec) (f : Word) (n : Nat) : Prop :=
  ∃ t, exec i s = .next t ∧ readV s t syn d x f n

/-- The instruction completes and has only set PC. -/
def goesTo (i : Instr) (s : State) (syn : List Nat) (pc : Word) : Prop := ∃ t, exec i s = .next t ∧ wentTo s t syn pc

/-! ### Traps -/

/-- A trap has been taken at PC (R383, R381): EPC, ECAUSE and EINFO are written; from user mode with TVEC.V set on the core's
die the handler is entered in privileged mode; otherwise one record of KIND 2 waits and the context is parked with PARKWHY 8.
No register, flag, space register or byte of memory differs. -/
structure trapped (s t : State) (cls cause : Nat) (sel : BitVec 16) (info : Word) : Prop where
  saved : t.task.epc = s.task.pc &&& ~~~3#64 ∧ t.task.einfo = info ∧ t.task.ecause = (sel.zeroExtend 64 <<< 32) |||
    ((BitVec.ofBool s.task.mode).zeroExtend 64 <<< 16) ||| (BitVec.ofNat 64 (cause % 256) <<< 8) ||| BitVec.ofNat 64 (cls % 256)
  task : { t.task with
    epc := s.task.epc, ecause := s.task.ecause, einfo := s.task.einfo, mode := s.task.mode, pc := s.task.pc } = s.task
  rest : { t with ctxs := s.ctxs, pkg := s.pkg, agenda := s.agenda } = s
  others : ∀ k, k ≠ s.cur → t.ctxAt k = s.ctxAt k
  entry :
    let tvec := (s.dieAt (dieOf s.curCore)).tvec
    if s.task.mode = false ∧ tvec.getLsbD 0 then
      t.task.mode = true ∧ t.task.pc = (tvec.extractLsb' 2 55).zeroExtend 64 <<< 2 ∧ t.pkg = s.pkg ∧ t.agenda = s.agenda ∧
        { t.me with task := s.task } = s.me
    else
      t.task.mode = s.task.mode ∧ t.task.pc = s.task.pc ∧
        t.pkg = { s.pkg with
          records := s.pkg.records ++ [{ s.ownRecord 2 with
            cls, cause, info, sel }] } ∧ t.agenda = s.agenda ++ [.faultRecordWrite] ∧
        t.me.wait = .response ∧ t.me.parkwhy = 8 ∧ (s.me.state ≠ .stopped → t.me.state = .parked)

/-- The instruction takes a trap. -/
def traps (i : Instr) (s : State) (cls cause : Nat) (sel : BitVec 16) (info : Word) : Prop :=
  ∃ t, exec i s = .next t ∧ trapped s t cls cause sel info

/-! ### What a larger effect leaves alone -/

/-- The executing task's registers are as before: general and vector registers, FLAGS, the mode, the space registers, the
special registers and what an exception saves. PC may differ. -/
structure sameRegs (s t : State) : Prop where
  g : ∀ r, t.g r = s.g r
  v : ∀ r, t.vreg r = s.vreg r
  rest : (t.task.flags, t.task.mode, t.task.s0, t.task.s1, t.task.s2, t.task.s3, t.task.skey, t.task.vtime, t.task.liveg, t.task.livev) =
    (s.task.flags, s.task.mode, s.task.s0, s.task.s1, s.task.s2, s.task.s3, s.task.skey, s.task.vtime, s.task.liveg, s.task.livev)
  saved : (t.task.epc, t.task.ecause, t.task.einfo) = (s.task.epc, s.task.ecause, s.task.einfo)

/-- General register `d` holds `v` unless it is g0, PC is `pc`, and no other register and no byte of memory differs; clocks and
cached copies may. -/
structure tookG (s t : State) (d : Nat) (v : Word) (pc : Word) : Prop where
  value : t.g d = if d = 0 then 0 else v
  regs : ∀ r, r ≠ d → t.g r = s.g r
  v : ∀ r, t.vreg r = s.vreg r
  rest : (t.task.flags, t.task.mode, t.task.s0, t.task.s1, t.task.s2, t.task.s3, t.task.skey, t.task.vtime, t.task.liveg, t.task.livev) =
    (s.task.flags, s.task.mode, s.task.s0, s.task.s1, s.task.s2, s.task.s3, s.task.skey, s.task.vtime, s.task.liveg, s.task.livev)
  saved : (t.task.epc, t.task.ecause, t.task.einfo) = (s.task.epc, s.task.ecause, s.task.einfo)
  pc : t.task.pc = pc
  mem : t.mem = s.mem

/-- One byte of memory. -/
def State.byteAt (s : State) (a : Nat) : Byte := Store.get s.mem a 0

/-- The first `n` bytes at `key` hold `v`, and every other byte of memory is as before. -/
def storedAt (s t : State) (key n v : Nat) : Prop :=
  readBytes t.mem key n = v % 2 ^ (8 * n) ∧ ∀ a, a < key ∨ key + n ≤ a → t.byteAt a = s.byteAt a

/-! ### Where an access lies -/

/-- An access of `n` bytes at `ea` through selector `sel` lies at byte `off` of the SRAM of the context's own core: the address is
aligned, the selector names that scratchpad, the bytes are inside the process's allocation, and no copy guards them (R20, R22,
R105, R106, R230). -/
structure ownAt (s : State) (sel : BitVec 16) (ea : Word) (n off : Nat) : Prop where
  aligned : ea.toNat % n = 0
  space : spaceOf s.curCore sel.toNat = some (.scratch s.curCore)
  inside : ∃ a, s.alloc s.curCore s.task.procid.toNat = some a ∧ ea.toNat + n ≤ a.size ∧ off = a.base + ea.toNat
  free : (s.coreAt s.curCore).guarded off n = false

/-- The bytes of the own core's SRAM. -/
def State.ownBytesAt (s : State) (off n : Nat) : Nat := readBytes s.mem (sramKey s.curCore off) n

/-- The request of the context `k` has its value: nothing is left to serve, `v` is the last value, and LOAD_REPLY is to come. -/
def servedWith (s t : State) (k : Nat) (r : Req) (v : Nat) : Prop :=
  t.mem = s.mem ∧ (∃ q, (t.ctxAt k).wait = .req q ∧ q.todo = [] ∧ q.done = r.done ++ [v] ∧ q.sink = r.sink ∧ q.words = r.words) ∧
    Instr.loadReply (coreId (k / 16)) (ctxId (k % 16)) ∈ t.agenda ∧
    { (t.ctxAt k) with wait := .none } = { (s.ctxAt k) with wait := .none }

end Sys2Proof.Machine
end

