-- ==== Sys2Proof/Certificates/Slice0/Obligations.lean ====
section
/-! DEFINITION. The statements for the provers. Each says what the spec's rules say of an instruction or of the machine; those
that follow a choice of the model say so and name its log entry. -/

section

open Sys2Proof Sys2Proof.Machine


/-- R89: each three-operand instruction in its base form writes the D of Table 7, for registers A and B, and only that.

R89, R84: the extended forms do the same with any registers, once the registers read synchronised are full. -/
def Obligations.ThreeOperandOperations : Prop :=
  (
    ∀ (s : State) (d a b : BitVec 7), sound s [a.toNat, b.toNat] [d.toNat] [] [] →
      let x := s.g a.toNat; let y := s.g b.toNat
      let ok : Instr → Word → Prop := fun i v => givesG i s [] d.toNat v 1
      ok (.add d a b) (x + y) ∧
      ok (.sub d a b) (x - y) ∧
      ok (.mul d a b) (x * y) ∧
      ok (.mulh d a b) (((x.signExtend 128 * y.signExtend 128) >>> 64).setWidth 64) ∧
      ok (.mulhu d a b) (((x.zeroExtend 128 * y.zeroExtend 128) >>> 64).setWidth 64) ∧
      ok (.and d a b) (x &&& y) ∧
      ok (.or d a b) (x ||| y) ∧
      ok (.xor d a b) (x ^^^ y) ∧
      ok (.andn d a b) (x &&& ~~~y) ∧
      ok (.orn d a b) (x ||| ~~~y) ∧
      ok (.shl d a b) (x <<< (y.toNat % 64)) ∧
      ok (.shr d a b) (x >>> (y.toNat % 64)) ∧
      ok (.sra d a b) (x.sshiftRight (y.toNat % 64)) ∧
      ok (.rotl d a b) ((x <<< (y.toNat % 64)) ||| (x >>> ((64 - y.toNat % 64) % 64))) ∧
      ok (.min d a b) (if x.toInt ≤ y.toInt then x else y) ∧
      ok (.max d a b) (if x.toInt ≤ y.toInt then y else x) ∧
      ok (.minu d a b) (if x.toNat ≤ y.toNat then x else y) ∧
      ok (.maxu d a b) (if x.toNat ≤ y.toNat then y else x)) ∧
  (
    ∀ (s : State) (e : Ext), sound s [e.a.toNat, e.b.toNat] [e.d.toNat] [] [] → allFull s e.syn →
      let x := s.g e.a.toNat; let y := s.g e.b.toNat
      let ok : Instr → Word → Prop := fun i v => givesG i s e.syn e.d.toNat v e.words
      ok (.addX e) (x + y) ∧
      ok (.subX e) (x - y) ∧
      ok (.mulX e) (x * y) ∧
      ok (.mulhX e) (((x.signExtend 128 * y.signExtend 128) >>> 64).setWidth 64) ∧
      ok (.mulhuX e) (((x.zeroExtend 128 * y.zeroExtend 128) >>> 64).setWidth 64) ∧
      ok (.andX e) (x &&& y) ∧
      ok (.orX e) (x ||| y) ∧
      ok (.xorX e) (x ^^^ y) ∧
      ok (.andnX e) (x &&& ~~~y) ∧
      ok (.ornX e) (x ||| ~~~y) ∧
      ok (.shlX e) (x <<< (y.toNat % 64)) ∧
      ok (.shrX e) (x >>> (y.toNat % 64)) ∧
      ok (.sraX e) (x.sshiftRight (y.toNat % 64)) ∧
      ok (.rotlX e) ((x <<< (y.toNat % 64)) ||| (x >>> ((64 - y.toNat % 64) % 64))) ∧
      ok (.minX e) (if x.toInt ≤ y.toInt then x else y) ∧
      ok (.maxX e) (if x.toInt ≤ y.toInt then y else x) ∧
      ok (.minuX e) (if x.toNat ≤ y.toNat then x else y) ∧
      ok (.maxuX e) (if x.toNat ≤ y.toNat then y else x))

/-- R91: the word operations compute on 32 bits and sign-extend, in both of their forms.

R94: the immediate operations of Table 12 in every length, the shift immediates from 0 to 63.

R95: `li` loads its immediate and `lpc` PC plus four times it; PC is the address of word 0. -/
def Obligations.WordAndImmediateOperations : Prop :=
  (
    (∀ (s : State) (d a b : BitVec 7), sound s [a.toNat, b.toNat] [d.toNat] [] [] →
      let x := s.g a.toNat; let y := s.g b.toNat
      let ok : Instr → Word → Prop := fun i v => givesG i s [] d.toNat v 1
      ok (.addw d a b) (((x + y).setWidth 32).signExtend 64) ∧
      ok (.subw d a b) (((x - y).setWidth 32).signExtend 64) ∧
      ok (.mulw d a b) (((x * y).setWidth 32).signExtend 64) ∧
      ok (.shlw d a b) ((x.setWidth 32 <<< (y.toNat % 32)).signExtend 64) ∧
      ok (.shrw d a b) ((x.setWidth 32 >>> (y.toNat % 32)).signExtend 64) ∧
      ok (.sraw d a b) (((x.setWidth 32).sshiftRight (y.toNat % 32)).signExtend 64)) ∧
    (∀ (s : State) (e : Ext), sound s [e.a.toNat, e.b.toNat] [e.d.toNat] [] [] → allFull s e.syn →
      let x := s.g e.a.toNat; let y := s.g e.b.toNat
      let ok : Instr → Word → Prop := fun i v => givesG i s e.syn e.d.toNat v e.words
      ok (.addwX e) (((x + y).setWidth 32).signExtend 64) ∧
      ok (.subwX e) (((x - y).setWidth 32).signExtend 64) ∧
      ok (.mulwX e) (((x * y).setWidth 32).signExtend 64) ∧
      ok (.shlwX e) ((x.setWidth 32 <<< (y.toNat % 32)).signExtend 64) ∧
      ok (.shrwX e) ((x.setWidth 32 >>> (y.toNat % 32)).signExtend 64) ∧
      ok (.srawX e) (((x.setWidth 32).sshiftRight (y.toNat % 32)).signExtend 64))) ∧
  (
    (∀ (s : State) (d a i : BitVec 7), sound s [a.toNat] [d.toNat] [] [] →
      let x := s.g a.toNat; let m : Word := i.signExtend 64; let k := i.toNat
      let ok : Instr → Word → Prop := fun j v => givesG j s [] d.toNat v 1
      ok (.addi d a i) (x + m) ∧ ok (.andi d a i) (x &&& m) ∧ ok (.ori d a i) (x ||| m) ∧ ok (.xori d a i) (x ^^^ m) ∧ ok (.muli d a i) (x * m) ∧
      (k < 64 →
        ok (.shli d a i) (x <<< k) ∧ ok (.shri d a i) (x >>> k) ∧ ok (.srai d a i) (x.sshiftRight k) ∧ ok (.rotli d a i) ((x <<< k) ||| (x >>> ((64 - k) % 64))))) ∧
    (∀ (s : State) (e : Ext), sound s [e.a.toNat] [e.d.toNat] [] [] → allFull s e.syn →
      let x := s.g e.a.toNat; let m := e.imm.value; let k := m.toNat
      let ok : Instr → Word → Prop := fun j v => givesG j s e.syn e.d.toNat v e.words
      ok (.addiX e) (x + m) ∧ ok (.andiX e) (x &&& m) ∧ ok (.oriX e) (x ||| m) ∧ ok (.xoriX e) (x ^^^ m) ∧ ok (.muliX e) (x * m) ∧
      (k < 64 →
        ok (.shliX e) (x <<< k) ∧ ok (.shriX e) (x >>> k) ∧ ok (.sraiX e) (x.sshiftRight k) ∧ ok (.rotliX e) ((x <<< k) ||| (x >>> ((64 - k) % 64)))))) ∧
  (
    (∀ (s : State) (d : BitVec 7) (i : BitVec 14), sound s [] [d.toNat] [] [] →
      givesG (.li d i) s [] d.toNat (i.signExtend 64) 1 ∧ givesG (.lpc d i) s [] d.toNat (s.task.pc + 4 * i.signExtend 64) 1) ∧
    (∀ (s : State) (e : Ext), sound s [] [e.d.toNat] [] [] →
      givesG (.liX e) s [] e.d.toNat e.imm.value e.words ∧
      givesG (.lpcX e) s [] e.d.toNat (s.task.pc + 4 * e.imm.value) e.words))

/-- R90, Table 8: a division parks its context with PARKWHY 2 and the value of Table 8 to come, and the divide unit's event
writes that value into D and makes the context READY. -/
def Obligations.Division : Prop :=
  (∀ (s : State) (d a b : BitVec 7), sound s [a.toNat, b.toNat] [d.toNat] [] [] → s.me.state ≠ .stopped →
    let x := s.g a.toNat; let y := s.g b.toNat
    let parks : Instr → Word → Prop := fun i v =>
      parksFor i s [] 2 (.divide d.toNat v 1) [.divideDone (coreId s.curCore) (ctxId s.curCtx)]
    parks (.div d a b) (if y = 0 then BitVec.allOnes 64 else BitVec.ofInt 64 (x.toInt.tdiv y.toInt)) ∧
    parks (.divu d a b) (if y = 0 then BitVec.allOnes 64 else BitVec.ofNat 64 (x.toNat / y.toNat)) ∧
    parks (.rem d a b) (if y = 0 then x else BitVec.ofInt 64 (x.toInt.tmod y.toInt)) ∧
    parks (.remu d a b) (if y = 0 then x else BitVec.ofNat 64 (x.toNat % y.toNat))) ∧
  (∀ (s : State) (e : Ext), sound s [e.a.toNat, e.b.toNat] [e.d.toNat] [] [] → allFull s e.syn → s.me.state ≠ .stopped →
    let x := s.g e.a.toNat; let y := s.g e.b.toNat
    let parks : Instr → Word → Prop := fun i v =>
      parksFor i s e.syn 2 (.divide e.d.toNat v e.words) [.divideDone (coreId s.curCore) (ctxId s.curCtx)]
    parks (.divX e) (if y = 0 then BitVec.allOnes 64 else BitVec.ofInt 64 (x.toInt.tdiv y.toInt)) ∧
    parks (.divuX e) (if y = 0 then BitVec.allOnes 64 else BitVec.ofNat 64 (x.toNat / y.toNat)) ∧
    parks (.remX e) (if y = 0 then x else BitVec.ofInt 64 (x.toInt.tmod y.toInt)) ∧
    parks (.remuX e) (if y = 0 then x else BitVec.ofNat 64 (x.toNat % y.toNat))) ∧
  (∀ (s : State) (core : CoreId) (ctx : CtxId) (d n : Nat) (v : Word), d < 256 →
    let k := ctxKey core.toNat ctx.toNat
    (s.ctxAt k).state = .parked → (s.ctxAt k).wait = .divide d v n →
    ∃ t, exec (.divideDone core ctx) s = .next t ∧ onlyCtx s t k ∧ repliedG (s.ctxAt k) (t.ctxAt k) d v n)

/-- R93: the one-operand operations of Table 11, in both forms.

R92: the bit-field and set-on-compare operations of Table 10, in both forms; `bins` also reads D. -/
def Obligations.OneOperandAndBitFields : Prop :=
  (
    (∀ (s : State) (d a : BitVec 7), sound s [a.toNat] [d.toNat] [] [] →
      let x := s.g a.toNat
      let ok : Instr → Word → Prop := fun i v => givesG i s [] d.toNat v 1
      ok (.not d a) (~~~x) ∧ ok (.neg d a) (0 - x) ∧
      ok (.sextb d a) ((x.setWidth 8).signExtend 64) ∧ ok (.sexth d a) ((x.setWidth 16).signExtend 64) ∧
      ok (.sextw d a) ((x.setWidth 32).signExtend 64) ∧ ok (.zextb d a) ((x.setWidth 8).zeroExtend 64) ∧
      ok (.zexth d a) ((x.setWidth 16).zeroExtend 64) ∧ ok (.zextw d a) ((x.setWidth 32).zeroExtend 64) ∧
      (∃ v, ok (.clz d a) v ∧ if x = 0 then v = 64 else v.toNat < 64 ∧ x.getLsbD (63 - v.toNat) ∧ ∀ j, 63 - v.toNat < j → ¬ x.getLsbD j) ∧
      (∃ v, ok (.ctz d a) v ∧ if x = 0 then v = 64 else x.getLsbD v.toNat ∧ ∀ j, j < v.toNat → ¬ x.getLsbD j) ∧
      (∃ v, ok (.popc d a) v ∧ v.toNat = ((List.range 64).filter fun j => x.getLsbD j).length) ∧
      (∃ v, ok (.bswap d a) v ∧ ∀ k, k < 8 → v.extractLsb' (8 * k) 8 = x.extractLsb' (8 * (7 - k)) 8)) ∧
    (∀ (s : State) (e : Ext), sound s [e.a.toNat] [e.d.toNat] [] [] → allFull s e.syn →
      let x := s.g e.a.toNat
      let ok : Instr → Word → Prop := fun i v => givesG i s e.syn e.d.toNat v e.words
      ok (.notX e) (~~~x) ∧ ok (.negX e) (0 - x) ∧
      ok (.sextbX e) ((x.setWidth 8).signExtend 64) ∧ ok (.sexthX e) ((x.setWidth 16).signExtend 64) ∧
      ok (.sextwX e) ((x.setWidth 32).signExtend 64) ∧ ok (.zextbX e) ((x.setWidth 8).zeroExtend 64) ∧
      ok (.zexthX e) ((x.setWidth 16).zeroExtend 64) ∧ ok (.zextwX e) ((x.setWidth 32).zeroExtend 64) ∧
      (∃ v, ok (.clzX e) v ∧ if x = 0 then v = 64 else v.toNat < 64 ∧ x.getLsbD (63 - v.toNat) ∧ ∀ j, 63 - v.toNat < j → ¬ x.getLsbD j) ∧
      (∃ v, ok (.ctzX e) v ∧ if x = 0 then v = 64 else x.getLsbD v.toNat ∧ ∀ j, j < v.toNat → ¬ x.getLsbD j) ∧
      (∃ v, ok (.popcX e) v ∧ v.toNat = ((List.range 64).filter fun j => x.getLsbD j).length) ∧
      (∃ v, ok (.bswapX e) v ∧ ∀ k, k < 8 → v.extractLsb' (8 * k) 8 = x.extractLsb' (8 * (7 - k)) 8))) ∧
  (
    (∀ (s : State) (d a b : BitVec 7), sound s [a.toNat, b.toNat] [d.toNat] [] [] →
      let x := s.g a.toNat; let y := s.g b.toNat
      let ok : Instr → Word → Prop := fun i v => givesG i s [] d.toNat v 1
      ok (.bext d a b) ((x >>> (y.toNat % 64)) &&& BitVec.ofNat 64 (2 ^ (y.toNat / 64 % 64 + 1) - 1)) ∧
      ok (.bset d a b) (x ||| ((1 : Word) <<< (y.toNat % 64))) ∧
      ok (.bclr d a b) (x &&& ~~~((1 : Word) <<< (y.toNat % 64))) ∧
      ok (.seq d a b) (if x = y then 1 else 0) ∧
      ok (.sne d a b) (if x = y then 0 else 1) ∧
      ok (.slt d a b) (if x.toInt < y.toInt then 1 else 0) ∧
      ok (.sltu d a b) (if x.toNat < y.toNat then 1 else 0) ∧
      ok (.sle d a b) (if x.toInt ≤ y.toInt then 1 else 0) ∧
      ok (.sleu d a b) (if x.toNat ≤ y.toNat then 1 else 0)) ∧
    (∀ (s : State) (e : Ext), sound s [e.a.toNat, e.b.toNat] [e.d.toNat] [] [] → allFull s e.syn →
      let x := s.g e.a.toNat; let y := s.g e.b.toNat
      let ok : Instr → Word → Prop := fun i v => givesG i s e.syn e.d.toNat v e.words
      ok (.bextX e) ((x >>> (y.toNat % 64)) &&& BitVec.ofNat 64 (2 ^ (y.toNat / 64 % 64 + 1) - 1)) ∧
      ok (.bsetX e) (x ||| ((1 : Word) <<< (y.toNat % 64))) ∧
      ok (.bclrX e) (x &&& ~~~((1 : Word) <<< (y.toNat % 64))) ∧
      ok (.seqX e) (if x = y then 1 else 0) ∧
      ok (.sneX e) (if x = y then 0 else 1) ∧
      ok (.sltX e) (if x.toInt < y.toInt then 1 else 0) ∧
      ok (.sltuX e) (if x.toNat < y.toNat then 1 else 0) ∧
      ok (.sleX e) (if x.toInt ≤ y.toInt then 1 else 0) ∧
      ok (.sleuX e) (if x.toNat ≤ y.toNat then 1 else 0)) ∧
    (∀ (s : State) (d a b : BitVec 7), sound s [d.toNat, a.toNat, b.toNat] [] [] [] →
      let y := s.g b.toNat; let m : Word := BitVec.ofNat 64 (2 ^ (y.toNat / 64 % 64 + 1) - 1)
      givesG (.bins d a b) s [] d.toNat
        ((s.g d.toNat &&& ~~~(m <<< (y.toNat % 64))) ||| ((s.g a.toNat &&& m) <<< (y.toNat % 64))) 1) ∧
    (∀ (s : State) (e : Ext), sound s [e.d.toNat, e.a.toNat, e.b.toNat] [] [] [] → allFull s e.syn →
      let y := s.g e.b.toNat; let m : Word := BitVec.ofNat 64 (2 ^ (y.toNat / 64 % 64 + 1) - 1)
      givesG (.binsX e) s e.syn e.d.toNat
        ((s.g e.d.toNat &&& ~~~(m <<< (y.toNat % 64))) ||| ((s.g e.a.toNat &&& m) <<< (y.toNat % 64))) e.words))

/-- R86, R49: `skp` sets the annul count to K when its condition holds on A and B, on A and the immediate, or on A's full bit,
and changes nothing else; both forms. -/
def Obligations.SkipOnCondition : Prop :=
  let holds : Nat → Word → Word → Bool → Bool := fun cc x y full =>
    [x == y, x != y, x.slt y, y.sle x, x.ult y, y.ule x, y.slt x, x.sle y, y.ult x, x.ule y, x.getLsbD (y.toNat % 64),
      !x.getLsbD (y.toNat % 64), x &&& y != 0, x &&& y == 0, full, !full].getD cc false
  let skips : Instr → State → List Nat → Bool → BitVec 2 → Nat → Prop := fun i s syn c k n =>
    ∃ t, exec i s = .next t ∧ onlyMine s t ∧ { t.me with task := s.task, syn := s.me.syn } = s.me ∧
      { t.task with pc := s.task.pc, annul := s.task.annul, full := s.task.full } = s.task ∧
      t.task.pc = s.task.pc + BitVec.ofNat 64 (4 * n) ∧ t.task.annul = (if c then k else s.task.annul) ∧
      ∀ r, r < 256 → (t.task.isFull r = true ↔ r = 0 ∨ (s.task.isFull r = true ∧ r ∉ syn))
  (∀ (s : State) (a b : BitVec 7) (cc : BitVec 4) (k : BitVec 2) (ib : Bool),
    sound s ((if cc.toNat < 14 then [a.toNat] else []) ++ if ib then [] else [b.toNat]) (if cc.toNat < 14 then [] else [a.toNat]) [] [] →
    skips (.skp a b cc k ib) s []
      (holds cc.toNat (s.g a.toNat) (if ib then b.signExtend 64 else s.g b.toNat) (s.task.isFull a.toNat)) k 1) ∧
  (∀ (s : State) (e : Ext) (cc : BitVec 4) (k : BitVec 2) (ib : Bool) (i : BitVec 24),
    sound s ((if cc.toNat < 14 then [e.a.toNat] else []) ++ if ib then [] else [e.b.toNat])
      (if cc.toNat < 14 then [] else [e.a.toNat]) [] [] → allFull s e.syn → (e.syn = [] ∨ cc.toNat < 14) →
    skips (.skpX e cc k ib i) s e.syn
      (holds cc.toNat (s.g e.a.toNat) (if ib then i.signExtend 64 else s.g e.b.toNat) (s.task.isFull e.a.toNat)) k e.words)

/-- R85: `fset` sets and `fclr` clears the full bit of D and changes nothing else; g0 stays full. -/
def Obligations.FullBits : Prop :=
  let sets : Instr → State → Nat → Bool → Nat → Prop := fun i s d v n =>
    ∃ t, exec i s = .next t ∧ onlyMine s t ∧ { t.me with task := s.task } = s.me ∧
      { t.task with pc := s.task.pc, full := s.task.full } = s.task ∧ t.task.pc = s.task.pc + BitVec.ofNat 64 (4 * n) ∧
      t.task.isFull d = (decide (d = 0) || v) ∧ ∀ r, r < 256 → r ≠ d → t.task.isFull r = s.task.isFull r
  (∀ (s : State) (d : BitVec 7), sound s [] [d.toNat] [] [] →
    sets (.fset d) s d.toNat true 1 ∧ sets (.fclr d) s d.toNat false 1) ∧
  (∀ (s : State) (e : Ext), sound s [] [e.d.toNat] [] [] →
    sets (.fsetX e) s e.d.toNat true e.words ∧ sets (.fclrX e) s e.d.toNat false e.words)

/-- R96 to R99: `br`, `call`, `jmp`, `callr`, `ret` and `dbnz`, in every form, link and go to the target that the rules compute;
a target of 0 ends the task as `exit` does, and `dbnz` falls through when its count reaches 0. That in a timed event such a target traps and
neither links nor empties a register is the model's choice (log entry 32).

R383 to R385: `trap n` takes the trap of CLASS 17 with EINFO n; `eret` goes back to EPC in the mode that ECAUSE saved, ending
the task for a target of 0, and traps in user mode. That `eret` to 0 in a timed event takes CLASS 12, cause 9, is the model's choice (log
entry 32). -/
def Obligations.ControlTransfers : Prop :=
  (
    let goesOff : Instr → State → List Nat → Word → Prop := fun i s syn pc =>
      (pc ≠ 0 → goesTo i s syn pc) ∧ (pc = 0 → exec i s = exec .exit (if s.task.inEvent then s else s.empty syn))
    let links : Instr → State → List Nat → Nat → Word → Word → Prop := fun i s syn d v pc =>
      (pc ≠ 0 → linksTo i s syn d v pc) ∧ (pc = 0 → exec i s = exec .exit (if s.task.inEvent then s else (s.empty syn).setG d v))
    (∀ (s : State) (i : BitVec 21), goesOff (.br i) s [] (s.task.pc + 4 * i.signExtend 64)) ∧
    (∀ (s : State) (i : BitVec 21), sound s [] [1] [] [] → links (.call i) s [] 1 (s.task.pc + 4) (s.task.pc + 4 * i.signExtend 64)) ∧
    (∀ (s : State) (a i : BitVec 7), sound s [a.toNat] [] [] [] →
      goesOff (.jmp a i) s [] ((s.g a.toNat + 4 * i.signExtend 64) &&& ~~~3#64)) ∧
    (∀ (s : State) (e : Ext), sound s [e.a.toNat] [] [] [] → allFull s e.syn →
      goesOff (.jmpX e) s e.syn ((s.g e.a.toNat + 4 * e.imm.value) &&& ~~~3#64)) ∧
    (∀ (s : State) (d a i : BitVec 7), sound s [a.toNat] [d.toNat] [] [] →
      links (.callr d a i) s [] d.toNat (s.task.pc + 4) ((s.g a.toNat + 4 * i.signExtend 64) &&& ~~~3#64)) ∧
    (∀ (s : State) (e : Ext), sound s [e.a.toNat] [e.d.toNat] [] [] → allFull s e.syn →
      links (.callrX e) s e.syn e.d.toNat (s.task.pc + BitVec.ofNat 64 (4 * e.words)) ((s.g e.a.toNat + 4 * e.imm.value) &&& ~~~3#64)) ∧
    (∀ s : State, sound s [1] [] [] [] → goesOff .ret s [] (s.g 1 &&& ~~~3#64)) ∧
    (∀ (s : State) (d : BitVec 7) (i : BitVec 14), sound s [d.toNat] [] [] [] →
      let v := s.g d.toNat - 1
      if v = 0 then linksTo (.dbnz d i) s [] d.toNat v (s.task.pc + 4)
      else links (.dbnz d i) s [] d.toNat v (s.task.pc + 4 * i.signExtend 64)) ∧
    (∀ (s : State) (e : Ext), sound s [e.d.toNat] [] [] [] →
      let v := s.g e.d.toNat - 1
      if v = 0 then linksTo (.dbnzX e) s [] e.d.toNat v (s.task.pc + BitVec.ofNat 64 (4 * e.words))
      else links (.dbnzX e) s [] e.d.toNat v (s.task.pc + 4 * e.imm.value))) ∧
  (
    (∀ (s : State) (i : BitVec 14), traps (.trap i) s 17 0 0 (i.zeroExtend 64)) ∧
    (∀ s : State, s.task.mode = false → traps .eret s 2 0 0 (s.ir.zeroExtend 64)) ∧
    (∀ s : State, s.task.mode = true → s.task.epc &&& ~~~3#64 ≠ 0 →
      ∃ t, exec .eret s = .next t ∧ onlyMine s t ∧ { t.me with task := s.task } = s.me ∧
        { t.task with pc := s.task.pc, mode := s.task.mode } = s.task ∧
        t.task.pc = s.task.epc &&& ~~~3#64 ∧ t.task.mode = s.task.ecause.getLsbD 16) ∧
    (∀ s : State, s.task.mode = true → s.task.inEvent = true → s.task.epc &&& ~~~3#64 = 0 → traps .eret s 12 9 0 0) ∧
    (∀ s : State, s.task.mode = true → s.task.inEvent = false → s.task.epc &&& ~~~3#64 = 0 →
      exec .eret s = exec .exit (s.setTask { s.task with mode := s.task.ecause.getLsbD 16 })))

/-- R101, R63, R64: `mfs` reads each special register of Table 22, and in user mode a privileged one traps with CLASS 2; both
forms.

R101, R63, R64: `mts` writes each writable special register of Table 22 but WAYMASK, its reserved bits ignored, and nothing
else; the privileged EPC in privileged mode alone. All three forms: a register, and a literal. -/
def Obligations.SpecialRegisters : Prop :=
  (
    let table : State → List (Nat × Word) := fun s =>
      let t := s.task; let c := s.coreAt s.curCore; let live := BitVec.ofNat 256 (2 ^ s.part.gCount - 1)
      [(0x000, t.flags), (0x001, BitVec.ofNat 64 (s.dieAt (dieOf s.curCore)).cycle), (0x002, t.taskidx),
        (0x003, BitVec.ofNat 64 s.curCore), (0x004, t.procid.zeroExtend 64), (0x005, BitVec.ofNat 64 s.curCtx),
        (0x006, BitVec.ofNat 64 s.part.contexts), (0x007, t.skey), (0x008, t.vtime), (0x009, s.gvtOf t.procid.toNat),
        (0x010, (t.liveg &&& live).extractLsb' 0 64), (0x011, (t.liveg &&& live).extractLsb' 64 64),
        (0x012, (t.liveg &&& live).extractLsb' 128 64), (0x013, (t.liveg &&& live).extractLsb' 192 64),
        (0x014, t.livev &&& BitVec.ofNat 64 (2 ^ s.part.vCount - 1)),
        (0x020, BitVec.ofNat 64 (c.wayCur + 16 * c.wayReq + if c.wayPending then 256 else 0)),
        (0x030, t.epc), (0x031, t.ecause), (0x032, t.einfo)]
    (∀ (s : State) (d : BitVec 7) (num : BitVec 14) (v : Word), (num.toNat, v) ∈ table s → sound s [] [d.toNat] [] [] →
      if num.toNat < 0x020 ∨ s.task.mode = true then givesG (.mfs d num) s [] d.toNat v 1
      else traps (.mfs d num) s 2 0 0 (s.ir.zeroExtend 64)) ∧
    (∀ (s : State) (e : Ext) (v : Word), (e.imm.value.toNat, v) ∈ table s → sound s [] [e.d.toNat] [] [] →
      if e.imm.value.toNat < 0x020 ∨ s.task.mode = true then givesG (.mfsX e) s [] e.d.toNat v e.words
      else traps (.mfsX e) s 2 0 0 (s.ir.zeroExtend 64))) ∧
  (
    let writes : Instr → State → Nat → Word → Nat → Prop := fun i s num v n =>
      ∃ t, exec i s = .next t ∧ onlyMine s t ∧ { t.me with task := s.task } = s.me ∧
        t.task.pc = s.task.pc + BitVec.ofNat 64 (4 * n) ∧
        { t.task with pc := s.task.pc, flags := s.task.flags, skey := s.task.skey, liveg := s.task.liveg, livev := s.task.livev, epc := s.task.epc } = s.task ∧
        t.task.flags = (if num = 0x000 then v &&& 31 else s.task.flags) ∧
        t.task.skey = (if num = 0x007 then v else s.task.skey) ∧
        (∀ k, k < 4 → t.task.liveg.extractLsb' (64 * k) 64 =
          if num = 0x010 + k then v &&& (BitVec.ofNat 256 (2 ^ s.part.gCount - 1)).extractLsb' (64 * k) 64
          else s.task.liveg.extractLsb' (64 * k) 64) ∧
        t.task.livev = (if num = 0x014 then v &&& BitVec.ofNat 64 (2 ^ s.part.vCount - 1) else s.task.livev) ∧
        t.task.epc = (if num = 0x030 then v &&& ~~~3#64 else s.task.epc)
    let which : Nat → List Nat → Prop := fun num l => num ∈ l
    (∀ (s : State) (d : BitVec 7) (num : BitVec 14), which num.toNat [0x000, 0x007, 0x010, 0x011, 0x012, 0x013, 0x014, 0x030] →
      sound s [d.toNat] [] [] [] →
      if num.toNat < 0x020 ∨ s.task.mode = true then writes (.mts d num) s num.toNat (s.g d.toNat) 1
      else traps (.mts d num) s 2 0 0 (s.ir.zeroExtend 64)) ∧
    (∀ (s : State) (num : BitVec 14) (v : Word), which num.toNat [0x000, 0x007, 0x010, 0x011, 0x012, 0x013, 0x014, 0x030] →
      if num.toNat < 0x020 ∨ s.task.mode = true then writes (.mtsX (.lit num v)) s num.toNat v 3
      else traps (.mtsX (.lit num v)) s 2 0 0 (s.ir.zeroExtend 64)) ∧
    (∀ (s : State) (d : BitVec 8) (num : BitVec 32), which num.toNat [0x000, 0x007, 0x010, 0x011, 0x012, 0x013, 0x014, 0x030] →
      sound s [d.toNat] [] [] [] →
      if num.toNat < 0x020 ∨ s.task.mode = true then writes (.mtsX (.ext d num)) s num.toNat (s.g d.toNat) 3
      else traps (.mtsX (.ext d num)) s 2 0 0 (s.ir.zeroExtend 64)))

/-- R384, R385, R393, R395: `halt`, and `brk` where DEBUG names the process, move PC on and stop the issuer's domain: its bit
is set, every context of every core of the domain is STOPPED, and every such core holds a halt record with the cause and the
origin; no register of the issuer and no byte of memory differs. Outside debugging `brk` traps with CLASS 18.

R355, R356: outside a timed event, `exit` of a task whose accesses, send queue and loom commands have drained ends it: its
context is FREE, and where the task has no logical process, whose end writes its areas, no byte of memory and no other context's state, PC,
mode, FLAGS or registers change; before that it parks with PARKWHY 1. In a timed event it traps (R311). `yield` completes and changes nothing
but PC when no other work waits for its context. -/
def Obligations.GangStopsExitAndYield : Prop :=
  (
    let stops : Instr → State → Nat → Prop := fun i s cause =>
      let dom := s.domainOf s.curCore
      ∃ t, exec i s = .next t ∧ t.pkg.halted = s.pkg.halted ||| (1#8 <<< dom) ∧
        (∀ core ctx, core < 256 → s.domainOf core = dom → ctx < (s.coreAt core).part.contexts →
          (t.ctxAt (ctxKey core ctx)).state = .stopped) ∧
        (∀ core, core < 256 → s.domainOf core = dom → ∃ h, (t.coreAt core).halt = some h ∧ h.cause = cause ∧ h.origin = s.curCore) ∧
        (∀ core ctx, core < 256 → s.domainOf core ≠ dom → ctx < 16 →
          let x := s.ctxAt (ctxKey core ctx); let y := t.ctxAt (ctxKey core ctx)
          y.state = x.state ∧ y.task.pc = x.task.pc ∧ y.task.g = x.task.g ∧ y.task.v = x.task.v) ∧
        t.task.pc = s.task.pc + 4 ∧ sameRegs s t ∧ t.mem = s.mem
    let calm : State → Prop := fun s => s.pkg.halted.getLsbD (s.domainOf s.curCore) = false ∧ s.me.wait = .none ∧
      ∀ c, ∀ x ∈ (s.coreAt c).vlongs, x < 16
    (∀ s : State, s.task.mode = true → calm s → stops .halt s 2) ∧
    (∀ s : State, s.task.mode = false → traps .halt s 2 0 0 (s.ir.zeroExtend 64)) ∧
    (∀ s : State, calm s →
      let dbg := (s.dieAt (dieOf s.curCore)).dbg
      if dbg.getLsbD 0 ∧ dbg.extractLsb' 1 10 = s.task.procid then stops .brk s 3 else traps .brk s 18 0 0 0)) ∧
  (
    (∀ s : State, s.task.inEvent = true → traps .exit s 12 9 0 0) ∧
    (∀ s : State, s.task.inEvent = false → s.mayEnd = true →
      ∃ t, exec .exit s = .next t ∧ (t.ctxAt s.cur).state = .free ∧
        (s.boundLp = none → t.mem = s.mem ∧ ∀ k, k ≠ s.cur →
          let x := s.ctxAt k; let y := t.ctxAt k
          y.state = x.state ∧ y.wait = x.wait ∧ (y.task.pc, y.task.mode, y.task.flags) = (x.task.pc, x.task.mode, x.task.flags) ∧
            y.task.g = x.task.g ∧ y.task.v = x.task.v)) ∧
    (∀ s : State, s.task.inEvent = false → s.mayEnd = false → s.me.state ≠ .stopped → parksFor .exit s [] 1 .exit []) ∧
    (∀ s : State, (∃ i, i < s.part.contexts ∧ (s.ctxAt (ctxKey s.curCore i)).state = .free) → goesTo .yield s [] (s.task.pc + 4)))

/-- R125: `wmask n` in privileged mode: the same number of ways completes at once; fewer are requested and shrink later; more
park the context with PARKWHY 1 until the scratchpad has grown. In user mode it traps. A write of
WAYMASK by `mts` acts the same on REQ, and ignores a value that is none of 2, 4, 6 and 8.

R403: `ctrrd` reads an event counter of the core, 0 for a number above 15; `ctrcfg` sets a counter's event and enable and
clears its value on bit 9, for a number to 15 and an event to 11, and is a privileged instruction; both forms of both. -/
def Obligations.WayMaskAndEventCounters : Prop :=
  (
    (∀ (s : State) (i : BitVec 14), s.task.mode = false → traps (.wmask i) s 2 0 0 (s.ir.zeroExtend 64)) ∧
    (∀ (s : State) (i : BitVec 14), s.task.mode = true → s.task.inEvent = true → traps (.wmask i) s 12 9 0 0) ∧
    (∀ (s : State) (i : BitVec 14), s.task.mode = true → s.task.inEvent = false → s.me.state ≠ .stopped →
      let c := s.coreAt s.curCore
      ∃ t, exec (.wmask i) s = .next t ∧ t.mem = s.mem ∧ sameRegs s t ∧ (t.coreAt s.curCore).wayCur = c.wayCur ∧
        (t.coreAt s.curCore).wayReq = i.toNat ∧
        if c.wayCur < i.toNat then t.task.pc = s.task.pc ∧ t.me.state = .parked ∧ t.me.parkwhy = 1
        else t.task.pc = s.task.pc + 4 ∧ (t.coreAt s.curCore).wayPending = decide (i.toNat < c.wayCur)) ∧
    (∀ (s : State) (d : BitVec 7), s.task.mode = true → s.task.inEvent = false → sound s [d.toNat] [] [] [] →
      let n := (s.g d.toNat).extractLsb' 4 4
      if n = 2 ∨ n = 4 ∨ n = 6 ∨ n = 8 then exec (.mts d 0x020) s = exec (.wmask (n.zeroExtend 14)) s
      else goesTo (.mts d 0x020) s [] (s.task.pc + 4))) ∧
  (
    let value : State → Word → Word := fun s k => if 15 < k.toNat then 0 else ((s.coreAt s.curCore).evs.get k.toNat {}).value
    let configures : Instr → State → Nat → Word → Word → Prop := fun i s n k v =>
      ∃ t, exec i s = .next t ∧ t.task.pc = s.task.pc + BitVec.ofNat 64 (4 * n) ∧ sameRegs s t ∧ t.mem = s.mem ∧
        { t.coreAt s.curCore with evs := (s.coreAt s.curCore).evs } = s.coreAt s.curCore ∧
        (∀ j, (t.coreAt s.curCore).evs.get j {} =
          if j = k.toNat ∧ k.toNat ≤ 15 ∧ v.toNat % 256 ≤ 11 then
            { value := if v.getLsbD 9 then 0 else ((s.coreAt s.curCore).evs.get j {}).value, event := v.toNat % 256, enable := v.getLsbD 8 }
          else (s.coreAt s.curCore).evs.get j {})
    (∀ (s : State) (d a : BitVec 7), sound s [a.toNat] [d.toNat] [] [] →
      givesG (.ctrrd d a) s [] d.toNat (value s (s.g a.toNat)) 1) ∧
    (∀ (s : State) (e : Ext), sound s [e.a.toNat] [e.d.toNat] [] [] → allFull s e.syn →
      givesG (.ctrrdX e) s e.syn e.d.toNat (value s (s.g e.a.toNat)) e.words) ∧
    (∀ (s : State) (a b : BitVec 7), sound s [a.toNat, b.toNat] [] [] [] →
      if s.task.mode then configures (.ctrcfg a b) s 1 (s.g a.toNat) (s.g b.toNat)
      else traps (.ctrcfg a b) s 2 0 0 (s.ir.zeroExtend 64)) ∧
    (∀ (s : State) (e : Ext), sound s [e.a.toNat, e.b.toNat] [] [] [] → allFull s e.syn →
      if s.task.mode then configures (.ctrcfgX e) s e.words (s.g e.a.toNat) (s.g e.b.toNat)
      else traps (.ctrcfgX e) s 2 0 0 (s.ir.zeroExtend 64)))

/-- R105, R107, R111, R22: a load from the own scratchpad completes at once, D holding the bytes at the effective address,
extended as the mnemonic says; both forms of the seven loads, and `ldp` into D and D + 1. In the base form nothing else differs but the time
that the core remembers; an acquire may move clocks and cached copies. -/
def Obligations.LoadsOwnScratchpad : Prop :=
  (∀ (s : State) (d a : BitVec 7) (sp : BitVec 2) (i : BitVec 5), sound s [a.toNat] [d.toNat] [] [] →
    let loads : Instr → Nat → (Nat → Word) → Prop := fun j n f =>
      ∀ off, ownAt s (s.task.space sp.toNat) (s.g a.toNat + i.signExtend 64 * BitVec.ofNat 64 n) n off →
        readsG j s [] d.toNat (f (s.ownBytesAt off n)) 1
    loads (.ldb d a sp i) 1 (fun v => (BitVec.ofNat 8 v).signExtend 64) ∧
    loads (.ldbu d a sp i) 1 (fun v => BitVec.ofNat 64 v) ∧
    loads (.ldh d a sp i) 2 (fun v => (BitVec.ofNat 16 v).signExtend 64) ∧
    loads (.ldhu d a sp i) 2 (fun v => BitVec.ofNat 64 v) ∧
    loads (.ldw d a sp i) 4 (fun v => (BitVec.ofNat 32 v).signExtend 64) ∧
    loads (.ldwu d a sp i) 4 (fun v => BitVec.ofNat 64 v) ∧
    loads (.ldd d a sp i) 8 (fun v => BitVec.ofNat 64 v)) ∧
  (∀ (s : State) (e : Ext), sound s [e.a.toNat, e.b.toNat] [e.d.toNat] [] [] → allFull s e.syn →
    let loads : Instr → Nat → (Nat → Word) → Prop := fun j n f =>
      ∀ off, ownAt s (s.task.space e.sp.toNat) (s.g e.a.toNat + s.g e.b.toNat + e.imm.value) n off →
        ∃ t, exec j s = .next t ∧ tookG s t e.d.toNat (f (s.ownBytesAt off n)) (s.task.pc + BitVec.ofNat 64 (4 * e.words))
    loads (.ldbX e) 1 (fun v => (BitVec.ofNat 8 v).signExtend 64) ∧
    loads (.ldbuX e) 1 (fun v => BitVec.ofNat 64 v) ∧
    loads (.ldhX e) 2 (fun v => (BitVec.ofNat 16 v).signExtend 64) ∧
    loads (.ldhuX e) 2 (fun v => BitVec.ofNat 64 v) ∧
    loads (.ldwX e) 4 (fun v => (BitVec.ofNat 32 v).signExtend 64) ∧
    loads (.ldwuX e) 4 (fun v => BitVec.ofNat 64 v) ∧
    loads (.lddX e) 8 (fun v => BitVec.ofNat 64 v)) ∧
  (∀ (s : State) (d a : BitVec 7) (sp : BitVec 2) (i : BitVec 5) (off : Nat),
    sound s [a.toNat] [d.toNat, d.toNat + 1] [] [] → d.toNat % 2 = 0 →
    ownAt s (s.task.space sp.toNat) (s.g a.toNat + i.signExtend 64 * 16) 16 off →
    ∃ t, exec (.ldp d a sp i) s = .next t ∧ t.task.pc = s.task.pc + 4 ∧ t.mem = s.mem ∧
      (d ≠ 0 → t.g d.toNat = BitVec.ofNat 64 (s.ownBytesAt off 8)) ∧ t.g (d.toNat + 1) = BitVec.ofNat 64 (s.ownBytesAt (off + 8) 8) ∧
      (∀ r, r ≠ d.toNat → r ≠ d.toNat + 1 → t.g r = s.g r) ∧ ∀ r, t.vreg r = s.vreg r) ∧
  (∀ (s : State) (e : Ext) (off : Nat),
    sound s [e.a.toNat, e.b.toNat] [e.d.toNat, e.d.toNat + 1] [] [] → allFull s e.syn → e.d.toNat % 2 = 0 →
    ownAt s (s.task.space e.sp.toNat) (s.g e.a.toNat + s.g e.b.toNat + e.imm.value) 16 off →
    ∃ t, exec (.ldpX e) s = .next t ∧ t.task.pc = s.task.pc + BitVec.ofNat 64 (4 * e.words) ∧ t.mem = s.mem ∧
      (e.d ≠ 0 → t.g e.d.toNat = BitVec.ofNat 64 (s.ownBytesAt off 8)) ∧ t.g (e.d.toNat + 1) = BitVec.ofNat 64 (s.ownBytesAt (off + 8) 8) ∧
      (∀ r, r ≠ e.d.toNat → r ≠ e.d.toNat + 1 → t.g r = s.g r) ∧ ∀ r, t.vreg r = s.vreg r)

/-- R105, R108, R112, R22: outside a timed event, a store to the own scratchpad completes at once: the low bytes of S stand at
the effective address, every other byte of memory and every register is as before; both forms of the four stores, and `stp` with
S and S + 1. A release waits until every earlier access of the context is performed. -/
def Obligations.StoresOwnScratchpad : Prop :=
  (∀ (s : State) (d a : BitVec 7) (sp : BitVec 2) (i : BitVec 5), sound s [d.toNat, a.toNat] [] [] [] → s.task.inEvent = false →
    let stores : Instr → Nat → Prop := fun j n =>
      ∀ off, ownAt s (s.task.space sp.toNat) (s.g a.toNat + i.signExtend 64 * BitVec.ofNat 64 n) n off →
        ∃ t, exec j s = .next t ∧ sameRegs s t ∧ t.task.pc = s.task.pc + 4 ∧
          storedAt s t (sramKey s.curCore off) n (s.g d.toNat).toNat
    stores (.stb d a sp i) 1 ∧ stores (.sth d a sp i) 2 ∧ stores (.stw d a sp i) 4 ∧ stores (.std d a sp i) 8) ∧
  (∀ (s : State) (e : Ext), sound s [e.c.toNat, e.a.toNat, e.b.toNat] [] [] [] → allFull s e.syn → s.task.inEvent = false →
    (e.ord.getLsbD 1 = true → s.drained = true) →
    let stores : Instr → Nat → Prop := fun j n =>
      ∀ off, ownAt s (s.task.space e.sp.toNat) (s.g e.a.toNat + s.g e.b.toNat + e.imm.value) n off →
        ∃ t, exec j s = .next t ∧ sameRegs s t ∧ t.task.pc = s.task.pc + BitVec.ofNat 64 (4 * e.words) ∧
          storedAt s t (sramKey s.curCore off) n (s.g e.c.toNat).toNat
    stores (.stbX e) 1 ∧ stores (.sthX e) 2 ∧ stores (.stwX e) 4 ∧ stores (.stdX e) 8) ∧
  (∀ (s : State) (d a : BitVec 7) (sp : BitVec 2) (i : BitVec 5) (off : Nat),
    sound s [d.toNat, d.toNat + 1, a.toNat] [] [] [] → s.task.inEvent = false →
    ownAt s (s.task.space sp.toNat) (s.g a.toNat + i.signExtend 64 * 16) 16 off →
    ∃ t, exec (.stp d a sp i) s = .next t ∧ sameRegs s t ∧ t.task.pc = s.task.pc + 4 ∧
      storedAt s t (sramKey s.curCore off) 16 ((s.g d.toNat).toNat + 2 ^ 64 * (s.g (d.toNat + 1)).toNat)) ∧
  (∀ (s : State) (e : Ext) (off : Nat), sound s [e.c.toNat, e.c.toNat + 1, e.a.toNat, e.b.toNat] [] [] [] → allFull s e.syn →
    s.task.inEvent = false → (e.ord.getLsbD 1 = true → s.drained = true) →
    ownAt s (s.task.space e.sp.toNat) (s.g e.a.toNat + s.g e.b.toNat + e.imm.value) 16 off →
    ∃ t, exec (.stpX e) s = .next t ∧ sameRegs s t ∧ t.task.pc = s.task.pc + BitVec.ofNat 64 (4 * e.words) ∧
      storedAt s t (sramKey s.curCore off) 16 ((s.g e.c.toNat).toNat + 2 ^ 64 * (s.g (e.c.toNat + 1)).toNat))

/-- R107, R110: a load from memory parks its context with PARKWHY 1 and a request, PC and every register as before, and LOAD_REPLY
writes the value that the request has, makes the context READY and moves PC on; a reply with a data error takes the trap of
CLASS 6 instead (R113). Both forms of the eight loads, `ldp` with a request of 16 bytes for a pair of registers.

R74, R108, R244, R246: outside a timed event, a store to memory that the store path has room for is accepted: it is the last of the
core's buffered stores, STORECNT counts it, memory and the registers are as before, and it completes in the cycle after, a release with its
acknowledgement; both forms of the four stores and of `stp`. SLICE_WRITE then performs a
buffered store at its home on the own die, changing exactly its bytes, and STORE_ACK lowers STORECNT. -/
def Obligations.LoadsAndStoresOfMemory : Prop :=
  (
    (∀ (s : State) (d a : BitVec 7) (sp : BitVec 2) (i : BitVec 5), sound s [a.toNat] [d.toNat] [] [] → s.me.state ≠ .stopped →
      let waits : Instr → Nat → Bool → Prop := fun j n signed =>
        ∀ pa, s.check .load (s.task.space sp.toNat) (s.g a.toNat + i.signExtend 64 * BitVec.ofNat 64 n) n n = .ok (.mem pa) →
          ∃ t q, exec j s = .next t ∧ sameRegs s t ∧ t.task.pc = s.task.pc ∧ t.mem = s.mem ∧ t.me.state = .parked ∧
            t.me.parkwhy = 1 ∧ t.me.wait = .req q ∧ q.sink = .reg d.toNat n signed ∧ q.words = 1 ∧ q.error = false
      waits (.ldb d a sp i) 1 true ∧ waits (.ldbu d a sp i) 1 false ∧ waits (.ldh d a sp i) 2 true ∧ waits (.ldhu d a sp i) 2 false ∧
      waits (.ldw d a sp i) 4 true ∧ waits (.ldwu d a sp i) 4 false ∧ waits (.ldd d a sp i) 8 false) ∧
    (let asks : Instr → State → BitVec 16 → Word → Nat → Sink → Nat → Prop := fun j s sel ea n k words =>
      ∀ pa, s.check .load sel ea n n = .ok (.mem pa) →
        ∃ t q, exec j s = .next t ∧ sameRegs s t ∧ t.task.pc = s.task.pc ∧ t.mem = s.mem ∧ t.me.state = .parked ∧
          t.me.parkwhy = 1 ∧ t.me.wait = .req q ∧ q.sink = k ∧ q.words = words ∧ q.error = false ∧ q.done = []
    (∀ (s : State) (e : Ext), sound s [e.a.toNat, e.b.toNat] [e.d.toNat] [] [] → allFull s e.syn → s.me.state ≠ .stopped →
      let sel := s.task.space e.sp.toNat
      let ea := s.g e.a.toNat + s.g e.b.toNat + e.imm.value
      let d := e.d.toNat
      asks (.ldbX e) s sel ea 1 (.reg d 1 true) e.words ∧ asks (.ldbuX e) s sel ea 1 (.reg d 1 false) e.words ∧
      asks (.ldhX e) s sel ea 2 (.reg d 2 true) e.words ∧ asks (.ldhuX e) s sel ea 2 (.reg d 2 false) e.words ∧
      asks (.ldwX e) s sel ea 4 (.reg d 4 true) e.words ∧ asks (.ldwuX e) s sel ea 4 (.reg d 4 false) e.words ∧
      asks (.lddX e) s sel ea 8 (.reg d 8 false) e.words) ∧
    (∀ (s : State) (d a : BitVec 7) (sp : BitVec 2) (i : BitVec 5), sound s [a.toNat] [d.toNat, d.toNat + 1] [] [] → s.me.state ≠ .stopped →
      asks (.ldp d a sp i) s (s.task.space sp.toNat) (s.g a.toNat + i.signExtend 64 * 16) 16 (.pair d.toNat) 1) ∧
    (∀ (s : State) (e : Ext), sound s [e.a.toNat, e.b.toNat] [e.d.toNat, e.d.toNat + 1] [] [] → allFull s e.syn → s.me.state ≠ .stopped →
      asks (.ldpX e) s (s.task.space e.sp.toNat) (s.g e.a.toNat + s.g e.b.toNat + e.imm.value) 16 (.pair e.d.toNat) e.words) ∧
    (∀ (s : State) (core : CoreId) (ctx : CtxId) (r : Req) (d : Nat),
      let k := ctxKey core.toNat ctx.toNat
      (s.ctxAt k).state = .parked → (s.ctxAt k).wait = .req r → r.error = false → r.todo = [] → r.atom = none → r.flags = 0 → 0 < d → d < 255 →
      r.sink = .pair d →
      ∃ t, exec (.loadReply core ctx) s = .next t ∧ t.mem = s.mem ∧ (t.ctxAt k).state = .ready ∧
        (t.ctxAt k).task.pc = (s.ctxAt k).task.pc + BitVec.ofNat 64 (4 * r.words) ∧
        (t.ctxAt k).task.gr d = BitVec.ofNat 64 (r.done.headD 0) ∧ (t.ctxAt k).task.gr (d + 1) = BitVec.ofNat 64 (r.done.headD 0 / 2 ^ 64) ∧
        ∀ q, q ≠ d → q ≠ d + 1 → (t.ctxAt k).task.gr q = (s.ctxAt k).task.gr q)) ∧
    (∀ (s : State) (core : CoreId) (ctx : CtxId) (r : Req) (d n : Nat) (signed : Bool),
      let k := ctxKey core.toNat ctx.toNat
      (s.ctxAt k).state = .parked → (s.ctxAt k).wait = .req r → r.error = false → r.todo = [] → r.atom = none → r.flags = 0 → d < 256 →
      r.sink = .reg d n signed →
      ∃ t, exec (.loadReply core ctx) s = .next t ∧ t.mem = s.mem ∧
        repliedG (s.ctxAt k) (t.ctxAt k) d (extendLoad n signed (r.done.headD 0)) r.words) ∧
    (∀ (s : State) (core : CoreId) (ctx : CtxId) (r : Req) (d n : Nat) (signed : Bool),
      let k := ctxKey core.toNat ctx.toNat
      (s.ctxAt k).state = .parked → (s.ctxAt k).wait = .req r → r.error = true → r.sink = .reg d n signed →
      ∃ t, exec (.loadReply core ctx) s = .next t ∧ t.mem = s.mem ∧ (t.ctxAt k).task.g = (s.ctxAt k).task.g ∧
        (t.ctxAt k).task.epc = (s.ctxAt k).task.pc &&& ~~~3#64 ∧ (t.ctxAt k).task.einfo = r.ea ∧
        (t.ctxAt k).task.ecause.extractLsb' 0 8 = 6)) ∧
  (
    (∀ (s : State) (d a : BitVec 7) (sp : BitVec 2) (i : BitVec 5), sound s [d.toNat, a.toNat] [] [] [] → s.task.inEvent = false →
      s.task.storecnt < 255 → s.me.state ≠ .stopped →
      let accepted : Instr → Nat → Prop := fun j n =>
        let ea := s.g a.toNat + i.signExtend 64 * BitVec.ofNat 64 n
        ∀ pa, s.check .store (s.task.space sp.toNat) ea n n = .ok (.mem pa) →
          ∃ t, exec j s = .next t ∧ sameRegs s t ∧ acceptedFor s t 1 ∧ t.mem = s.mem ∧ t.task.storecnt = s.task.storecnt + 1 ∧
            (t.coreAt s.curCore).wbuf = (s.coreAt s.curCore).wbuf ++
              [{ ctx := s.curCtx, tid := s.task.tid, place := .mem pa, size := n, value := (s.g d.toNat).toNat % 2 ^ (8 * n), release := false, scope := 0, id := (s.coreAt s.curCore).storeSerial, sel := s.task.space sp.toNat, ea }]
      accepted (.stb d a sp i) 1 ∧ accepted (.sth d a sp i) 2 ∧ accepted (.stw d a sp i) 4 ∧ accepted (.std d a sp i) 8) ∧
    (let buffers : Instr → State → BitVec 16 → Word → Nat → Nat → Bool → Nat → Prop := fun j s sel ea n v rel words =>
      ∀ pa, s.check .store sel ea n n = .ok (.mem pa) →
        ∃ t p, exec j s = .next t ∧ sameRegs s t ∧ t.mem = s.mem ∧ t.task.pc = s.task.pc ∧ t.me.state = .parked ∧ t.me.parkwhy = 1 ∧
          t.me.wait = (if rel then .relStore words else .accepted words) ∧ t.task.storecnt = s.task.storecnt + 1 ∧
          (t.coreAt s.curCore).wbuf = (s.coreAt s.curCore).wbuf ++ [p] ∧
          (p.ctx, p.tid, p.place, p.size, p.value, p.release) = (s.curCtx, s.task.tid, .mem pa, n, v % 2 ^ (8 * n), rel)
    (∀ (s : State) (e : Ext), sound s [e.c.toNat, e.a.toNat, e.b.toNat] [] [] [] → allFull s e.syn → s.task.inEvent = false →
      (e.ord.getLsbD 1 = true → s.drained = true) → s.task.storecnt < 255 → s.me.state ≠ .stopped →
      let sel := s.task.space e.sp.toNat
      let ea := s.g e.a.toNat + s.g e.b.toNat + e.imm.value
      let v := (s.g e.c.toNat).toNat
      let rel := e.ord.getLsbD 1
      buffers (.stbX e) s sel ea 1 v rel e.words ∧ buffers (.sthX e) s sel ea 2 v rel e.words ∧
      buffers (.stwX e) s sel ea 4 v rel e.words ∧ buffers (.stdX e) s sel ea 8 v rel e.words) ∧
    (∀ (s : State) (d a : BitVec 7) (sp : BitVec 2) (i : BitVec 5), sound s [d.toNat, d.toNat + 1, a.toNat] [] [] [] → s.task.inEvent = false →
      s.task.storecnt < 255 → s.me.state ≠ .stopped →
      buffers (.stp d a sp i) s (s.task.space sp.toNat) (s.g a.toNat + i.signExtend 64 * 16) 16
        ((s.g d.toNat).toNat + 2 ^ 64 * (s.g (d.toNat + 1)).toNat) false 1) ∧
    (∀ (s : State) (e : Ext), sound s [e.c.toNat, e.c.toNat + 1, e.a.toNat, e.b.toNat] [] [] [] → allFull s e.syn → s.task.inEvent = false →
      (e.ord.getLsbD 1 = true → s.drained = true) → s.task.storecnt < 255 → s.me.state ≠ .stopped →
      buffers (.stpX e) s (s.task.space e.sp.toNat) (s.g e.a.toNat + s.g e.b.toNat + e.imm.value) 16
        ((s.g e.c.toNat).toNat + 2 ^ 64 * (s.g (e.c.toNat + 1)).toNat) (e.ord.getLsbD 1) e.words)) ∧
    (∀ (s : State) (core : CoreId) (p : Pending) (pa : Nat), s.readyStores core.toNat [] (s.coreAt core.toNat).wbuf = [p] →
      p.place = .mem pa → s.backed pa = true → isPeerMem pa = false → isPeerRegs pa = false → homeDie pa = dieOf core.toNat →
      (s.dieAt (dieOf core.toNat)).wrapHold = false → s.needWrap (dieOf core.toNat) = false → s.hostHolds (lineOf pa) = false →
      s.sliceBusy (s.storeWrite core.toNat p pa) = false → (∀ q ∈ (s.coreAt core.toNat).wbuf, s.registerHeld core.toNat q = false) → (∀ x ∈ s.tasks, s.imageHolds x pa = false) →
      ∃ t, exec (.sliceWrite core) s = .next t ∧ storedAt s t pa p.size p.value ∧ sameRegs s t ∧
        (t.coreAt core.toNat).wbuf = (s.coreAt core.toNat).wbuf.erase p ∧ Instr.storeAck core (ctxId p.ctx) ∈ t.agenda) ∧
    (∀ (s : State) (core : CoreId) (ctx : CtxId) (id wts : Nat) (line : Option Nat),
      let k := ctxKey core.toNat ctx.toNat
      let c := s.coreAt core.toNat
      let tid := (s.ctxAt k).task.tid
      c.acks = [{ ctx := ctx.toNat, tid, id, wts, line }] → c.unacked = [(ctx.toNat, tid, id)] → c.wbuf = [] → s.agenda = [] →
      (s.dieAt (dieOf core.toNat)).outbound = [] → (s.ctxAt k).wait = .none → tid ≠ 0 →
      ∃ t, exec (.storeAck core ctx) s = .next t ∧ t.mem = s.mem ∧ (t.coreAt core.toNat).acks = [] ∧ (t.coreAt core.toNat).unacked = [] ∧
        (t.coreAt core.toNat).lclk = Nat.max c.lclk wts ∧ t.ctxAt k = { s.ctxAt k with
          task := { (s.ctxAt k).task with storecnt := (s.ctxAt k).task.storecnt - 1 } }))

/-- R114, R83: a split load whose register has no load outstanding: from the own scratchpad it writes D at once; from memory it
clears the register's full bit, sets its pending bit and completes in the cycle after (R74). SPLIT_LOAD_REPLY, and a reply sent on by SPLIT_LOAD_FORWARD,
write the register of the task, set its full bit and clear its pending bit. Both forms of `ldf` and `ldfw`. -/
def Obligations.SplitLoads : Prop :=
  let own : Instr → State → List Nat → BitVec 16 → Word → Nat → Nat → Nat → Prop := fun j s syn sel ea n d words =>
    ∀ off, ownAt s sel ea n off →
      readsG j s syn d (if n = 4 then (BitVec.ofNat 32 (s.ownBytesAt off n)).signExtend 64 else BitVec.ofNat 64 (s.ownBytesAt off n)) words
  let far : Instr → State → BitVec 16 → Word → Nat → Nat → Nat → Nat → Prop := fun j s sel ea n d words hint =>
    ∀ pa, s.check .split sel ea n n = .ok (.mem pa) →
      ∃ t, exec j s = .next t ∧ sameRegs s t ∧ t.mem = s.mem ∧ acceptedFor s t words ∧
        t.task.isFull d = false ∧ t.task.isPend d = true ∧
        (t.coreAt s.curCore).splits = (s.coreAt s.curCore).splits ++
          [{ ctx := s.curCtx, tid := s.task.tid, reg := d, place := .mem pa, size := n, before := (s.coreAt s.curCore).storeSerial, sel, ea, hint }]
  (∀ (s : State) (d a : BitVec 7) (sp : BitVec 2) (i : BitVec 5), sound s [a.toNat] [d.toNat] [] [] → d ≠ 0 → s.task.isPend d.toNat = false → s.me.state ≠ .stopped →
    let ea := fun n : Nat => s.g a.toNat + i.signExtend 64 * BitVec.ofNat 64 n
    own (.ldf d a sp i) s [] (s.task.space sp.toNat) (ea 8) 8 d.toNat 1 ∧ own (.ldfw d a sp i) s [] (s.task.space sp.toNat) (ea 4) 4 d.toNat 1 ∧
    far (.ldf d a sp i) s (s.task.space sp.toNat) (ea 8) 8 d.toNat 1 0 ∧ far (.ldfw d a sp i) s (s.task.space sp.toNat) (ea 4) 4 d.toNat 1 0) ∧
  (∀ (s : State) (e : Ext), sound s [e.a.toNat, e.b.toNat] [e.d.toNat] [] [] → allFull s e.syn → e.d ≠ 0 → s.task.isPend e.d.toNat = false → s.me.state ≠ .stopped →
    let ea := s.g e.a.toNat + s.g e.b.toNat + e.imm.value
    own (.ldfX e) s e.syn (s.task.space e.sp.toNat) ea 8 e.d.toNat e.words ∧ own (.ldfwX e) s e.syn (s.task.space e.sp.toNat) ea 4 e.d.toNat e.words ∧
    far (.ldfX e) s (s.task.space e.sp.toNat) ea 8 e.d.toNat e.words e.hint.toNat ∧ far (.ldfwX e) s (s.task.space e.sp.toNat) ea 4 e.d.toNat e.words e.hint.toNat) ∧
  (∀ (s : State) (core : CoreId) (n k : Nat) (x : Split) (c off : Nat),
    ((s.coreAt core.toNat).splits.find? fun y => splitId y.tid y.reg = n) = some x → x.place = .scratch c off →
    (s.coreAt c).guarded off x.size = false → (s.coreAt core.toNat).forwards = [] → x.tid ≠ 0 → (s.ctxAt k).task.tid = x.tid →
    0 < x.reg → x.reg < 256 → s.splitBehind core.toNat x = false → s.splitGone core.toNat x = false → (∀ y ∈ s.tasks, y.tid = x.tid → y.absent = []) →
    (∀ c ∈ s.cores, ∀ h ∈ c.2.held, h.2.tid ≠ x.tid) →
    ∃ t, exec (.splitLoadReply core n) s = .next t ∧ t.mem = s.mem ∧ (t.coreAt core.toNat).splits = (s.coreAt core.toNat).splits.erase x ∧
      (t.ctxAt k).task.gr x.reg = extendLoad x.size true (readBytes s.mem (sramKey c off) x.size % 2 ^ (8 * x.size)) ∧
      (t.ctxAt k).task.isFull x.reg = true ∧ (t.ctxAt k).task.isPend x.reg = false ∧
      ∀ q, q ≠ x.reg → (t.ctxAt k).task.gr q = (s.ctxAt k).task.gr q) ∧
  (∀ (s : State) (core dest : CoreId) (wts reg tid k : Nat) (v : Word), (s.coreAt dest.toNat).forwards = [] → tid ≠ 0 →
    (s.ctxAt k).task.tid = tid → 0 < reg → reg < 256 → (∀ y ∈ s.tasks, y.tid = tid → y.absent = []) →
    (∀ c ∈ s.cores, ∀ h ∈ c.2.held, h.2.tid ≠ tid) →
    ∃ t, exec (.splitLoadForward core wts dest reg v tid) s = .next t ∧ t.mem = s.mem ∧ (t.ctxAt k).task.gr reg = v ∧
      (t.ctxAt k).task.isFull reg = true ∧ (t.ctxAt k).task.isPend reg = false ∧
      ∀ q, q ≠ reg → (t.ctxAt k).task.gr q = (s.ctxAt k).task.gr q)

/-- R116, R117, Table 5: outside a timed event, an atomic on the own scratchpad writes the old value into D and the value of Table 5
over the bytes, in one step; `acas` writes C only where the bytes equal B. Every other byte and register is as before. Each
operation on 64 and on 32 bits.

R74, R120: outside a timed event, `wtne` on the own scratchpad completes when the eight bytes differ from S and otherwise parks
with PARKWHY 7; WTNE_LINE_WRITE ends that park once they differ. Both forms. -/
def Obligations.AtomicsAndWatches : Prop :=
  (
    let atom : State → Ext → Instr → Nat → (Nat → Option Nat) → Prop := fun s e j n f =>
      ∀ off, ownAt s (s.task.space e.sp.toNat) (s.g e.a.toNat + e.imm.value) n off →
        let old := s.ownBytesAt off n
        ∃ t, exec j s = .next t ∧ t.g e.d.toNat = (if e.d = 0 then 0 else BitVec.ofNat 64 old) ∧
          (∀ r, r ≠ e.d.toNat → t.g r = s.g r) ∧ (∀ r, t.vreg r = s.vreg r) ∧ t.task.flags = s.task.flags ∧
          t.task.pc = s.task.pc + BitVec.ofNat 64 (4 * e.words) ∧
          storedAt s t (sramKey s.curCore off) n ((f old).getD old)
    ∀ (s : State) (e : Ext), sound s [e.a.toNat, e.b.toNat, e.c.toNat] [e.d.toNat] [] [] → allFull s e.syn → s.task.inEvent = false →
      (e.ord.getLsbD 1 = true → s.drained = true) →
      let c := s.g e.c.toNat
      let b := s.g e.b.toNat
      let both : Instr → Instr → (∀ w : Nat, BitVec w → BitVec w → BitVec w) → Prop := fun j8 j4 f =>
        atom s e j8 8 (fun old => some (f 64 (BitVec.ofNat 64 old) c).toNat) ∧
        atom s e j4 4 (fun old => some (f 32 (BitVec.ofNat 32 old) (c.setWidth 32)).toNat)
      both (.aadd e) (.aaddw e) (fun _ x c => x + c) ∧
      both (.aand e) (.aandw e) (fun _ x c => x &&& c) ∧
      both (.aor e) (.aorw e) (fun _ x c => x ||| c) ∧
      both (.axor e) (.axorw e) (fun _ x c => x ^^^ c) ∧
      both (.amin e) (.aminw e) (fun _ x c => if c.slt x then c else x) ∧
      both (.amax e) (.amaxw e) (fun _ x c => if x.slt c then c else x) ∧
      both (.aminu e) (.aminuw e) (fun _ x c => if c.ult x then c else x) ∧
      both (.amaxu e) (.amaxuw e) (fun _ x c => if x.ult c then c else x) ∧
      both (.aswp e) (.aswpw e) (fun _ _ c => c) ∧
      atom s e (.acas e) 8 (fun old => if BitVec.ofNat 64 old = b then some c.toNat else none) ∧
      atom s e (.acasw e) 4 (fun old => if BitVec.ofNat 32 old = b.setWidth 32 then some (c.setWidth 32).toNat else none)) ∧
  (
    let waits : Instr → State → BitVec 16 → Word → Word → Nat → Prop := fun j s sel ea v words =>
      ∀ off, ownAt s sel ea 8 off →
        ∃ t, exec j s = .next t ∧ sameRegs s t ∧ t.mem = s.mem ∧
          if BitVec.ofNat 64 (s.ownBytesAt off 8) ≠ v then t.task.pc = s.task.pc + BitVec.ofNat 64 (4 * words) ∧ t.me.state = s.me.state
          else t.task.pc = s.task.pc ∧ t.me.state = .parked ∧ t.me.parkwhy = 7
    (∀ (s : State) (d a : BitVec 7) (sp : BitVec 2) (i : BitVec 5), sound s [d.toNat, a.toNat] [] [] [] → s.task.inEvent = false →
      s.me.state ≠ .stopped →
      waits (.wtne d a sp i) s (s.task.space sp.toNat) (s.g a.toNat + i.signExtend 64 * 8) (s.g d.toNat) 1) ∧
    (∀ (s : State) (e : Ext), sound s [e.c.toNat, e.a.toNat, e.b.toNat] [] [] [] → allFull s e.syn → s.task.inEvent = false →
      s.me.state ≠ .stopped →
      waits (.wtneX e) s (s.task.space e.sp.toNat) (s.g e.a.toNat + s.g e.b.toNat + e.imm.value) (s.g e.c.toNat) e.words) ∧
    (∀ (s : State) (core : CoreId) (ctx : CtxId) (r : Req) (v : Word) (off : Nat),
      let k := ctxKey core.toNat ctx.toNat
      (s.ctxAt k).state = .parked → (s.ctxAt k).wait = .watch r → r.sink = .watch v (.scratch core.toNat off) →
      r.todo = [⟨.scratch core.toNat off, 8⟩] → BitVec.ofNat 64 (readBytes s.mem (sramKey core.toNat off) 8) ≠ v → (s.coreAt core.toNat).guarded off 8 = false →
      ∃ t, exec (.wtneLineWrite core ctx) s = .next t ∧ t.mem = s.mem ∧ (t.ctxAt k).state = .ready ∧
        (t.ctxAt k).task.pc = (s.ctxAt k).task.pc + BitVec.ofNat 64 (4 * r.words) ∧ (t.ctxAt k).task.g = (s.ctxAt k).task.g))

/-- R74, R119: a fence changes no register and no memory, and completes in the cycle after, once, for a release, every earlier access of the context is
performed, and, for an acquire, no split load is outstanding; a release before that parks with PARKWHY 1.

R74, R107, R121, R251: the line operations change no register and no memory. On a line of memory `unpin` removes the task's pin of it, `flush`
drops the core's copy once the context's stores to it are acknowledged, `pref` asks for the line unless its set is pinned in full, and each completes
in the cycle after; `pin` parks with PARKWHY 1 for the line, which LOAD_REPLY then pins for the task while it has fewer than 64 pins and its set has
room. On the own scratchpad each only completes in the cycle after. Both forms of each. -/
def Obligations.FencesAndLineOperations : Prop :=
  (
    (∀ (s : State) (e : Ext), (e.ord.getLsbD 1 = true → s.drained = true) → (e.ord.getLsbD 0 = true → s.task.pend = 0) → s.me.state ≠ .stopped →
      ∃ t, exec (.fence e) s = .next t ∧ sameRegs s t ∧ t.mem = s.mem ∧ acceptedFor s t e.words) ∧
    (∀ (s : State) (e : Ext), e.ord.getLsbD 1 = true → s.drained = false → s.me.state ≠ .stopped →
      parksFor (.fence e) s [] 1 .drained [])) ∧
  (
    let onMem : (BitVec 16 → Word → Nat → State → (Instr → Instr → Instr → Instr → Prop)) := fun sel ea words s unpin flush pin pref =>
      (∀ pa, s.check .line sel ea 1 1 = .ok (.mem pa) →
        (∃ t, exec unpin s = .next t ∧ sameRegs s t ∧ t.mem = s.mem ∧ acceptedFor s t words ∧
          t.task.pins = s.task.pins.filter (· ≠ lineOf pa)) ∧
        (s.lineBusy (lineOf pa) = false → ∃ t, exec flush s = .next t ∧ sameRegs s t ∧ t.mem = s.mem ∧
          acceptedFor s t words ∧ (t.coreAt s.curCore).l1.find (lineOf pa) = none) ∧
        (∃ t q, exec pin s = .next t ∧ sameRegs s t ∧ t.mem = s.mem ∧ t.task.pc = s.task.pc ∧ t.me.state = .parked ∧ t.me.parkwhy = 1 ∧
          t.me.wait = .req q ∧ q.sink = .pin (lineOf pa)) ∧
        (∃ t, exec pref s = .next t ∧ sameRegs s t ∧ t.mem = s.mem ∧ acceptedFor s t words ∧
          (s.setPinned s.curCore (lineOf pa) = false → ∃ x, (t.coreAt s.curCore).splits = (s.coreAt s.curCore).splits ++ [x] ∧ x.reg = 0 ∧
            x.place = .mem (lineOf pa * 64) ∧ Instr.splitLoadReply (coreId s.curCore) (splitId s.task.tid 0) ∈ t.agenda))) ∧
      (∀ off, ownAt s sel ea 1 off → ∀ j ∈ [unpin, flush, pin, pref],
        ∃ t, exec j s = .next t ∧ sameRegs s t ∧ t.mem = s.mem ∧ acceptedFor s t words)
    (∀ (s : State) (a : BitVec 7) (sp : BitVec 2) (i : BitVec 5), sound s [a.toNat] [] [] [] → s.me.state ≠ .stopped →
      onMem (s.task.space sp.toNat) (s.g a.toNat + i.signExtend 64 * 64) 1 s (.unpin a sp i) (.flush a sp i) (.pin a sp i) (.pref a sp i)) ∧
    (∀ (s : State) (e : Ext), sound s [e.a.toNat, e.b.toNat] [] [] [] → allFull s e.syn → s.me.state ≠ .stopped →
      onMem (s.task.space e.sp.toNat) (s.g e.a.toNat + s.g e.b.toNat + e.imm.value) e.words s (.unpinX e) (.flushX e) (.pinX e) (.prefX e)) ∧
    (∀ (s : State) (core : CoreId) (ctx : CtxId) (r : Req) (line : Nat),
      let k := ctxKey core.toNat ctx.toNat
      (s.ctxAt k).state = .parked → (s.ctxAt k).wait = .req r → r.error = false → r.todo = [] → r.atom = none → r.sink = .pin line →
      (s.ctxAt k).task.pins.length < 64 → line ∉ (s.ctxAt k).task.pins → s.setPinned core.toNat line = false →
      ∃ t, exec (.loadReply core ctx) s = .next t ∧ t.mem = s.mem ∧ (t.ctxAt k).task.pins = (s.ctxAt k).task.pins ++ [line] ∧
        (t.ctxAt k).task.g = (s.ctxAt k).task.g ∧ (t.ctxAt k).task.pc = (s.ctxAt k).task.pc + BitVec.ofNat 64 (4 * r.words)))

/-- R246, R253, R255: a plain load that waits at its slice, its line homed on the own die, is served with the bytes in memory and the
context's own stores over them; an atomic at its home on the own die is served with the old bytes and writes the value of
Table 5, when no host holds the line and no other write is queued for it; a reply from another die is held until the die's record allows its stamp, and one that was
overtaken is used once; an outbound write that may be applied changes exactly its bytes at its home. -/
def Obligations.SlicesAndHomes : Prop :=
  (∀ (s : State) (core : CoreId) (ctx : CtxId) (r : Req) (pa n : Nat),
    let k := ctxKey core.toNat ctx.toNat
    (s.ctxAt k).wait = .req r → r.todo = [⟨.mem pa, n⟩] → r.acq = false → r.atom = none → s.backed pa = true → isPeerMem pa = false →
    isPeerRegs pa = false → homeDie pa = dieOf core.toNat → s.hostOwns (lineOf pa) = false → s.lineBad pa = false →
    s.splitOut core.toNat (s.ctxAt k).task.tid (.mem pa) = false → (s.dieAt (dieOf core.toNat)).wrapHold = false → s.needWrap (dieOf core.toNat) = false →
    ∃ t, exec (.sliceLoad core ctx) s = .next t ∧
      servedWith s t k r (s.ownBytes core.toNat ctx.toNat (s.ctxAt k).task.tid pa n (readBytes s.mem pa n))) ∧
  (∀ (s : State) (core : CoreId) (ctx : CtxId) (r : Req) (op : AtomOp) (e c : Word) (pa n v : Nat),
    let k := ctxKey core.toNat ctx.toNat
    (s.ctxAt k).wait = .req r → r.todo = [⟨.mem pa, n⟩] → r.atom = some (op, e, c) → op ≠ .cas → s.backed pa = true →
    isPeerMem pa = false → isPeerRegs pa = false → homeDie pa = dieOf core.toNat → s.hostHolds (lineOf pa) = false →
    s.busyLine k (lineOf pa) = false → s.lineBad pa = false → s.cores.all (fun x => x.2.splits = []) = true →
    s.sliceBusy (s.atomicWrite core.toNat ctx.toNat pa) = false → (∀ x ∈ s.tasks, s.imageHolds x pa = false) →
    (s.dieAt (dieOf core.toNat)).wrapHold = false → s.needWrap (dieOf core.toNat) = false →
    atomicNew op (8 * n) (readBytes s.mem pa n) e.toNat c.toNat = some v →
    ∃ t, exec (.homeAtomic core ctx) s = .next t ∧ storedAt s t pa n v ∧
      ∃ q, (t.ctxAt k).wait = .req q ∧ q.todo = [] ∧ q.done = r.done ++ [readBytes s.mem pa n] ∧ q.performed = true) ∧
  (∀ (s : State) (core : CoreId) (ctx : CtxId) (r : Req) (stamp : List Nat) (data : BitVec 512) (pa n : Nat),
    let k := ctxKey core.toNat ctx.toNat
    (s.ctxAt k).wait = .req r → r.todo = [⟨.mem pa, n⟩] → r.reply = some (stamp, data) → r.acq = false → r.atom = none → r.once = true →
    let d := s.dieAt (dieOf core.toNat)
    ∃ t, exec (.crossDieReply core ctx) s = .next t ∧
      if d.allows stamp then
        servedWith s t k r (s.ownBytes core.toNat ctx.toNat (s.ctxAt k).task.tid pa n (getBytes (d.overOutbound (lineOf pa) data) (pa % 64) n))
      else t = s.push (.crossDieReply core ctx)) ∧
  (∀ (s : State) (die : DieId) (o : Outbound), outboundHeads [] (s.dieAt die.toNat).outbound = [o] → s.backed o.pa = true →
    (s.dieAt (homeDie o.pa)).allows o.stamp = true → (s.dieAt (homeDie o.pa)).sliceq = [] → s.hostHolds (lineOf o.pa) = false →
    ∃ t, exec (.outboundWriteApply die) s = .next t ∧ storedAt s t o.pa o.size o.value ∧ sameRegs s t ∧
      Instr.storeAck (coreId o.core) (ctxId o.ctx) ∈ t.agenda)

/-- R126, R238, R275, R420: the first element of a request is served by another core's scratchpad that no copy guards, by a weight
store outside its bank's refresh window, and by a mailbox counter that serves the process; a request that the peer link's failure
answers has its error set. The end of a refresh window lets the accesses that wait for the bank go on. -/
def Obligations.WindowsStoresCounters : Prop :=
  (∀ (s : State) (core : CoreId) (ctx : CtxId) (r : Req) (c off n : Nat) (a : Alloc),
    let k := ctxKey core.toNat ctx.toNat
    (s.ctxAt k).wait = .req r → r.todo = [⟨.scratch c off, n⟩] → r.atom = none → r.vals = [] →
    s.alloc c (s.ctxAt k).task.procid.toNat = some a → a.base ≤ off → off + n ≤ a.base + a.size → (s.coreAt c).guarded off n = false →
    s.cores.all (fun x => x.2.splits = []) = true →
    ∃ t, exec (.peerWindowAccess core ctx) s = .next t ∧ servedWith s t k r (readBytes s.mem (sramKey c off) n)) ∧
  (∀ (s : State) (core : CoreId) (ctx : CtxId) (r : Req) (d off n : Nat),
    let k := ctxKey core.toNat ctx.toNat
    (s.ctxAt k).wait = .req r → r.todo = [⟨.weight d off, n⟩] →
    ∃ t, exec (.weightStoreAccess core ctx) s = .next t ∧
      if s.refreshing d (off / 2 ^ 26) then t = s.pushOnce (.refreshWindowEnd (dieId d) (off / 2 ^ 26))
      else servedWith s t k r (readBytes s.mem (weightKey d off) n)) ∧
  (∀ (s : State) (die : DieId) (bank k off n : Nat) (x : Context) (r : Req), s.refreshing die.toNat bank = false → (k, x) ∈ s.ctxs →
    x.wait = .req r → r.todo.head? = some ⟨.weight die.toNat off, n⟩ → off / 2 ^ 26 = bank →
    ∃ t, exec (.refreshWindowEnd die bank) s = .next t ∧ Instr.weightStoreAccess (coreId (k / 16)) (ctxId (k % 16)) ∈ t.agenda ∧
      { t with agenda := s.agenda } = s) ∧
  (∀ (s : State) (core : CoreId) (ctx : CtxId) (r : Req) (m i n : Nat),
    let k := ctxKey core.toNat ctx.toNat
    let x := (s.coreAt m).counters.get i {}
    (s.ctxAt k).wait = .req r → r.todo = [⟨.counter m i, n⟩] → x.v = true → x.owner = (s.ctxAt k).task.procid →
    s.postsOut core.toNat (s.ctxAt k).task m i = false →
    ∃ t, exec (.counterLoadArrive core ctx) s = .next t ∧ servedWith s t k r x.count.toNat) ∧
  (∀ (s : State) (core : CoreId) (ctx : CtxId) (r : Req),
    let k := ctxKey core.toNat ctx.toNat
    (s.ctxAt k).wait = .req r → (s.coreAt core.toNat).wbuf = [] →
    ∃ t, exec (.peerRequestTimeout core ctx) s = .next t ∧
      t = (s.setCtxAt k { s.ctxAt k with wait := .req { r with error := true } }).push (.loadReply core ctx))

/-- R178 to R181: a vector load whose elements all lie in the own scratchpad fills the lanes of D from them, and, outside a timed
event, a vector store whose elements lie in distinct places there writes each lane over its bytes; the elements are contiguous
(`vld`, `vst`), at a stride (`vlds`, `vsts`), or gathered by the lanes of B scaled by the element size (`vgat`, `vsca`). -/
def Obligations.VectorMemory : Prop :=
  let loads : Instr → State → BitVec 16 → Nat → (Nat → Word) → Nat → Nat → Prop := fun j s sel w ea d words =>
    ∀ off : Nat → Nat, (∀ i, i < 1024 / w → ownAt s sel (ea i) (w / 8) (off i)) →
      ∃ t, exec j s = .next t ∧ t.mem = s.mem ∧ (∀ r, t.g r = s.g r) ∧ (∀ r, r ≠ d → t.vreg r = s.vreg r) ∧
        t.task.flags = s.task.flags ∧ t.task.pc = s.task.pc + BitVec.ofNat 64 (4 * words) ∧
        ∀ i, i < 1024 / w → (t.vreg d).extractLsb' (w * i) w = BitVec.ofNat w (s.ownBytesAt (off i) (w / 8))
  let stores : Instr → State → BitVec 16 → Nat → (Nat → Word) → Vec → Nat → Prop := fun j s sel w ea x words =>
    ∀ off : Nat → Nat, (∀ i, i < 1024 / w → ownAt s sel (ea i) (w / 8) (off i)) →
      (∀ i j, i < j → j < 1024 / w → off i + w / 8 ≤ off j ∨ off j + w / 8 ≤ off i) →
      ∃ t, exec j s = .next t ∧ sameRegs s t ∧ t.task.pc = s.task.pc + BitVec.ofNat 64 (4 * words) ∧
        (∀ i, i < 1024 / w → readBytes t.mem (sramKey s.curCore (off i)) (w / 8) = (x.extractLsb' (w * i) w).toNat) ∧
        ∀ a, (∀ i, i < 1024 / w → a < sramKey s.curCore (off i) ∨ sramKey s.curCore (off i) + w / 8 ≤ a) → t.byteAt a = s.byteAt a
  (∀ (s : State) (e : Ext), sound s [e.a.toNat, e.b.toNat] [] [] [e.d.toNat] → allFull s e.syn →
    loads (.vld e) s (s.task.space e.sp.toNat) 32 (fun i => s.g e.a.toNat + s.g e.b.toNat + e.imm.value + BitVec.ofNat 64 (4 * i)) e.d.toNat e.words) ∧
  (∀ (s : State) (w : Width) (e : Ext), sound s [e.a.toNat, e.b.toNat] [] [] [e.d.toNat] → allFull s e.syn →
    loads (.vlds w e) s (s.task.space e.sp.toNat) w.bits (fun i => s.g e.a.toNat + e.imm.value + BitVec.ofNat 64 i * s.g e.b.toNat) e.d.toNat e.words) ∧
  (∀ (s : State) (w : Width) (e : Ext), sound s [e.a.toNat] [] [e.b.toNat] [e.d.toNat] → allFull s e.syn →
    loads (.vgat w e) s (s.task.space e.sp.toNat) w.bits (fun i => s.g e.a.toNat + e.imm.value +
      BitVec.ofNat 64 (((s.vreg e.b.toNat).extractLsb' (w.bits * i) w.bits).toNat * (w.bits / 8))) e.d.toNat e.words) ∧
  (∀ (s : State) (e : Ext), sound s [e.a.toNat, e.b.toNat] [] [e.c.toNat] [] → allFull s e.syn → s.task.inEvent = false →
    (e.ord.getLsbD 1 = true → s.drained = true) →
    stores (.vst e) s (s.task.space e.sp.toNat) 32 (fun i => s.g e.a.toNat + s.g e.b.toNat + e.imm.value + BitVec.ofNat 64 (4 * i))
      (s.vreg e.c.toNat) e.words) ∧
  (∀ (s : State) (w : Width) (e : Ext), sound s [e.a.toNat, e.b.toNat] [] [e.c.toNat] [] → allFull s e.syn → s.task.inEvent = false →
    (e.ord.getLsbD 1 = true → s.drained = true) →
    stores (.vsts w e) s (s.task.space e.sp.toNat) w.bits (fun i => s.g e.a.toNat + e.imm.value + BitVec.ofNat 64 i * s.g e.b.toNat)
      (s.vreg e.c.toNat) e.words) ∧
  (∀ (s : State) (w : Width) (e : Ext), sound s [e.a.toNat] [] [e.c.toNat, e.b.toNat] [] → allFull s e.syn → s.task.inEvent = false →
    (e.ord.getLsbD 1 = true → s.drained = true) →
    stores (.vsca w e) s (s.task.space e.sp.toNat) w.bits (fun i => s.g e.a.toNat + e.imm.value +
      BitVec.ofNat 64 (((s.vreg e.b.toNat).extractLsb' (w.bits * i) w.bits).toNat * (w.bits / 8))) (s.vreg e.c.toNat) e.words)

/-- R162, R163 to R165, R167, R168, R173: the vector instructions on integer lanes. Lane arithmetic wraps, or clamps with SAT; `vmin`,
`vmax` and `vcmp` compare i32 and i8 signed and ui8 unsigned; a shift by the lane's width or more empties the lane; `vred` sums without
wrapping. Nothing but D and PC differs, and no flag is raised. -/
def Obligations.IntegerLanes : Prop :=
  let gives : Instr → State → Ext → (w : Nat) → (Nat → BitVec w) → Prop := fun j s e w f =>
    ∃ x : Vec, givesV j s [] e.d.toNat x 0 e.words ∧ ∀ i, i < 1024 / w → x.extractLsb' (w * i) w = f i
  let holds : (w : Nat) → (BitVec w → Int) → Nat → BitVec w → BitVec w → Prop := fun _ val cc x y =>
    (cc = 0 ∧ x = y) ∨ (cc = 1 ∧ x ≠ y) ∨ (cc = 2 ∧ val x < val y) ∨ (cc = 3 ∧ val y ≤ val x) ∨ (cc = 6 ∧ val y < val x) ∨ (cc = 7 ∧ val x ≤ val y)
  let picks : State → Ext → LaneTy → (w : Nat) → (BitVec w → Int) → Prop := fun s e t w val =>
    let x := fun i => (s.vreg e.a.toNat).extractLsb' (w * i) w
    let y := fun i => (s.vreg e.b.toNat).extractLsb' (w * i) w
    gives (.vmin t e) s e w (fun i => if val (x i) ≤ val (y i) then x i else y i) ∧
    gives (.vmax t e) s e w (fun i => if val (y i) ≤ val (x i) then x i else y i) ∧
    ∀ cc : BitVec 4, cc.toNat ∈ [0, 1, 2, 3, 6, 7] → ∃ f, gives (.vcmp t cc e) s e w f ∧ ∀ i, i < 1024 / w →
      (holds w val cc.toNat (x i) (y i) → f i = BitVec.allOnes w) ∧ (¬ holds w val cc.toNat (x i) (y i) → f i = 0)
  let arith : State → Ext → LaneTy → Nat → Prop := fun s e t w =>
    let x := fun i => (s.vreg e.a.toNat).extractLsb' (w * i) w
    let y := fun i => (s.vreg e.b.toNat).extractLsb' (w * i) w
    let fit : Int → BitVec w := fun v => BitVec.ofInt w (if e.sat then max (-(2 ^ (w - 1) : Nat)) (min ((2 ^ (w - 1) : Nat) - 1) v) else v)
    gives (.vadd t e) s e w (fun i => fit ((x i).toInt + (y i).toInt)) ∧
    gives (.vsub t e) s e w (fun i => fit ((x i).toInt - (y i).toInt)) ∧
    (w = 32 → gives (.vmul t e) s e w (fun i => fit ((x i).toInt * (y i).toInt))) ∧
    gives (.vabs t e) s e w (fun i => fit (x i).toInt.natAbs) ∧
    gives (.vshl t e) s e w (fun i => x i <<< y i) ∧
    gives (.vshr t e) s e w (fun i => x i >>> y i) ∧
    gives (.vsra t e) s e w (fun i => (x i).sshiftRight (y i).toNat)
  let reduces : State → Ext → LaneTy → Nat → Prop := fun s e t w =>
    let x := fun i => ((s.vreg e.a.toNat).extractLsb' (w * i) w).toInt
    let l := (List.range (1024 / w)).map x
    ∃ m n : Int, (∃ i, i < 1024 / w ∧ x i = m) ∧ (∀ i, i < 1024 / w → m ≤ x i) ∧ (∃ i, i < 1024 / w ∧ x i = n) ∧ (∀ i, i < 1024 / w → x i ≤ n) ∧
      givesG (.vred t 0 e) s [] e.d.toNat (BitVec.ofInt 64 l.sum) e.words ∧
      givesG (.vred t 1 e) s [] e.d.toNat (BitVec.ofInt 64 m) e.words ∧ givesG (.vred t 2 e) s [] e.d.toNat (BitVec.ofInt 64 n) e.words
  (∀ (s : State) (e : Ext), e.rnd = 0 → sound s [] [] [e.a.toNat, e.b.toNat] [e.d.toNat] →
    picks s e .i32 32 BitVec.toInt ∧ picks s e .i8 8 BitVec.toInt ∧ picks s e .ui8 8 (fun x => x.toNat) ∧ arith s e .i32 32 ∧ arith s e .i8 8) ∧
  (∀ (s : State) (e : Ext), e.rnd = 0 → sound s [] [e.d.toNat] [e.a.toNat] [] → reduces s e .i32 32 ∧ reduces s e .i8 8)

/-- R161, R163 to R165, R168, R173: the vector instructions on floating-point lanes. Each lane of D is the exact result of its
operation rounded once into the lane format with RND and SAT, drawing with T = 64 and the lane's number; the flags of all lanes are
merged; with stochastic rounding SKEY advances by one; nothing but D, FLAGS, SKEY and PC differs. The exact operations and the rounding
are `Num.add`, `Num.mul`, `Num.fma` and `Fmt.encode`, of which FormatsAndRounding speaks. -/
def Obligations.FloatLanes : Prop :=
  let gives : Instr → State → Ext → Fmt → (Nat → Nat × Word) → Prop := fun j s e f r =>
    ∃ x : Vec, (∃ t, exec j s = .next t ∧ wroteV (if e.rnd = 4 then s.setTask { s.task with skey := s.task.skey + 1 } else s) t [] e.d.toNat x
        ((List.range (1024 / f.w)).foldl (fun m i => m ||| (r i).2) 0) e.words) ∧
      ∀ i, i < 1024 / f.w → (x.extractLsb' (f.w * i) f.w).toNat = (r i).1
  let at3 : State → Ext → LaneTy → Fmt → Prop := fun s e t f =>
    let x := fun r i => f.decode ((s.vreg r).extractLsb' (f.w * i) f.w).toNat
    let a := x e.a.toNat; let b := x e.b.toNat
    let rounded := fun (i : Nat) (v : Machine.Num × Word) =>
      let c := f.encode (.ofCode e.rnd.toNat) (if e.rnd = 4 then draw s.task.skey 64 i else 0) e.sat v.1
      (c.1, v.2 ||| c.2)
    let code := fun r i => ((s.vreg r).extractLsb' (f.w * i) f.w).toNat
    let nan := fun i => flagIf ((a i).isSnan || (b i).isSnan) fNV
    gives (.vadd t e) s e f (fun i => rounded i ((a i).add (b i) (e.rnd = 3))) ∧
    gives (.vsub t e) s e f (fun i => rounded i ((a i).add (b i).negate (e.rnd = 3))) ∧
    gives (.vmul t e) s e f (fun i => rounded i ((a i).mul (b i))) ∧
    (e.rnd = 0 →
      gives (.vmin t e) s e f (fun i => if (a i).isNan || (b i).isNan then (f.nan, nan i) else
        (if (b i).below (a i) then code e.b.toNat i else code e.a.toNat i, 0)) ∧
      gives (.vmax t e) s e f (fun i => if (a i).isNan || (b i).isNan then (f.nan, nan i) else
        (if (a i).below (b i) then code e.b.toNat i else code e.a.toNat i, 0)) ∧
      gives (.vabs t e) s e f (fun i => if (a i).isNan then (f.nan, flagIf (a i).isSnan fNV) else (code e.a.toNat i % 2 ^ (f.w - 1), 0)) ∧
      ∀ cc : BitVec 4, cc.toNat ∈ [0, 1, 2, 3, 6, 7] →
        gives (.vcmp t cc e) s e f (fun i =>
          let ordered := !((a i).isNan || (b i).isNan)
          let eq := (a i).same (b i)
          let lt := (a i).below (b i) && !eq
          let gt := (b i).below (a i) && !eq
          let c := if cc = 0 then ordered && eq else if cc = 1 then !(ordered && eq) else if cc = 2 then ordered && lt
            else if cc = 3 then ordered && (gt || eq) else if cc = 6 then ordered && gt else ordered && (lt || eq)
          (if c then 2 ^ f.w - 1 else 0, if ordered then 0 else if cc = 0 ∨ cc = 1 then nan i else fNV)))
  let fused : State → Ext → LaneTy → Fmt → Prop := fun s e t f =>
    let x := fun r i => f.decode ((s.vreg r).extractLsb' (f.w * i) f.w).toNat
    gives (.vfma t e) s e f (fun i =>
      let v := (x e.a.toNat i).fma (x e.b.toNat i) (x e.c.toNat i) (e.rnd = 3)
      let c := f.encode (.ofCode e.rnd.toNat) (if e.rnd = 4 then draw s.task.skey 64 i else 0) e.sat v.1
      (c.1, v.2 ||| c.2))
  let reduces : State → Ext → LaneTy → Fmt → Prop := fun s e t f =>
    let l := (List.range (1024 / f.w)).map fun i => f.decode ((s.vreg e.a.toNat).extractLsb' (f.w * i) f.w).toNat
    (l.any Machine.Num.isNan = true → ∃ u, exec (.vred t 0 e) s = .next u ∧ u.g e.d.toNat = (if e.d = 0 then 0 else 0x7FC00000)) ∧
    (l.all (fun v => !v.isNan && !v.isInf) = true → l.any (fun v => !(v.isZero && !v.neg)) = true → ∀ z : Machine.Num,
      z = l.foldl (fun p q => (p.add q (e.rnd = 3)).1) (.dy true 0 0) →
      let c := fp32.encode (.ofCode e.rnd.toNat) (if e.rnd = 4 then draw s.task.skey 64 0 else 0) e.sat z
      ∃ u, exec (.vred t 0 e) s = .next u ∧ u.g e.d.toNat = (if e.d = 0 then 0 else BitVec.ofNat 64 c.1) ∧
        u.task.flags = s.task.flags ||| c.2 ∧ u.task.pc = s.task.pc + BitVec.ofNat 64 (4 * e.words) ∧ (∀ r, u.vreg r = s.vreg r) ∧
        ∀ r, r ≠ e.d.toNat → u.g r = s.g r) ∧
    (l.any Machine.Num.isNan = false → e.rnd = 0 → ∃ p q, p ∈ l ∧ q ∈ l ∧ (∀ v ∈ l, v.below p = false ∧ q.below v = false) ∧
      givesG (.vred t 1 e) s [] e.d.toNat (BitVec.ofNat 64 (fp32.encode .rne 0 false p).1) e.words ∧
      givesG (.vred t 2 e) s [] e.d.toNat (BitVec.ofNat 64 (fp32.encode .rne 0 false q).1) e.words)
  let formats : List (LaneTy × Fmt) := [(.f32, fp32), (.bf16, bf16), (.f16, fp16)]
  (∀ (s : State) (e : Ext), sound s [] [] [e.a.toNat, e.b.toNat] [e.d.toNat] → ∀ p ∈ formats, at3 s e p.1 p.2) ∧
  (∀ (s : State) (e : Ext), sound s [] [] [e.a.toNat, e.b.toNat, e.c.toNat] [e.d.toNat] → ∀ p ∈ formats, fused s e p.1 p.2) ∧
  (∀ (s : State) (e : Ext), sound s [] [e.d.toNat] [e.a.toNat] [] → ∀ p ∈ formats, reduces s e p.1 p.2)

/-- R166, R169 to R172: the bitwise instructions, `vsel` and `vmov` act on all 1,024 bits; `vcnt` counts the one bits and `vfirst`
finds the lowest; `vperm`, `vbcast` and `vext` move lanes. Nothing but D and PC differs, and registers read synchronised are emptied. -/
def Obligations.BitsAndMoves : Prop :=
  (∀ (s : State) (e : Ext), sound s [] [] [e.a.toNat, e.b.toNat] [e.d.toNat] →
    let a := s.vreg e.a.toNat; let b := s.vreg e.b.toNat
    let gives : Instr → Vec → Prop := fun j x => givesV j s [] e.d.toNat x 0 e.words
    gives (.vand e) (a &&& b) ∧ gives (.vor e) (a ||| b) ∧ gives (.vxor e) (a ^^^ b) ∧ gives (.vnot e) (~~~a) ∧ gives (.vmov e) a ∧
    ∀ w : Width, ∃ x, gives (.vperm w e) x ∧ ∀ i, i < 1024 / w.bits →
      let k := (b.extractLsb' (w.bits * i) w.bits).toNat
      x.extractLsb' (w.bits * i) w.bits = if k < 1024 / w.bits then a.extractLsb' (w.bits * k) w.bits else 0) ∧
  (∀ (s : State) (e : Ext), sound s [] [] [e.a.toNat, e.b.toNat, e.c.toNat] [e.d.toNat] →
    let a := s.vreg e.a.toNat; let b := s.vreg e.b.toNat; let c := s.vreg e.c.toNat
    givesV (.vsel e) s [] e.d.toNat ((a &&& c) ||| (b &&& ~~~c)) 0 e.words) ∧
  (∀ (s : State) (e : Ext), sound s [] [e.d.toNat] [e.a.toNat] [] →
    let a := s.vreg e.a.toNat
    givesG (.vcnt e) s [] e.d.toNat (BitVec.ofNat 64 ((List.range 1024).filter fun i => a.getLsbD i).length) e.words ∧
    ∃ v, givesG (.vfirst e) s [] e.d.toNat v e.words ∧
      if a = 0 then v = 1024 else v.toNat < 1024 ∧ a.getLsbD v.toNat = true ∧ ∀ i, i < v.toNat → a.getLsbD i = false) ∧
  (∀ (s : State) (e : Ext) (w : Width), sound s [e.a.toNat] [] [] [e.d.toNat] → allFull s e.syn →
    ∃ x, givesV (.vbcast w e) s e.syn e.d.toNat x 0 e.words ∧ ∀ i, i < 1024 / w.bits →
      x.extractLsb' (w.bits * i) w.bits = (s.g e.a.toNat).setWidth w.bits) ∧
  (∀ (s : State) (e : Ext) (w : Width), sound s [e.b.toNat] [e.d.toNat] [e.a.toNat] [] → allFull s e.syn →
    let k := (s.g e.b.toNat).toNat
    givesG (.vext w e) s e.syn e.d.toNat
      (if k < 1024 / w.bits then ((s.vreg e.a.toNat).extractLsb' (w.bits * k) w.bits).zeroExtend 64 else 0) e.words)

/-- R159, R174: a long operation enters the core's queue of two and parks its context with PARKWHY 2, no register changed but SKEY
under stochastic rounding; a third one does not issue. VECTOR_LONG_DONE writes D of the oldest, merges its flags and makes its context
READY. Each lane is the function's value, rounded once into the lane format.

R174, Table 3: the special inputs of the long operations. -/
def Obligations.LongOperations : Prop :=
  (
    let parks : Instr → State → Ext → LongOp → Fmt → Prop := fun j s e o f =>
      let lane := fun i =>
        let v := o.value (f.decode ((s.vreg e.a.toNat).extractLsb' (f.w * i) f.w).toNat)
        let c := f.encode (.ofCode e.rnd.toNat) (if e.rnd = 4 then draw s.task.skey 64 i else 0) false v.1
        (c.1, v.2 ||| c.2)
      let q := (s.coreAt s.curCore).vlongs
      (q.length < 2 → s.me.state ≠ .stopped → ∃ t x, exec j s = .next t ∧
        t.me.state = .parked ∧ t.me.parkwhy = 2 ∧
        t.me.wait = .vlong e.d.toNat x ((List.range (1024 / f.w)).foldl (fun m i => m ||| (lane i).2) 0) e.words ∧
        (∀ i, i < 1024 / f.w → (x.extractLsb' (f.w * i) f.w).toNat = (lane i).1) ∧
        t.task = { s.task with skey := if e.rnd = 4 then s.task.skey + 1 else s.task.skey } ∧
        t.coreAt s.curCore = { s.coreAt s.curCore with vlongs := q ++ [s.curCtx] } ∧
        t.agenda = s.agenda ++ [.vectorLongDone (coreId s.curCore)] ∧ t.mem = s.mem) ∧
      (2 ≤ q.length → ∃ t, exec j s = .next t ∧ sameRegs s t ∧ t.task.pc = s.task.pc ∧ t.me.state = s.me.state ∧ t.cores = s.cores ∧ t.mem = s.mem)
    (∀ (s : State) (e : Ext), sound s [] [] [e.a.toNat] [e.d.toNat] → ∀ p ∈ ([(.f32, fp32), (.bf16, bf16), (.f16, fp16)] : List (LaneTy × Fmt)),
      parks (.vrcp p.1 e) s e .rcp p.2 ∧ parks (.vrsq p.1 e) s e .rsq p.2 ∧ parks (.vexp2 p.1 e) s e .exp2 p.2 ∧ parks (.vlog2 p.1 e) s e .log2 p.2) ∧
    (∀ (s : State) (core : CoreId) (ctx d n : Nat) (rest : List Nat) (x : Vec) (f : Word),
      let k := ctxKey core.toNat ctx
      (s.coreAt core.toNat).vlongs = ctx :: rest → (s.ctxAt k).state = .parked → (s.ctxAt k).wait = .vlong d x f n →
      ∃ t, exec (.vectorLongDone core) s = .next t ∧ t.mem = s.mem ∧ t.coreAt core.toNat = { s.coreAt core.toNat with vlongs := rest } ∧
        (∀ j, j ≠ k → t.ctxAt j = s.ctxAt j) ∧ (t.ctxAt k).state = .ready ∧
        (t.ctxAt k).task = { (s.ctxAt k).task with
          v := (t.ctxAt k).task.v, badVecs := (t.ctxAt k).task.badVecs
          flags := (s.ctxAt k).task.flags ||| f, pc := (s.ctxAt k).task.pc + BitVec.ofNat 64 (4 * n) } ∧
        (t.ctxAt k).task.vr d = x ∧ ∀ r, r ≠ d → (t.ctxAt k).task.vr r = (s.ctxAt k).task.vr r)) ∧
  (
    (∀ (neg : Bool) (e : Int),
      LongOp.rcp.value (.dy neg 0 e) = (.inf neg, 0) ∧ LongOp.rsq.value (.dy neg 0 e) = (.inf neg, 0) ∧
      LongOp.exp2.value (.dy neg 0 e) = (.dy false 1 0, 0) ∧ LongOp.log2.value (.dy neg 0 e) = (.inf true, 0)) ∧
    LongOp.rcp.value (.inf false) = (.dy false 0 0, 0) ∧ LongOp.rcp.value (.inf true) = (.dy true 0 0, 0) ∧
    LongOp.rsq.value (.inf false) = (.dy false 0 0, 0) ∧ LongOp.rsq.value (.inf true) = (.nan false, fNV) ∧
    LongOp.exp2.value (.inf false) = (.inf false, 0) ∧ LongOp.exp2.value (.inf true) = (.dy false 0 0, 0) ∧
    LongOp.log2.value (.inf false) = (.inf false, 0) ∧ LongOp.log2.value (.inf true) = (.nan false, fNV) ∧
    (∀ (o : LongOp) (s : Bool), o.value (.nan s) = (.nan false, if s then fNV else 0)) ∧
    (∀ (m : Nat) (e : Int), 0 < m → LongOp.rsq.value (.dy true m e) = (.nan false, fNV) ∧ LongOp.log2.value (.dy true m e) = (.nan false, fNV)) ∧
    (∀ (f : Fmt), f ∈ [fp32, bf16, fp16] → ∀ (o : LongOp) (m : Rnd),
      let one := f.encode .rne 0 false (.dy false 1 0)
      let two := f.encode .rne 0 false (.dy false 1 1)
      f.encode m 0 false (o.value (f.decode one.1)).1 = match o with
        | .rcp => one | .rsq => one | .exp2 => two | .log2 => (0, 0)))

/-- R139 to R142, R147: rounding the value of a code into its own format gives the code back and raises no flag, in every mode: for
every number and infinity of FP32, BF16, FP16 and each binary8 format (infinities without SAT).

R147, R148, R150: on numbers of an IEEE format the directed modes bracket the value: rounding a positive value down or toward zero
never exceeds it, rounding it up never falls below it, and where the two codes differ they are neighbours, inexact is raised, and
to-nearest gives one of them. -/
def Obligations.FormatsAndRounding : Prop :=
  (
    ∀ f : Fmt, (f ∈ [fp32, bf16, fp16] ∨ ∃ u : Nat, u < 32 ∧ u % 8 ≠ 0 ∧ f = binary8 u) →
      ∀ (c : Nat) (m : Rnd) (draw : Nat) (sat : Bool), c < 2 ^ f.w → (f.decode c).isNan = false → ((f.decode c).isInf = true → sat = false) →
        f.encode m draw sat (f.decode c) = (c, 0)) ∧
  (
    ∀ f : Fmt, f ∈ [fp32, bf16, fp16] → ∀ (m : Nat) (e : Int) (draw : Nat), 0 < m →
      let x := Machine.Num.dy false m e
      let up := f.encode .rup draw false x
      let down := f.encode .rdn draw false x
      up.1 ≤ f.maxCode →
        f.encode .rtz draw false x = down ∧
        x.below (f.decode down.1) = false ∧ (f.decode up.1).below x = false ∧
        (up.1 = down.1 ∨ up.1 = down.1 + 1) ∧ (up.1 = down.1 ↔ up.2 &&& fNX = 0) ∧
        ((f.encode .rne draw false x).1 = up.1 ∨ (f.encode .rne draw false x).1 = down.1))

/-- R175 to R177: `vcvt` in each of its variants of Table 4 and `vrq` convert element i of A into lane i of D, rounding with RND and SAT
where the rule rounds; the lanes above are zero, the flags are merged, and SKEY advances under stochastic rounding. A tensor identifier
that is not held by the task, or names a format that the variant does not take, raises a descriptor fault. -/
def Obligations.Conversions : Prop :=
  let gives : Instr → State → Ext → Nat → Nat → (Nat → Nat × Word) → Prop := fun j s e w n r =>
    ∃ x : Vec, (∃ t, exec j s = .next t ∧ wroteV (if e.rnd = 4 then s.setTask { s.task with skey := s.task.skey + 1 } else s) t [] e.d.toNat x
        ((List.range n).foldl (fun m i => m ||| (r i).2) 0) e.words) ∧
      ∀ i, i < 1024 / w → (x.extractLsb' (w * i) w).toNat = if i < n then (r i).1 else 0
  let src : State → Ext → Nat → Nat → Nat := fun s e w i => ((s.vreg e.a.toNat).extractLsb' (w * i) w).toNat
  let dr : State → Ext → Nat → Nat := fun s e i => if e.rnd = 4 then draw s.task.skey 64 i else 0
  let loomHere : State → Prop := fun s => s.hasSaved = false ∧ (s.task.lheldV = true → s.task.lheldCore.toNat = s.curCore)
  let tensor : State → Nat → Desc → Prop := fun s t d =>
    let r := (s.coreAt s.curCore).tensors.get t {}
    r.holder = some s.task.key ∧ d = Desc.ofRecord r.data
  (∀ (s : State) (e : Ext), sound s [] [] [e.a.toNat] [e.d.toNat] →
    let a := src s e
    let into : Fmt → Machine.Num → Nat → Nat × Word := fun f v i => f.encode (.ofCode e.rnd.toNat) (dr s e i) e.sat v
    let exact : Machine.Num → Nat × Word := fun v => fp32.encode .rne 0 false v
    let clamped : Nat → Machine.Num → Nat → Nat × Word := fun w v i =>
      let r := encodeInt (-(2 ^ (w - 1) : Nat)) ((2 ^ (w - 1) : Nat) - 1) (.ofCode e.rnd.toNat) (dr s e i) e.sat v
      ((BitVec.ofInt w r.1).toNat, r.2)
    let int : Nat → Nat → Int := fun w c => (BitVec.ofNat w c).toInt
    gives (.vcvt .bf16F32 e) s e 16 32 (fun i => into bf16 (fp32.decode (a 32 i)) i) ∧
    gives (.vcvt .f16F32 e) s e 16 32 (fun i => into fp16 (fp32.decode (a 32 i)) i) ∧
    gives (.vcvt .f32Bf16 e) s e 32 32 (fun i => exact (bf16.decode (a 16 i))) ∧
    gives (.vcvt .f32F16 e) s e 32 32 (fun i => exact (fp16.decode (a 16 i))) ∧
    gives (.vcvt .i32F32 e) s e 32 32 (fun i => clamped 32 (fp32.decode (a 32 i)) i) ∧
    gives (.vcvt .f32I32 e) s e 32 32 (fun i => into fp32 (.ofInt (int 32 (a 32 i))) i) ∧
    gives (.vcvt .i8F32 e) s e 8 32 (fun i => clamped 8 (fp32.decode (a 32 i)) i) ∧
    gives (.vcvt .f32I8 e) s e 32 32 (fun i => exact (.ofInt (int 8 (a 8 i)))) ∧
    gives (.vcvt .bf16F16 e) s e 16 64 (fun i => into bf16 (fp16.decode (a 16 i)) i) ∧
    gives (.vcvt .f16Bf16 e) s e 16 64 (fun i => into fp16 (bf16.decode (a 16 i)) i) ∧
    gives (.vcvt .i8I32 e) s e 8 32 (fun i =>
      let r := encodeInt (-128) 127 .rne 0 e.sat (.ofInt (int 32 (a 32 i)))
      ((BitVec.ofInt 8 r.1).toNat, r.2)) ∧
    gives (.vcvt .i32I8 e) s e 32 32 (fun i => (((BitVec.ofNat 8 (a 8 i)).signExtend 32).toNat, 0)) ∧
    gives (.vcvt .i32Ui8 e) s e 32 32 (fun i => (a 8 i, 0))) ∧
  (∀ (s : State) (e : Ext) (d : Desc), sound s [] [] [e.a.toNat] [e.d.toNat] → loomHere s → tensor s e.b.toNat d →
    let a := src s e
    let into : Fmt → Machine.Num → Nat → Nat × Word := fun f v i => f.encode (.ofCode e.rnd.toNat) (dr s e i) e.sat v
    let bad : Instr → Prop := fun j => traps j s 9 0 0 (BitVec.ofNat 64 e.b.toNat)
    (if isB8 d.fmt then
      gives (.vcvt .b8F32 e) s e 8 32 (fun i => into (binary8 (d.fmt % 32)) ((fp32.decode (a 32 i)).scale (-d.sb)) i) ∧
      gives (.vcvt .f32B8 e) s e 32 32 (fun i => into fp32 (((binary8 (d.fmt % 32)).decode (a 8 i)).scale d.sb) i)
    else bad (.vcvt .b8F32 e) ∧ bad (.vcvt .f32B8 e)) ∧
    (if isK4 d.fmt then gives (.vcvt .b8K4 e) s e 8 128 (fun i => ((d.cb.extractLsb' (8 * a 4 i) 8).toNat, 0))
    else bad (.vcvt .b8K4 e))) ∧
  (∀ (s : State) (e : Ext) (b c : Desc), sound s [] [] [e.a.toNat] [e.d.toNat] → loomHere s → tensor s e.b.toNat b → tensor s e.c.toNat c →
    if isB8 b.fmt = true ∧ isB8 c.fmt = true then
      gives (.vrq e) s e 8 128 (fun i => (binary8 (c.fmt % 32)).encode (.ofCode e.rnd.toNat) (dr s e i) e.sat
        (((binary8 (b.fmt % 32)).decode (src s e 8 i)).scale (b.sb - c.sb)))
    else traps (.vrq e) s 9 0 0 (BitVec.ofNat 64 (if isB8 b.fmt then e.c.toNat else e.b.toNat))) ∧
  (∀ (s : State) (e : Ext), sound s [] [] [e.a.toNat] [e.d.toNat] → loomHere s →
    ((s.coreAt s.curCore).tensors.get e.b.toNat {}).holder ≠ some s.task.key →
    ∀ j ∈ [Instr.vcvt .b8F32 e, .vcvt .f32B8 e, .vcvt .b8K4 e, .vrq e], traps j s 9 0 0 (BitVec.ofNat 64 e.b.toNat))

/-- R182: `vldt` of a row in the own scratchpad turns the elements of the row from the position of its address into FP32 lanes, 32 or as
many as the row has left, the others +0; outside a timed event `vstt` writes the lanes over them in the tensor's format, rounded with
RND and SAT. A position outside the tensor raises a descriptor fault, also where the address is misaligned too: the order of these checks is
the model's choice (log entry 42). -/
def Obligations.TensorRows : Prop :=
  let loomHere : State → Prop := fun s => s.hasSaved = false ∧ (s.task.lheldV = true → s.task.lheldCore.toNat = s.curCore)
  let tensor : State → Nat → Desc → Prop := fun s t d =>
    let r := (s.coreAt s.curCore).tensors.get t {}
    r.holder = some s.task.key ∧ d = Desc.ofRecord r.data
  let elem : Desc → Nat → Nat → Word := fun d r c => BitVec.ofNat 64 (d.base + r * d.stride + c * elemBits d.fmt / 8)
  let starts : Desc → Word → Nat → Nat → Prop := fun d ea r c =>
    let off := (ea - BitVec.ofNat 64 d.base).toNat
    r = off / d.stride ∧ c * elemBits d.fmt = off % d.stride * 8 ∧ r < d.rows ∧ c < d.cols ∧ c % 32 = 0
  let exponent : State → Desc → Nat → Int := fun s d at' => if d.pl then (BitVec.ofNat 8 (s.ownBytesAt at' 1)).toInt else 0
  (∀ (s : State) (e : Ext) (d : Desc) (r c p : Nat) (off : Nat → Nat), sound s [e.a.toNat] [] [] [e.d.toNat] → allFull s e.syn → loomHere s →
    tensor s e.b.toNat d → (d.fmt ∈ [0, 1, 2] ∨ isB8 d.fmt = true ∨ isK4 d.fmt = true) →
    starts d (s.g e.a.toNat + e.imm.value) r c →
    let n := min 32 (d.cols - c)
    let bytes := max 1 (elemBits d.fmt / 8)
    (∀ i, i < n → ownAt s (s.task.space e.sp.toNat) (elem d r (c + i)) bytes (off i)) →
    (d.pl = true → ownAt s (s.task.space e.sp.toNat) (BitVec.ofNat 64 (d.plane + r * d.pstride + c / 64)) 1 p) →
    let code := fun i => if isK4 d.fmt then s.ownBytesAt (off i) 1 / 16 ^ (i % 2) % 16 else s.ownBytesAt (off i) bytes
    let lane := fun i => if n ≤ i then (0, 0) else if d.fmt = 0 then (code i, 0)
      else fp32.encode .rne 0 false (elemValue d.fmt d.sb d.cb (exponent s d p) (code i))
    ∃ x, readsV (.vldt e) s e.syn e.d.toNat x ((List.range 32).foldl (fun m i => m ||| (lane i).2) 0) e.words ∧
      ∀ i, i < 32 → (x.extractLsb' (32 * i) 32).toNat = (lane i).1) ∧
  (∀ (s : State) (e : Ext) (d : Desc) (r c p : Nat) (off : Nat → Nat), sound s [e.a.toNat] [] [e.c.toNat] [] → allFull s e.syn → loomHere s →
    tensor s e.b.toNat d → (d.fmt ∈ [0, 1, 2] ∨ isB8 d.fmt = true) → starts d (s.g e.a.toNat + e.imm.value) r c →
    s.task.inEvent = false → (e.ord.getLsbD 1 = true → s.drained = true) →
    let n := min 32 (d.cols - c)
    let bytes := elemBits d.fmt / 8
    (∀ i, i < n → ownAt s (s.task.space e.sp.toNat) (elem d r (c + i)) bytes (off i)) →
    (d.pl = true → ownAt s (s.task.space e.sp.toNat) (BitVec.ofNat 64 (d.plane + r * d.pstride + c / 64)) 1 p) →
    (∀ i j, i < j → j < n → off i + bytes ≤ off j ∨ off j + bytes ≤ off i) →
    let x := fun i => ((s.vreg e.c.toNat).extractLsb' (32 * i) 32).toNat
    let value := fun i => if isB8 d.fmt then (fp32.decode (x i)).scale (-(d.sb + exponent s d p)) else fp32.decode (x i)
    let into := if d.fmt = 1 then bf16 else if d.fmt = 2 then fp16 else binary8 (d.fmt % 32)
    let elt := fun i => if d.fmt = 0 then (x i, 0) else
      into.encode (.ofCode e.rnd.toNat) (if e.rnd = 4 then draw s.task.skey e.b.toNat (r * d.cols + c + i) else 0) e.sat (value i)
    ∃ t, exec (.vstt e) s = .next t ∧ (∀ q, t.g q = s.g q) ∧ (∀ q, t.vreg q = s.vreg q) ∧
      t.task.flags = s.task.flags ||| (List.range n).foldl (fun m i => m ||| (elt i).2) 0 ∧ t.task.skey = s.task.skey ∧
      t.task.pc = s.task.pc + BitVec.ofNat 64 (4 * e.words) ∧
      (∀ i, i < n → readBytes t.mem (sramKey s.curCore (off i)) bytes = (elt i).1) ∧
      ∀ a, (∀ i, i < n → a < sramKey s.curCore (off i) ∨ sramKey s.curCore (off i) + bytes ≤ a) → t.byteAt a = s.byteAt a) ∧
  (∀ (s : State) (e : Ext) (d : Desc), sound s [e.a.toNat] [] [e.c.toNat] [e.d.toNat] → allFull s e.syn → loomHere s → tensor s e.b.toNat d →
    d.fmt ∈ [0, 1, 2] → (¬ ∃ r c, starts d (s.g e.a.toNat + e.imm.value) r c) →
    traps (.vldt e) s 9 0 0 (BitVec.ofNat 64 e.b.toNat) ∧ traps (.vstt e) s 9 0 0 (BitVec.ofNat 64 e.b.toNat))

/-- R187, R194 to R197, R207, R210: with what it names free or held already, `tclaim` makes the task the holder of its slots, the
new ones empty; `acz` claims an accumulator and zeroes it; `tdef` claims a tensor identifier and gives it the record in the own scratchpad,
or takes a descriptor fault for a malformed one; a task without a save area takes a loom fault instead; `trel` gives up the slots of its
range; `acrd` reads half a row of an accumulator held; LOOM_CLAIM_RETRY ends the waits for a holder. -/
def Obligations.LoomResources : Prop :=
  let loomHere : State → Prop := fun s => s.hasSaved = false ∧ (s.task.lheldV = true → s.task.lheldCore.toNat = s.curCore)
  let mayHave : State → Res → Prop := fun s r => (s.coreAt s.curCore).holder r = none ∨ s.holds r = true
  let goesOn : Instr → State → Ext → (State → Prop) → Prop := fun j s e p =>
    ∃ t, exec j s = .next t ∧ t.mem = s.mem ∧ sameRegs s t ∧ t.task.pc = s.task.pc + BitVec.ofNat 64 (4 * e.words) ∧ p t
  (∀ (s : State) (e : Ext), loomHere s → s.task.lsave = 0 →
    traps (.tclaim e) s 8 0 0 0 ∧ traps (.acz e) s 8 0 0 0) ∧
  (∀ (s : State) (e : Ext), loomHere s → s.task.lsave ≠ 0 → (∀ i, i < e.imm.value.toNat → mayHave s (.slot (e.d.toNat + i))) →
    goesOn (.tclaim e) s e fun t =>
      t.task.lheldV = true ∧ t.task.lheldCore = BitVec.ofNat 8 s.curCore ∧
      ∀ n, (t.coreAt s.curCore).slots.get n {} =
        let x := (s.coreAt s.curCore).slots.get n {}
        if e.d.toNat ≤ n ∧ n < e.d.toNat + e.imm.value.toNat ∧ x.holder = none then { holder := some s.task.key } else x) ∧
  (∀ (s : State) (e : Ext), loomHere s → s.task.lsave ≠ 0 → mayHave s (.acc e.d.toNat) →
    goesOn (.acz e) s e fun t =>
      (t.coreAt s.curCore).accs.get e.d.toNat {} = { holder := some s.task.key } ∧
      ∀ n, n ≠ e.d.toNat → (t.coreAt s.curCore).accs.get n {} = (s.coreAt s.curCore).accs.get n {}) ∧
  (∀ (s : State) (e : Ext) (off : Nat), sound s [e.a.toNat] [] [] [] → allFull s e.syn → loomHere s → s.task.lsave ≠ 0 →
    mayHave s (.tid e.d.toNat) → ownAt s (s.task.space e.sp.toNat) (s.g e.a.toNat + e.imm.value) 64 off →
    let record := BitVec.ofNat 512 (s.ownBytesAt off 64)
    if (Desc.ofRecord record).refused = true then traps (.tdef e) s 9 0 0 (BitVec.ofNat 64 e.d.toNat)
    else goesOn (.tdef e) s e fun t =>
      (t.coreAt s.curCore).tensors.get e.d.toNat {} = { holder := some s.task.key, data := record } ∧
      ∀ n, n ≠ e.d.toNat → (t.coreAt s.curCore).tensors.get n {} = (s.coreAt s.curCore).tensors.get n {}) ∧
  (∀ (s : State) (e : Ext), s.task.lheldV = true → s.hasSaved = false →
    let h := s.task.lheldCore.toNat
    goesOn (.trel e) s e fun t =>
      (∀ i, i < e.imm.value.toNat → s.task.lheldSlots.getLsbD (e.a.toNat + i) = true →
        ((t.coreAt h).slots.get (e.a.toNat + i) {}).holder ≠ some s.task.key ∧ t.task.lheldSlots.getLsbD (e.a.toNat + i) = false) ∧
      (∀ n, (n < e.a.toNat ∨ e.a.toNat + e.imm.value.toNat ≤ n) →
        ((t.coreAt h).slots.get n {}).holder = ((s.coreAt h).slots.get n {}).holder ∧
        t.task.lheldSlots.getLsbD n = s.task.lheldSlots.getLsbD n) ∧
      t.agenda = s.agenda ++ [.loomClaimRetry h s.task.key]) ∧
  (∀ (s : State) (e : Ext), sound s [] [] [] [e.d.toNat] → loomHere s →
    let h := e.imm.value.toNat
    let data := ((s.coreAt s.curCore).accs.get e.a.toNat {}).data
    if s.holds (.acc e.a.toNat) = true then
      ∃ x, givesV (.acrd e) s [] e.d.toNat x 0 e.words ∧ ∀ i, i < 32 → x.extractLsb' (32 * i) 32 = data.get (64 * (h / 2) + 32 * (h % 2) + i) 0
    else traps (.acrd e) s 8 0 0 0) ∧
  (∀ (s : State) (core holder : Nat), ∃ t, exec (.loomClaimRetry core holder) s = .next t ∧ { t with ctxs := s.ctxs } = s ∧
    ∀ k, t.ctxAt k = if k / 16 = core ∧ ((s.ctxAt k).wait = .claim holder ∨ (s.ctxAt k).wait = .saved holder) ∧
      holder ≠ (s.ctxAt k).task.key then (s.ctxAt k).satisfy else s.ctxAt k)

/-- R198, R199, R202, R204, R208, R209: a loom command that passes its issue checks enters the core's queue of two and parks its context
with PARKWHY 3, PC and every register as before; without what it names it takes a loom fault or a descriptor fault. -/
def Obligations.LoomCommandsEnter : Prop :=
  let loomHere : State → Prop := fun s => s.hasSaved = false ∧ (s.task.lheldV = true → s.task.lheldCore.toNat = s.curCore)
  let room : State → Prop := fun s => s.passed = 0 ∧ (s.coreAt s.curCore).loomq.length < 2 ∧ s.me.state ≠ .stopped
  let tensor : State → Nat → Desc → Prop := fun s t d =>
    let r := (s.coreAt s.curCore).tensors.get t {}
    r.holder = some s.task.key ∧ d = Desc.ofRecord r.data
  let enters : Instr → State → Ext → LoomCmd → Prop := fun j s e q =>
    ∃ t, exec j s = .next t ∧ t.mem = s.mem ∧ sameRegs s t ∧ t.task.pc = s.task.pc ∧ t.me.state = .parked ∧ t.me.parkwhy = 3 ∧
      t.me.wait = .loomCmd (s.pkg.serial + 1) e.words ∧
      (t.coreAt s.curCore).loomq = (s.coreAt s.curCore).loomq ++ [{ q with serial := s.pkg.serial + 1, ctx := s.curCtx, words := e.words }] ∧
      Instr.loomCmdStart (coreId s.curCore) ∈ t.agenda
  let blank : LoomCmd := { serial := 0, ctx := 0, op := .mma, d := 0, a := 0, b := 0, sel := 0, ea := 0, ord := false, scope := 0, ty := 0, rnd := 0, sat := false, words := 0 }
  let far : State → Ext → Word := fun s e => s.g e.a.toNat + e.imm.value
  (∀ (s : State) (e : Ext), loomHere s → room s → s.task.tokHeld ≠ 0 →
    if s.holds (.acc e.d.toNat) && s.tileHeld e.a.toNat && s.tileHeld e.b.toNat then
      enters (.mma e) s e { blank with op := .mma, d := e.d.toNat, a := e.a.toNat, b := e.b.toNat }
    else traps (.mma e) s 8 0 0 0) ∧
  (∀ (s : State) (e : Ext) (d : Desc), sound s [e.a.toNat] [] [] [] → allFull s e.syn → loomHere s → room s → tensor s e.b.toNat d →
    if tileFormats d.fmt = false then traps (.tld e) s 9 0 0 (BitVec.ofNat 64 e.b.toNat)
    else if s.holds (.slot e.d.toNat) = false ∨ (elemBits d.fmt = 16 ∧ (14 < e.d.toNat ∨ s.holds (.slot (e.d.toNat + 1)) = false)) then
      traps (.tld e) s 8 0 0 0
    else if d.tileStart (far s e) = none then traps (.tld e) s 9 0 0 (BitVec.ofNat 64 e.b.toNat)
    else enters (.tld e) s e { blank with
        op := .tld, d := e.d.toNat, b := e.b.toNat, sel := s.task.space e.sp.toNat, ea := far s e
        ord := e.ord.getLsbD 0, scope := e.scope.toNat }) ∧
  (∀ (s : State) (e : Ext) (d : Desc) (r c : Nat), sound s [e.c.toNat] [] [] [] → allFull s e.syn → loomHere s → room s →
    s.task.tokHeld ≠ 0 → tensor s e.b.toNat d → tileFormats d.fmt = true → d.tileStart (s.g e.c.toNat) = some (r, c) →
    s.holds (.acc e.d.toNat) = true →
    let n := d.slices c
    let w := s.widthA e.a.toNat
    if e.a.toNat + w * n ≤ 16 ∧ (∀ j, j < n → s.tileHeld (e.a.toNat + w * j) = true) then
      s.streamMiss (s.task.space e.sp.toNat) d r c = none →
      enters (.mmam e) s e { blank with
        op := .mmam, d := e.d.toNat, a := e.a.toNat, b := e.b.toNat, sel := s.task.space e.sp.toNat, ea := s.g e.c.toNat }
    else traps (.mmam e) s 8 0 0 0) ∧
  (∀ (s : State) (e : Ext), sound s [e.a.toNat] [] [] [] → allFull s e.syn → loomHere s → room s → s.task.lsave ≠ 0 →
    s.holds (.acc e.d.toNat) = true →
    enters (.acld e) s e { blank with
      op := .acld, d := e.d.toNat, sel := s.task.space e.sp.toNat, ea := far s e, ord := e.ord.getLsbD 0, scope := e.scope.toNat }) ∧
  (∀ (s : State) (e : Ext), sound s [e.a.toNat] [] [] [] → allFull s e.syn → loomHere s → room s →
    ∀ p ∈ ([(.f32, 0), (.bf16, 1), (.f16, 2)] : List (LaneTy × Nat)),
      if s.holds (.acc e.c.toNat) = true then
        enters (.acst p.1 e) s e { blank with
          op := .acst, d := e.c.toNat, sel := s.task.space e.sp.toNat, ea := far s e
          ord := e.ord.getLsbD 1, scope := e.scope.toNat, ty := p.2, rnd := e.rnd.toNat, sat := e.sat }
      else traps (.acst p.1 e) s 8 0 0 0)

/-- R199 to R205, R208, R209: the loom's queue. LOOM_CMD_START starts the only command once its order is met; LOOM_CMD_DONE gives a
finished one its effect, PC moves past it and its context is READY: `mma` adds A times the transpose of B to the accumulator, element by
element in four rounded groups of sixteen exact products; `tld`, `acld` and `acst` move a tile, an accumulator, and rounded results, here
from and to the own scratchpad. MMAM_SLICE_DONE adds one slice and goes on to the next.

R203: one element of a product: the four groups of sixteen products are each summed exactly, added to the accumulator and rounded once
to nearest, in order. For finite values with no zero sums the group's sum is the exact sum. -/
def Obligations.LoomCommandsRun : Prop :=
  (
    let ended : State → State → Nat → LoomCmd → Prop := fun s t k q =>
      (t.ctxAt k).state = .ready ∧ (t.ctxAt k).task.pc = (s.ctxAt k).task.pc + BitVec.ofNat 64 (4 * q.words) ∧
        (t.ctxAt k).task.g = (s.ctxAt k).task.g ∧ (t.ctxAt k).task.v = (s.ctxAt k).task.v ∧ (t.coreAt (k / 16)).loomq = []
    let inOwn : State → Nat → LoomCmd → Word → Nat → Nat → Prop := fun s k q ea n off =>
      (s.coreAt (k / 16)).copies = [] ∧ spaceOf (k / 16) q.sel.toNat = some (.scratch (k / 16)) ∧
        ea.toNat + n ≤ 2 ^ 64 ∧
        ∃ a, s.alloc (k / 16) (s.ctxAt k).task.procid.toNat = some a ∧ ea.toNat + n ≤ a.size ∧ off = a.base + ea.toNat
    let bytes : State → Nat → Nat → Nat → Nat := fun s core off n => readBytes s.mem (sramKey core off) n
    (∀ (s : State) (core : CoreId) (q : LoomCmd),
      let k := ctxKey core.toNat q.ctx
      (s.coreAt core.toNat).loomq = [q] → q.started = false → (s.ctxAt k).state ≠ .stopped →
      (q.op = .mma → ∃ t, exec (.loomCmdStart core) s = .next t ∧ t.mem = s.mem ∧ t.ctxs = s.ctxs ∧
        (t.coreAt core.toNat).loomq = [{ q with started := true }] ∧ t.agenda = s.agenda ++ [.loomCmdDone core q.serial]) ∧
      (q.op = .mmam → (s.ctxAt k).task.storecnt = 0 → (s.ctxAt k).task.pend = 0 → (s.ctxAt k).task.progV = false →
        ∃ t, exec (.loomCmdStart core) s = .next t ∧ t.mem = s.mem ∧
          (t.coreAt core.toNat).loomq = [{ q with started := true, next := 0 }] ∧ t.agenda = s.agenda ++ [.mmamSliceDone core q.serial]) ∧
      ((q.op = .tld ∨ q.op = .acld) → (s.ctxAt k).task.storecnt = 0 → (s.ctxAt k).task.pend = 0 → ∀ es, ({ s with cur := k }).cmdAccs core.toNat q = .ok es →
        ∃ t, exec (.loomCmdStart core) s = .next t ∧ t.mem = s.mem ∧
          (t.coreAt core.toNat).loomq = [{ q with started := true, accs := es }] ∧
          t.agenda = s.agenda ++ [.loomCmdDone core q.serial])) ∧
    (∀ (s : State) (core : CoreId) (q : LoomCmd), q.ctx < 16 →
      let k := ctxKey core.toNat q.ctx
      let c := s.coreAt core.toNat
      c.loomq = [q] → q.op = .mma → (s.ctxAt k).state = .parked →
      ∃ t, exec (.loomCmdDone core q.serial) s = .next t ∧ t.mem = s.mem ∧ ended s t k q ∧ (t.coreAt core.toNat).slots = c.slots ∧
        (∀ i, i < 4096 → ((t.coreAt core.toNat).accs.get q.d {}).data.get i 0 =
          (productElem (c.slots.get q.a {}) (c.slots.get q.b {}) (i / 64) (i % 64) ((c.accs.get q.d {}).data.get i 0)).1) ∧
        (t.ctxAt k).task.flags = (List.range 4096).foldl (fun f i => f |||
          (productElem (c.slots.get q.a {}) (c.slots.get q.b {}) (i / 64) (i % 64) ((c.accs.get q.d {}).data.get i 0)).2) (s.ctxAt k).task.flags ∧
        ∀ n, n ≠ q.d → (t.coreAt core.toNat).accs.get n {} = c.accs.get n {}) ∧
    (∀ (s : State) (core : CoreId) (q : LoomCmd) (d : Desc) (r c : Nat) (off : Nat → Nat), q.ctx < 16 →
      let k := ctxKey core.toNat q.ctx
      (s.coreAt core.toNat).loomq = [q] → q.op = .tld → q.ord = false → (s.ctxAt k).state = .parked →
      d = Desc.ofRecord ((s.coreAt core.toNat).tensors.get q.b {}).data → tileFormats d.fmt = true → d.pl = false →
      d.tileStart q.ea = some (r, c) →
      let x := tileAt d r c
      (∀ i, i < x.vr → inOwn s k q (d.offset (r + i) c) x.rowLen (off i)) → ({ s with cur := k }).cmdAccs core.toNat q = .ok q.accs →
      ∃ t, exec (.loomCmdDone core q.serial) s = .next t ∧ t.mem = s.mem ∧ ended s t k q ∧
        let y := (t.coreAt core.toNat).slots.get q.d {}
        y.holder = some (s.ctxAt k).task.key ∧ y.state = 1 ∧ y.fmt = d.fmt ∧ y.vr = min 64 (d.rows - r) ∧ y.vc = min 64 (d.cols - c) ∧
        ∀ i j, i < y.vr → j < y.vc → (y.data.get (64 * i + j) 0).toNat =
          bytes s core.toNat (off i) x.rowLen / 2 ^ (elemBits d.fmt * j) % 2 ^ elemBits d.fmt) ∧
    (∀ (s : State) (core : CoreId) (q : LoomCmd) (off : Nat), q.ctx < 16 →
      let k := ctxKey core.toNat q.ctx
      (s.coreAt core.toNat).loomq = [q] → q.op = .acld → q.ord = false → (s.ctxAt k).state = .parked → q.ea.toNat % 4 = 0 →
      inOwn s k q q.ea 16384 off → ({ s with cur := k }).cmdAccs core.toNat q = .ok q.accs →
      ∃ t, exec (.loomCmdDone core q.serial) s = .next t ∧ t.mem = s.mem ∧ ended s t k q ∧
        ∀ i, i < 4096 → ((t.coreAt core.toNat).accs.get q.d {}).data.get i 0 = BitVec.ofNat 32 (bytes s core.toNat (off + 4 * i) 4)) ∧
    (∀ (s : State) (core : CoreId) (q : LoomCmd) (off : Nat), q.ctx < 16 →
      let k := ctxKey core.toNat q.ctx
      let n := if q.ty = 0 then 4 else 2
      (s.coreAt core.toNat).loomq = [q] → q.op = .acst → (s.ctxAt k).state = .parked → (s.ctxAt k).wait = .loomCmd q.serial q.words →
      q.ea.toNat % n = 0 → inOwn s k q q.ea (4096 * n) off → ({ s with cur := k }).cmdAccs core.toNat q = .ok q.accs →
      q.next = 0 → s.engineWaits core.toNat q.serial = false →
      ∃ t, exec (.loomCmdDone core q.serial) s = .next t ∧ ended s t k q ∧
        (t.ctxAt k).task.skey = (if q.rnd = 4 then (s.ctxAt k).task.skey + 1 else (s.ctxAt k).task.skey) ∧
        (∀ a, (a < sramKey core.toNat off ∨ sramKey core.toNat off + 4096 * n ≤ a) → t.byteAt a = s.byteAt a) ∧
        ∀ i, i < 4096 →
          let v := ((s.coreAt core.toNat).accs.get q.d {}).data.get i 0
          bytes t core.toNat (off + n * i) n = if q.ty = 0 then v.toNat else
            ((if q.ty = 1 then bf16 else fp16).encode (.ofCode q.rnd) (if q.rnd = 4 then draw (s.ctxAt k).task.skey 64 i else 0) q.sat (fp32.decode v.toNat)).1) ∧
    (∀ (s u : State) (core : CoreId) (q : LoomCmd) (x : Tile) (y : Slot), q.ctx < 16 →
      let k := ctxKey core.toNat q.ctx
      (s.coreAt core.toNat).loomq = [q] → q.op = .mmam → (s.ctxAt k).state = .parked → (s.ctxAt k).preempt = false → s.cur = k →
      q.next < s.cmdSlices core.toNat q →
      s.cmdSlice core.toNat q q.next = some x → s.readSlice core.toNat (s.ctxAt k).task.key q x = .ok (.ok y u) →
      u.coreAt core.toNat = s.coreAt core.toNat → u.ctxAt k = s.ctxAt k → u.cur = k →
      ∃ t, exec (.mmamSliceDone core q.serial) s = .next t ∧ t.mem = u.mem ∧
        let c := s.coreAt core.toNat
        let a := c.slots.get q.a {}
        let w := if a.fmt = 1 ∨ a.fmt = 2 then 2 else 1
        (∀ i, i < 4096 → ((t.coreAt core.toNat).accs.get q.d {}).data.get i 0 =
          (productElem (c.slots.get (q.a + w * q.next) {}) y (i / 64) (i % 64) ((c.accs.get q.d {}).data.get i 0)).1) ∧
        if s.cmdSlices core.toNat q ≤ q.next + 1 then ended s t k q
        else (t.coreAt core.toNat).loomq = [{ q with next := q.next + 1 }] ∧ Instr.mmamSliceDone core q.serial ∈ t.agenda ∧
          (t.ctxAt k).state = .parked)) ∧
  (
    ∀ (a b : Slot) (m n : Nat) (acc : BitVec 32),
      let p : Nat → Machine.Num := fun k => ((a.val m k).mul (b.val n k)).1
      let group : Nat → Machine.Num := fun g => (List.range 16).foldl (fun z i => (z.add (p (16 * g + i)) false).1) (.dy false 0 0)
      let step : BitVec 32 → Nat → BitVec 32 := fun c g =>
        BitVec.ofNat 32 (fp32.encode .rne 0 false ((fp32.decode c.toNat).add (group g) false).1).1
      (∀ k, k < 64 → (p k).isNan = false ∧ (p k).isInf = false) → (∀ g, g < 4 → (group g).isZero = false) →
      (productElem a b m n acc).1 = step (step (step (step acc 0) 1) 2) 3)

/-- R190: a recall moves everything that the task holds on its holding core into its save area, frees it, clears HV and makes the context
READY; a restore gives the task again all that its save area holds, on its own core, and empties the save area. No byte of memory
changes but in lines that the save area gives what is moved, and in that of SAVEDR and SAVEDT. The pages of the save area are translated by
the caches of the loom's core; how the area is laid out and read is the model's choice (log entry 18). -/
def Obligations.LoomRecallRestore : Prop :=
  let elsewhere : State → Nat → Saved → List Res → Nat → Prop := fun s h a rs y =>
    ∀ o n, ((o, n) = (0, 16) ∨ ∃ r ∈ rs, ∃ x ∈ a.lines r, (o, n) = (x.1, 64)) → ∀ p, s.savePlace h a o = some p →
      (y < p ∨ p + n ≤ y) ∧ lineOf y ≠ lineOf p
  let mapped : State → Nat → Saved → List Res → Prop := fun s h a rs =>
    a.lsave.toNat % 4096 = 0 ∧ ∀ o, (o = 0 ∨ ∃ r ∈ rs, o ∈ r.pages) →
      ∃ x, s.cached h a.procid true (a.lsave.toNat + o) = some x ∧ x.r = true ∧ x.w = true
  (∀ (s : State) (core : CoreId) (ctx : CtxId) (a : Saved),
    let k := ctxKey core.toNat ctx.toNat
    let x := s.ctxAt k
    let h := x.task.lheldCore.toNat
    x.state = .parked → x.wait = .loomRecall → s.pkg.saves.find x.task.key = some a → h ≠ core.toNat →
    Store.sorted (s.coreAt h).slots = true → Store.sorted (s.coreAt h).accs = true → Store.sorted (s.coreAt h).tensors = true →
    mapped s h a ((s.coreAt h).heldBy x.task.key) →
    ∃ t b, exec (.loomRecallDone core ctx) s = .next t ∧
      (∀ y, elsewhere s h a ((s.coreAt h).heldBy x.task.key) y → t.byteAt y = s.byteAt y) ∧ (t.ctxAt k).state = .ready ∧ (t.ctxAt k).task = { x.task with lheldV := false } ∧
      t.pkg.saves.find x.task.key = some b ∧
      (∀ n, ((s.coreAt h).slots.get n {}).holder = some x.task.key → b.slots.get n {} = (s.coreAt h).slots.get n {}) ∧
      (∀ n, ((s.coreAt h).accs.get n {}).holder = some x.task.key → b.accs.get n {} = (s.coreAt h).accs.get n {}) ∧
      (∀ n, ((s.coreAt h).tensors.get n {}).holder = some x.task.key → b.tensors.get n {} = (s.coreAt h).tensors.get n {}) ∧
      ∀ r, (t.coreAt h).holder r = if (s.coreAt h).holder r = some x.task.key then none else (s.coreAt h).holder r) ∧
  (∀ (s u : State) (core : CoreId) (ctx : CtxId) (a : Saved),
    let k := ctxKey core.toNat ctx.toNat
    let x := s.ctxAt k
    let c := s.coreAt core.toNat
    x.state = .parked → x.wait = .loomRestore → s.pkg.saves.find x.task.key = some a →
    Store.sorted a.slots = true → Store.sorted a.accs = true → Store.sorted a.tensors = true →
    mapped s core.toNat a a.all → (∀ r ∈ a.all, c.holder r = none) → ({ s with cur := k }).saveKeptAll core.toNat a a.pieces = .ok true u →
    u.mem = s.mem → u.ctxs = s.ctxs → u.pkg.saves = s.pkg.saves → mapped u core.toNat a a.all → u.cur = k →
    ((u.coreAt core.toNat).slots, (u.coreAt core.toNat).accs, (u.coreAt core.toNat).tensors) = (c.slots, c.accs, c.tensors) →
    ∃ t, exec (.loomRestoreDone core ctx) s = .next t ∧ (∀ y, elsewhere s core.toNat a [] y → t.byteAt y = s.byteAt y) ∧ (t.ctxAt k).state = .ready ∧
      (t.ctxAt k).task = { x.task with lheldCore := core, lheldV := true } ∧
      t.pkg.saves.find x.task.key = some { a with slots := [], accs := [], tensors := [] } ∧
      (∀ n y, a.slots.find n = some y → (t.coreAt core.toNat).slots.find n = some { y with holder := some x.task.key }) ∧
      (∀ n y, a.accs.find n = some y → (t.coreAt core.toNat).accs.find n = some { y with holder := some x.task.key }) ∧
      ∀ n y, a.tensors.find n = some y → (t.coreAt core.toNat).tensors.find n = some { y with holder := some x.task.key })

/-- R224, R225, R232, R234 to R236, R239: outside a timed event the copy instructions complete and change no register but the D of `xstat`
and `wsref`: `xdef` puts a record of the own scratchpad at its template, or
waits until a home on another die has it; `xfer` enters a resolved command for a channel; `xwait` ends
on a channel that is not the process's or at rest, with the copy fault of a faulted one, and otherwise parks with PARKWHY 11; `xcan` withdraws
every copy of its channel, and a translation fault of it that waits to be reported; `xpub` makes each shadow of its range the frame of the granule's pages. -/
def Obligations.CopyInstructions : Prop :=
  let goesOn : Instr → State → Ext → (State → Prop) → Prop := fun j s e p =>
    ∃ t, exec j s = .next t ∧ sameRegs s t ∧ t.task.pc = s.task.pc + BitVec.ofNat 64 (4 * e.words) ∧ p t
  let mine : State → Nat → Prop := fun s ch =>
    let y := (s.coreAt s.curCore).chans.get ch {}
    y.v = true ∧ y.procid = s.task.procid.toNat
  (∀ (s : State) (e : Ext) (off pa : Nat) (a : Word), sound s [e.a.toNat, e.c.toNat] [] [] [] → allFull s e.syn → s.task.inEvent = false →
    (s.g e.c.toNat).toNat ≤ 255 → s.templateAt s.task.procid.toNat (s.g e.c.toNat).toNat = some a →
    ownAt s (s.task.space e.sp.toNat) (s.g e.a.toNat + e.imm.value) 64 off →
    s.locate ⟨s.curCore, s.task.procid.toNat, true⟩ .store 1 a 64 = .ok (.mem pa) → s.backed pa = true →
    isPeerMem pa = false → isPeerRegs pa = false → (∀ p, s.hostState (lineOf pa) p = 0) →
    s.tableOwned s.curCore s.task.procid.toNat true a.toNat = none → (s.dieAt (dieOf s.curCore)).wrapHold = false →
    s.needWrap (dieOf s.curCore) = false → s.outboundFull (dieOf s.curCore) = false → (s.dieAt (dieOf s.curCore)).heldWrites = [] →
    s.engineWaits s.curCore (s.pkg.serial + 1) = false → s.me.state ≠ .stopped →
    let record := BitVec.ofNat 512 (s.ownBytesAt off 64)
    if (Template.ofRecord record).refused = true then traps (.xdef e) s 10 3 0 (s.g e.c.toNat)
    else if homeDie pa = dieOf s.curCore then goesOn (.xdef e) s e fun t => storedAt s t pa 64 record.toNat
    else ∃ t, exec (.xdef e) s = .next t ∧ sameRegs s t ∧ t.mem = s.mem ∧ t.task.pc = s.task.pc ∧ t.me.state = .parked ∧ t.me.parkwhy = 1 ∧
      t.me.wait = .xcan (s.pkg.serial + 1) e.words ∧
      ∃ o ∈ (t.dieAt (dieOf s.curCore)).outbound, o.owner = s.pkg.serial + 1 ∧ o.pa = pa ∧ o.size = 64 ∧ o.value = record.toNat) ∧
  (∀ (s : State) (e : Ext) (a : Word) (r : BitVec 512), sound s [e.a.toNat, e.b.toNat] [] [] [] → allFull s e.syn → s.task.inEvent = false →
    let c := s.coreAt s.curCore
    let y := c.chans.get e.d.toNat {}
    let idx := (s.g e.a.toNat).toNat
    let t0 := Template.ofRecord r
    let tm := t0.resolve (s.g e.b.toNat)
    (c.copies.filter fun x => !x.running).length < 4 → idx ≤ 255 → s.templateAt s.task.procid.toNat idx = some a →
    (y.v = true ∧ y.procid ≠ s.task.procid.toNat → traps (.xfer e) s 10 1 0 (s.g e.a.toNat)) ∧
    (∀ u, (y.v = true → y.procid = s.task.procid.toNat) → (s.empty e.syn).xferRecord a = some (.ok r u) →
      u.mem = s.mem → u.ctxs = (s.empty e.syn).ctxs → u.cur = s.cur → u.coreAt s.curCore = { u.coreAt s.curCore with copies := c.copies, chans := c.chans } →
      if t0.refused = true then traps (.xfer e) s 10 3 0 (s.g e.a.toNat)
      else match u.startCheck s.curCore s.task.procid.toNat tm with
        | some cause => traps (.xfer e) s 10 cause 0 (s.g e.a.toNat)
        | none => goesOn (.xfer e) s e fun t => t.mem = s.mem ∧
            ∃ x : Copy, (t.coreAt s.curCore).copies = c.copies ++ [x] ∧ x.ch = e.d.toNat ∧ x.procid = s.task.procid.toNat ∧ x.tindex = idx ∧
              x.ssel = tm.ssel ∧ x.dsel = tm.dsel ∧ x.src = tm.src ∧ x.dst = tm.dst ∧ x.rowbytes = tm.rowbytes ∧ x.rows = tm.rows ∧
              x.sstride = tm.sstride ∧ x.dstride = tm.dstride ∧ x.running = false ∧ x.pos = 0 ∧
              ((t.coreAt s.curCore).chans.get e.d.toNat {}).v = true ∧
              ((t.coreAt s.curCore).chans.get e.d.toNat {}).procid = s.task.procid.toNat ∧ Instr.copyStart (coreId s.curCore) ∈ t.agenda)) ∧
  (∀ (s : State) (e : Ext), s.task.inEvent = false → ¬ mine s e.a.toNat → goesOn (.xwait e) s e fun t => t.mem = s.mem) ∧
  (∀ (s : State) (e : Ext), s.task.inEvent = false → mine s e.a.toNat → s.me.state ≠ .stopped →
    let c := s.coreAt s.curCore
    let y := c.chans.get e.a.toNat {}
    ((∃ x ∈ c.copies, x.ch = e.a.toNat) → parksFor (.xwait e) s [] 11 (.channel e.a.toNat e.words) []) ∧
    ((∀ x ∈ c.copies, x.ch ≠ e.a.toNat) → (y.state = 0 ∨ y.state = 5) → goesOn (.xwait e) s e fun t => t.mem = s.mem) ∧
    ((∀ x ∈ c.copies, x.ch ≠ e.a.toNat) → y.state = 4 → ∃ t, exec (.xwait e) s = .next t ∧ t.mem = s.mem ∧
      t.task.epc = s.task.pc &&& ~~~3#64 ∧ t.task.ecause.extractLsb' 0 16 = BitVec.ofNat 16 (10 + 256 * (y.cause % 256)) ∧
      t.task.einfo = BitVec.ofNat 64 y.tindex ∧ ((t.coreAt s.curCore).chans.get e.a.toNat {}).state = 0)) ∧
  (∀ (s : State) (e : Ext), sound s [] [e.d.toNat] [] [] →
    let c := s.coreAt s.curCore
    let y := c.chans.get e.a.toNat {}
    givesG (.xstat e) s [] e.d.toNat
      (if y.v = false then 0 else if y.procid ≠ s.task.procid.toNat then 7 else
        BitVec.ofNat 64 (y.state + 256 * y.cause + 2 ^ 16 * (c.copies.filter fun x => x.ch = e.a.toNat && !x.running).length + 2 ^ 24 * y.tindex +
          2 ^ 32 * y.done.toNat)) e.words) ∧
  (∀ (s : State) (e : Ext), s.task.inEvent = false → ¬ mine s e.a.toNat → goesTo (.xcan e) s [] (s.task.pc + BitVec.ofNat 64 (4 * e.words))) ∧
  (∀ (s : State) (e : Ext), s.task.inEvent = false → mine s e.a.toNat → (∀ k, ∀ w, (s.ctxAt k).wait ≠ .channel e.a.toNat w) →
    (∀ x ∈ (s.coreAt s.curCore).copies, x.ch = e.a.toNat → s.engineWaits s.curCore x.serial = false) →
    (∀ x ∈ s.ctxs, ∀ p b n m w, x.2.wait ≠ .publish p b n m w) →
    goesOn (.xcan e) s e fun t => t.mem = s.mem ∧ ((t.coreAt s.curCore).chans.get e.a.toNat {}).state = 5 ∧
      (t.coreAt s.curCore).copies = ((s.coreAt s.curCore).copies.filter fun x => x.ch ≠ e.a.toNat) ∧
      t.pkg.records = s.pkg.records.filter fun r => !(r.kind = 4 && r.core = s.curCore && r.unit = e.a.toNat)) ∧
  (∀ (s : State) (e : Ext) (es : List Acc), sound s [e.a.toNat, e.b.toNat] [] [] [] → allFull s e.syn → s.task.inEvent = false → s.drained = true →
    let sel := s.task.space e.sp.toNat
    let ea := s.g e.a.toNat + e.imm.value
    let n := (s.g e.b.toNat).toNat
    sel.toNat ≤ 1 → ea.toNat % 65536 = 0 → n ≤ 16384 →
    s.checkAll .store sel 1 1 ((List.range (16 * n)).map fun i => ea + BitVec.ofNat 64 (4096 * i)) = .ok es →
    s.cores.all (fun c => c.2.copies.all fun x => !x.shadow) = true →
    (s.shadowsIn s.task.procid.toNat (sel = 1) ea.toNat n = [] → goesOn (.xpub e) s e fun t => t.mem = s.mem ∧ t.pkg.remap = s.pkg.remap) ∧
    (∀ k f, s.shadowsIn s.task.procid.toNat (sel = 1) ea.toNat n = [(k, f)] → f % 65536 = 0 → s.writesFrame f = false →
      let pages := s.granulePages s.task.procid.toNat k
      (pages.map (·.2)).Nodup →
      goesOn (.xpub e) s e fun t => t.mem = s.mem ∧ (∀ x ∈ pages, t.frame x.2 = f + x.1) ∧
        (∀ a, (∀ x ∈ pages, a / 4096 ≠ x.2 / 4096) → t.frame a = s.frame a) ∧
        (t.process s.task.procid.toNat).shadows.find k = none)) ∧
  (∀ (s : State) (d : BitVec 7) (e : Ext), sound s [] [d.toNat, e.d.toNat] [] [] →
    let die := s.dieAt (dieOf s.curCore)
    let p := die.real % 44800
    let f := fun n => if die.hold then (n + 1) / 2 else n
    let v := if p % 1400 < 700 then f (1400 - p % 1400) * 2 ^ 32 + f (700 - p % 1400) * 2 ^ 16 + 32 + p / 1400
      else f (1400 - p % 1400) * 2 ^ 32 + (p / 1400 + 1) % 32
    givesG (.wsref d) s [] d.toNat (BitVec.ofNat 64 v) 1 ∧ givesG (.wsrefX e) s [] e.d.toNat (BitVec.ofNat 64 v) e.words)

/-- R220, R229, R230, R240: COPY_START sets the only command running; COPY_LINE_WRITTEN moves its next piece, here from a weight store
outside a refresh window into the own scratchpad, changing exactly those bytes, and goes on until the copy completes; COPY_TFAULT makes the channel
wait with one record of KIND 4; COPY_RUN_FAULT stops the channel with one record of KIND 5, and withdraws one of KIND 4 that waits. The order of the
pieces is the model's choice (log entry 35). -/
def Obligations.CopyEngine : Prop :=
  (∀ (s : State) (core : CoreId) (x : Copy), (s.coreAt core.toNat).copies = [x] → x.running = false → x.after = [] → x.shadow = false →
    s.coreHalted core.toNat = false →
    ∃ t, exec (.copyStart core) s = .next t ∧ t.mem = s.mem ∧ (t.coreAt core.toNat).copies = [{ x with running := true }] ∧
      ((t.coreAt core.toNat).chans.get x.ch {}).state = 2 ∧ t.agenda = s.agenda ++ [.copyLineWritten core x.serial]) ∧
  (∀ (s : State) (core : CoreId) (x : Copy) (d o p : Nat), (s.coreAt core.toNat).copies = [x] → x.running = true → x.tfault = false →
    s.coreHalted core.toNat = false →
    let q := x.piece
    s.locate ⟨core.toNat, x.procid, true⟩ .load x.ssel q.1 q.2.2 = .ok (.weight d o) →
    s.locate ⟨core.toNat, x.procid, true⟩ .store x.dsel q.2.1 q.2.2 = .ok (.scratch core.toNat p) →
    s.refreshing d (o / 2 ^ 26) = false →
    ∃ t, exec (.copyLineWritten core x.serial) s = .next t ∧
      storedAt s t (sramKey core.toNat p) q.2.2 (readBytes s.mem (weightKey d o) q.2.2) ∧
      (∃ y : Copy, (t.coreAt core.toNat).copies = [y] ∧ { y with pos := x.pos, wm := x.wm } = x ∧ y.pos = x.pos + q.2.2) ∧
      if x.rowbytes * x.rows ≤ x.pos + q.2.2 then Instr.copyComplete core x.serial ∈ t.agenda
      else Instr.copyLineWritten core x.serial ∈ t.agenda) ∧
  (∀ (s : State) (core : CoreId) (x : Copy) (sel : BitVec 16) (off : Word) (w : Bool), (s.coreAt core.toNat).copies = [x] → x.running = true →
    ∃ t r, exec (.copyTfault core x.serial sel off w) s = .next t ∧ t.mem = s.mem ∧ ((t.coreAt core.toNat).chans.get x.ch {}).state = 3 ∧
      (t.coreAt core.toNat).copies = [{ x with tfault := true }] ∧ t.pkg.records = s.pkg.records ++ [r] ∧
      r.kind = 4 ∧ r.w = w ∧ r.procid = x.procid ∧ r.core = core.toNat ∧ r.unit = x.ch ∧ r.info = off ∧ r.sel = sel) ∧
  (∀ (s : State) (core : CoreId) (x : Copy) (cause : Nat), (s.coreAt core.toNat).copies = [x] → x.running = true → x.walker = none →
    (∀ k, ∀ w, (s.ctxAt k).wait ≠ .channel x.ch w) → (∀ x ∈ s.ctxs, ∀ p b n m w, x.2.wait ≠ .publish p b n m w) →
    ∃ t r, exec (.copyRunFault core x.serial cause) s = .next t ∧ t.mem = s.mem ∧ (t.coreAt core.toNat).copies = [] ∧
      ((t.coreAt core.toNat).chans.get x.ch {}).state = 4 ∧ ((t.coreAt core.toNat).chans.get x.ch {}).cause = cause ∧
      t.pkg.records = (s.pkg.records.filter fun r => !(r.kind = 4 && r.core = core.toNat && r.unit = x.ch)) ++ [r] ∧ r.kind = 5 ∧ r.cause = cause ∧ r.unit = x.ch ∧ r.info = BitVec.ofNat 64 x.tindex)

/-- R274 to R279, R410, R414, R415: a counter of the own core bound to the process is read by `mrd`, waited for by `mwait` with PARKWHY 7
until it reaches its target, and set by `mset`; any other raises a message fault, and `post` outside the mailbox space a space fault;
a `post` with nothing before it is sent, counted in STORECNT, and POST_ARRIVE adds it to a counter that serves the process or reports
it; MWAIT_WAKE ends the waits that are met; from READY the register writes bind a counter and set its interrupt. A number above 63 is illegal
(R279). That the SEL of a post's space fault is 0x3000, and the PROCID of a post's record, are the model's choice (log entry 26). -/
def Obligations.MailboxCounters : Prop :=
  let counter : State → Nat → Nat → Counter := fun s core m => (s.coreAt core).counters.get m {}
  let met : BitVec 32 → BitVec 32 → Prop := fun c t => (c - t).toNat < 2 ^ 31
  let bound : State → Nat → Prop := fun s m => m < 64 ∧ (counter s s.curCore m).v = true ∧ (counter s s.curCore m).owner = s.task.procid
  (∀ (s : State) (e : Ext), sound s [] [e.d.toNat] [] [] → allFull s e.syn →
    (64 ≤ e.a.toNat → traps (.mrd e) s 1 0 0 (s.ir.zeroExtend 64)) ∧
    (e.a.toNat < 64 → ¬ bound s e.a.toNat → traps (.mrd e) s 11 4 0 0) ∧
    (bound s e.a.toNat → givesG (.mrd e) s e.syn e.d.toNat ((counter s s.curCore e.a.toNat).count.zeroExtend 64) e.words)) ∧
  (∀ (s : State) (e : Ext), sound s [e.b.toNat] [] [] [] → allFull s e.syn → s.task.inEvent = false → s.me.state ≠ .stopped →
    let v := (s.g e.b.toNat).setWidth 32
    (64 ≤ e.a.toNat → traps (.mwait e) s 1 0 0 (s.ir.zeroExtend 64) ∧ traps (.mset e) s 1 0 0 (s.ir.zeroExtend 64)) ∧
    (e.a.toNat < 64 → ¬ bound s e.a.toNat → traps (.mwait e) s 11 4 0 0 ∧ traps (.mset e) s 11 4 0 0) ∧
    (bound s e.a.toNat → met (counter s s.curCore e.a.toNat).count v →
      ∃ t, exec (.mwait e) s = .next t ∧ sameRegs s t ∧ t.mem = s.mem ∧ t.task.pc = s.task.pc + BitVec.ofNat 64 (4 * e.words)) ∧
    (bound s e.a.toNat → ¬ met (counter s s.curCore e.a.toNat).count v → parksFor (.mwait e) s e.syn 7 (.counter e.a.toNat v) []) ∧
    (bound s e.a.toNat → (counter s s.curCore e.a.toNat).en = false →
      ∃ t, exec (.mset e) s = .next t ∧ sameRegs s t ∧ t.mem = s.mem ∧ t.task.pc = s.task.pc + BitVec.ofNat 64 (4 * e.words) ∧
        counter t s.curCore e.a.toNat = { counter s s.curCore e.a.toNat with count := v, wake := true } ∧
        t.agenda = s.agenda ++ [.mwaitWake s.curCore e.a.toNat])) ∧
  (∀ (s : State) (e : Ext), sound s [e.a.toNat, e.b.toNat] [] [] [] → allFull s e.syn → s.task.inEvent = false →
    let off := (s.g e.a.toNat).toNat
    (0x10000 ≤ off ∨ off % 4 ≠ 0 → traps (.post e) s 4 0 0x3000 (s.g e.a.toNat)) ∧
    (off < 0x10000 → off % 4 = 0 → 8 ≤ s.task.sendq.length → s.me.state ≠ .stopped →
      ∃ t, exec (.post e) s = .next t ∧ t.me.state = .parked ∧ t.me.parkwhy = 6 ∧ sameRegs s t ∧ t.task.pc = s.task.pc ∧ t.mem = s.mem) ∧
    (off < 0x10000 → off % 4 = 0 → s.task.sendq = [] → s.ownUnacked = [] → s.task.pend = 0 → s.task.subUnacked = 0 →
      s.buffered s.task.tid = false → (s.coreAt s.curCore).waiting = [] → (s.coreAt s.curCore).streams = [] → s.mute s.curCore = false →
      ∃ t k, exec (.post e) s = .next t ∧ sameRegs s t ∧ t.mem = s.mem ∧ t.task.pc = s.task.pc + BitVec.ofNat 64 (4 * e.words) ∧
        t.task.storecnt = s.task.storecnt + 1 ∧ t.task.sendq = [] ∧ t.agenda = s.agenda ++ [.packetArrive s.pkg.nextPacket] ∧
        t.pkg.packets.find s.pkg.nextPacket = some k ∧ k.dest = (counterOf off).1 ∧
        k.release = .postArrive { core := (counterOf off).1, index := (counterOf off).2, inc := (s.g e.b.toNat).setWidth 32, procid := s.task.procid.toNat, asOwner := false, src := s.curCore, ctx := s.curCtx, tid := s.task.tid, acks := true, id := (s.coreAt s.curCore).storeSerial })) ∧
  (∀ (s : State) (p : PostPkt),
    let x := counter s p.core p.index
    x.en = false → s.pkg.records = [] →
    ∃ t, exec (.postArrive p) s = .next t ∧ t.mem = s.mem ∧ t.ctxs = s.ctxs ∧
      if x.v = true ∧ (p.asOwner = true ∨ x.owner.toNat = p.procid) then
        (counter t p.core p.index).count = x.count + p.inc ∧ Instr.mwaitWake p.core p.index ∈ t.agenda ∧ t.pkg.records = []
      else counter t p.core p.index = x ∧ ∃ r, t.pkg.records = [r] ∧ r.kind = 8 ∧ r.procid = p.procid) ∧
  (∀ (s : State) (core m i : Nat) (target : BitVec 32), i < 16 →
    let k := ctxKey core i
    (s.ctxAt k).state = .parked → (s.ctxAt k).wait = .counter m target →
    ∃ t, exec (.mwaitWake core m) s = .next t ∧ t.mem = s.mem ∧ (counter t core m).count = (counter s core m).count ∧ (counter t core m).wake = false ∧
      (met (counter s core m).count target →
        (t.ctxAt k).state = .ready ∧ (t.ctxAt k).task = { (s.ctxAt k).task with pc := (s.ctxAt k).task.pc + 12 }) ∧
      (¬ met (counter s core m).count target → t.ctxAt k = s.ctxAt k)) ∧
  (∀ (s : State) (core m : Nat) (v : Word), 6 ≤ s.pkg.phase → ∃ t, exec (.cbindWrite core m (v, none)) s = .next t ∧ { t with cores := s.cores } = s ∧
    counter t core m = { owner := v.setWidth 10, v := v.getLsbD 10 } ∧ ∀ j, j ≠ m → counter t core j = counter s core j) ∧
  (∀ (s : State) (core m : Nat) (v : Word), 6 ≤ s.pkg.phase →
    let fires := v.getLsbD 48 = true ∧ met (counter s core m).count (v.setWidth 32)
    let vec := (v.extractLsb' 32 11).toNat
    ∃ t, exec (.cirqWrite core m (v, none)) s = .next t ∧ t.ctxs = s.ctxs ∧ (counter t core m).target = v.setWidth 32 ∧ (counter t core m).vector = v.extractLsb' 32 11 ∧
      (counter t core m).count = (counter s core m).count ∧
      (¬ fires → (counter t core m).en = v.getLsbD 48 ∧ t.mem = s.mem ∧ t.pkg = s.pkg) ∧
      (fires → (counter t core m).en = false ∧ (s.pkg.ivtcount ≤ vec → t.pkg = { s.pkg with idrop := s.pkg.idrop + 1 }))) ∧
  (∀ (s : State) (core m v : Nat) (ack : Option (Nat × Nat × Nat × Nat)), 6 ≤ s.pkg.phase → ∃ t p, exec (.counterPageStore core m v (ack, none)) s = .next t ∧
    t = s.push (.postArrive p) ∧ p.core = core ∧ p.index = m ∧ p.inc = BitVec.ofNat 32 v ∧ p.asOwner = true ∧ p.acks = ack.isSome)

/-- R283 to R289: `send` offers its bytes, here from the own scratchpad, in packets of 64 record bytes, and parks with PARKWHY 6; MSG_DELIVER places the record in the
ring of the resident task that it names and its bytes in the message area, or refuses it for space; SEND_REPLY ends the park, takes the message fault of a refusal with
cause 3, or keeps the message, which SEND_REOFFER offers again; `recv` takes the oldest record, parks with PARKWHY 7 without one, and for
a capacity below the record's size gives that size. How many packets a message takes, one for each 64 bytes of its record, and that all but the
last are marked as parts, are the model's choice (log entry 46). -/
def Obligations.Messages : Prop :=
  let offered : State → State → Word → MsgRec → Prop := fun s t w m => ∃ p : MsgPkt, p.core = w.toNat % 256 ∧ p.word = w ∧
    p.len = m.len ∧ p.data = m.data ∧ ∀ i, i < (16 + 16 * ((m.len + 15) / 16) + 63) / 64 → ∃ k, t.pkg.packets.find (s.pkg.nextPacket + i) = some k ∧
      k.dest = w.toNat % 256 ∧ k.release = .msgDeliver p ∧ k.part = decide (64 * (i + 1) < 16 + 16 * ((m.len + 15) / 16))
  (∀ (s : State) (e : Ext), sound s [e.a.toNat, e.b.toNat, e.c.toNat] [] [] [] → allFull s e.syn → s.task.inEvent = false →
    let w := s.g e.a.toNat
    let n := (s.g e.c.toNat).toNat
    let base := s.g e.b.toNat
    (w >>> 48 ≠ 0 → traps (.send e) s 11 1 0 0) ∧ (w >>> 48 = 0 → 240 < n → traps (.send e) s 11 2 0 0) ∧
    (∀ a, w >>> 48 = 0 → n ≤ 240 → spaceOf s.curCore (s.task.space e.sp.toNat).toNat = some (.scratch s.curCore) →
      s.alloc s.curCore s.task.procid.toNat = some a → base.toNat + n ≤ a.size → base.toNat + n ≤ 2 ^ 64 → (s.coreAt s.curCore).copies = [] →
      s.task.sendq = [] → s.drained = true → (s.coreAt s.curCore).waiting = [] → (s.coreAt s.curCore).streams = [] → s.mute s.curCore = false →
      s.me.state ≠ .stopped →
      ∃ t m, exec (.send e) s = .next t ∧ sameRegs s t ∧ t.task.pc = s.task.pc ∧ t.mem = s.mem ∧ t.me.state = .parked ∧ t.me.parkwhy = 6 ∧
        t.me.wait = .sendReply e.words ∧ t.task.sendOut = some (w, m) ∧ m.len = n ∧ m.size = 16 + 16 * ((n + 15) / 16) ∧ m.sender = s.endpoint ∧
        m.data.length = n ∧ (∀ i, i < n → m.data.getD i 0 = s.byteAt (sramKey s.curCore (a.base + base.toNat + i))) ∧ offered s t w m)) ∧
  (∀ (s : State) (p : MsgPkt),
    let k := ctxKey p.core p.ctx
    let x := s.ctxAt k
    let m : MsgRec := { size := 16 + 16 * ((p.len + 15) / 16), len := p.len, sender := p.sender, data := p.data }
    x.state = .parked → x.wait = .message → x.task.image = p.word &&& 0x0000FFFFFFFFF000#64 → x.task.procid.toNat = p.procid → x.task.saveBuf.recs = [] →
    let n := x.task.part.ringSize
    ∃ t, exec (.msgDeliver p) s = .next t ∧
      match x.task.ring.place n m with
      | some r => (t.ctxAt k).task = { x.task with ring := r } ∧ (t.ctxAt k).state = .ready ∧
          Instr.sendReply (coreId p.src) (ctxId p.srcCtx) p.tid 0 ∈ t.agenda ∧
          (∃ pad, ringRoom x.task.ring.head x.task.ring.tail n m.size = some pad ∧
            readBytes t.mem (sramKey p.core (p.ctx * n + (x.task.ring.tail + pad) % n)) m.size = m.bytes % 256 ^ m.size) ∧
          ∀ a, (a < sramKey p.core (p.ctx * n) ∨ sramKey p.core (p.ctx * n) + n ≤ a) → t.byteAt a = s.byteAt a
      | none => t = s.push (.sendReply (coreId p.src) (ctxId p.srcCtx) p.tid 1)) ∧
  (∀ (s : State) (core : CoreId) (ctx : CtxId) (n : Nat) (w : Word) (m : MsgRec),
    let k := ctxKey core.toNat ctx.toNat
    let x := s.ctxAt k
    x.state = .parked → x.wait = .sendReply n → x.task.sendOut = some (w, m) →
    (∃ t, exec (.sendReply core ctx x.task.tid 0) s = .next t ∧ t.mem = s.mem ∧ (t.ctxAt k).state = .ready ∧ (t.ctxAt k).task = { x.task with
      sendOut := none, sendRefused := false, pc := x.task.pc + BitVec.ofNat 64 (4 * n) }) ∧
    (∃ t, exec (.sendReply core ctx x.task.tid 3) s = .next t ∧ t.mem = s.mem ∧ (t.ctxAt k).task.sendOut = none ∧
      (t.ctxAt k).task.epc = x.task.pc &&& ~~~3#64 ∧ (t.ctxAt k).task.ecause.extractLsb' 0 16 = 0x30B) ∧
    (endpointImage w ≠ endpointImage x.task.image → ∃ t, exec (.sendReply core ctx x.task.tid 1) s = .next t ∧ t.mem = s.mem ∧
      t.ctxAt k = { x with task := { x.task with sendRefused := true } }) ∧
    (x.task.sendRefused = true → x.task.sendq = [] → m.len ≤ 240 → (s.coreAt core.toNat).waiting = [] → (s.coreAt core.toNat).streams = [] →
      s.mute core.toNat = false →
      ∃ t, exec (.sendReoffer core ctx x.task.tid) s = .next t ∧ t.mem = s.mem ∧
        t.ctxAt k = { x with task := { x.task with sendRefused := false } } ∧ offered s t w m)) ∧
  (∀ (s : State) (e : Ext), sound s [e.a.toNat, e.b.toNat] [e.d.toNat] [] [] → allFull s e.syn → s.task.inEvent = false →
    let cap := (s.g e.b.toNat).toNat
    let base := s.g e.a.toNat
    let sel := s.task.space e.sp.toNat
    (cap = 0 → givesG (.recv e) s e.syn e.d.toNat s.endpoint e.words) ∧
    (cap ≠ 0 → s.task.saveBuf.recs = [] → s.task.ring.recs = [] → s.me.state ≠ .stopped →
      ∃ t, exec (.recv e) s = .next t ∧ sameRegs s t ∧ t.task.pc = s.task.pc ∧ t.mem = s.mem ∧ t.me.state = .parked ∧ t.me.parkwhy = 7 ∧ t.me.wait = .message) ∧
    (∀ m rest, cap ≠ 0 → s.task.saveBuf.recs = [] → s.task.ring.recs = m :: rest → m.pad = false →
      (cap < m.size → givesG (.recv e) s e.syn e.d.toNat (BitVec.ofNat 64 (2 ^ 63 + m.size)) e.words) ∧
      (∀ a, m.size ≤ cap → base.toNat % 16 = 0 → spaceOf s.curCore sel.toNat = some (.scratch s.curCore) →
        s.alloc s.curCore s.task.procid.toNat = some a → base.toNat + m.size ≤ a.size → base.toNat + m.size ≤ 2 ^ 64 → 0 < m.size →
        (s.coreAt s.curCore).copies = [] →
        ∃ t, exec (.recv e) s = .next t ∧ t.g e.d.toNat = (if e.d = 0 then 0 else BitVec.ofNat 64 m.len) ∧ (∀ r, r ≠ e.d.toNat → t.g r = s.g r) ∧
          t.task.pc = s.task.pc + BitVec.ofNat 64 (4 * e.words) ∧ t.task.ring = { s.task.ring with head := (s.task.ring.head + m.size) % 2 ^ 32, recs := rest } ∧
          let key := sramKey s.curCore (a.base + base.toNat)
          readBytes t.mem key m.size = m.bytes % 256 ^ m.size ∧ ∀ b, 2 ^ 48 ≤ b → (b < key ∨ key + m.size ≤ b) → t.byteAt b = s.byteAt b)))

/-- R292 to R297: `sub` with a malformed region, or a source that is not another core, raises a message fault, gives 0 without a free entry, and
otherwise takes an entry and asks the source; the source's answer writes D; an update writes exactly its masked bytes at the subscriber;
`unsub` removes an entry of the process; `subflush` completes once no update of the task is outstanding. -/
def Obligations.Subscriptions : Prop :=
  (∀ (s : State) (e : Ext), sound s [e.a.toNat, e.b.toNat, e.c.toNat] [e.d.toNat] [] [] → allFull s e.syn → s.task.inEvent = false →
    let a := (s.g e.a.toNat).toNat; let d := (s.g e.b.toNat).toNat; let n := (s.g e.c.toNat).toNat
    let own := spaceOf s.curCore (s.task.space e.sp.toNat).toNat = some (.scratch s.curCore)
    let fits := a % 64 = 0 ∧ n % 64 = 0 ∧ 64 ≤ n ∧ n ≤ 65536 ∧ ∃ al, s.alloc s.curCore s.task.procid.toNat = some al ∧ a + n ≤ al.size
    let named := d / 256 % 2 ^ 24 = 0 ∧ d % 256 ≠ s.curCore ∧ d / 2 ^ 32 % 64 = 0
    (¬ (own ∧ fits) → traps (.subscribe e) s 11 5 0 0) ∧ (own → fits → ¬ named → traps (.subscribe e) s 11 7 0 0) ∧
    (own → fits → named → (s.coreAt s.curCore).subscribers.firstFree 0 16 = none → givesG (.subscribe e) s e.syn e.d.toNat 0 e.words) ∧
    (∀ i, own → fits → named → (s.coreAt s.curCore).subscribers.firstFree 0 16 = some i → s.me.state ≠ .stopped →
      ∃ t u, exec (.subscribe e) s = .next t ∧ sameRegs s t ∧ t.task.pc = s.task.pc ∧ t.mem = s.mem ∧ t.me.state = .parked ∧ t.me.parkwhy = 1 ∧
        t.me.wait = .subReply e.d.toNat e.words ∧ (t.coreAt s.curCore).subscribers.find i = some u ∧ u.loff = a ∧ u.len = n ∧ u.score = d % 256 ∧
        t.agenda = s.agenda ++ [.subRequestArrive
          { core := s.curCore, entry := i, procid := s.task.procid.toNat, len := n, source := d % 256, soff := d / 2 ^ 32, ctx := s.curCtx, tid := s.task.tid }])) ∧
  (∀ (s : State) (p : SubReq),
    (∀ al, s.alloc p.source p.procid = some al → al.size < p.soff + p.len → exec (.subRequestArrive p) s = .next (s.push (.subReply p 2))) ∧
    (s.alloc p.source p.procid = none → exec (.subRequestArrive p) s = .next (s.push (.subReply p 2))) ∧
    (∀ al k u, s.alloc p.source p.procid = some al → p.soff + p.len ≤ al.size → (s.coreAt p.source).sourceFor p = some k →
      (s.coreAt p.core).subscribers.find p.entry = some u → u.procid = p.procid → p.procid < 1024 → p.core ≠ p.source →
      ∃ t y, exec (.subRequestArrive p) s = .next t ∧ t.mem = s.mem ∧ t.ctxs = s.ctxs ∧ Instr.subReply p 0 ∈ t.agenda ∧
        (t.coreAt p.source).sources.find k = some y ∧ (p.core, p.entry) ∈ y.subs)) ∧
  (∀ (s : State) (p : SubReq) (d n : Nat) (u : Subscriber),
    let k := ctxKey p.core p.ctx
    p.ctx < 16 → (s.ctxAt k).state = .parked → (s.ctxAt k).wait = .subReply d n → (s.ctxAt k).task.tid = p.tid → d < 256 →
    (s.coreAt p.core).subscribers.find p.entry = some u → u.copyLeft = 0 →
    ∀ q ∈ ([(2, BitVec.ofInt 64 (-2)), (1, BitVec.ofInt 64 (-1)), (0, BitVec.ofNat 64 (p.entry + 1))] : List (Nat × Word)),
      ∃ t, exec (.subReply p q.1) s = .next t ∧ t.mem = s.mem ∧ repliedG (s.ctxAt k) (t.ctxAt k) d q.2 n ∧
        (t.coreAt p.core).subscribers.find p.entry = if q.1 = 0 then some u else none) ∧
  (∀ (s : State) (core entry off : Nat) (data : BitVec 512) (mask : BitVec 64) (u : Subscriber) (al : Alloc),
    (s.coreAt core).subscribers.find entry = some u → u.state = 0 → 1 < u.onWay → s.alloc core u.procid = some al →
    let b := al.base + u.loff + off
    (s.coreAt core).guarded b 64 = false →
    ∃ t v, exec (.subUpdateApply core entry off data mask []) s = .next t ∧
      (∀ i, i < 64 → t.byteAt (sramKey core b + i) = if mask.getLsbD i then data.extractLsb' (8 * i) 8 else s.byteAt (sramKey core b + i)) ∧
      (∀ a, (a < sramKey core b ∨ sramKey core b + 64 ≤ a) → t.byteAt a = s.byteAt a) ∧
      (t.coreAt core).subscribers.find entry = some v ∧ v.onWay = u.onWay - 1) ∧
  (∀ (s : State) (core entry off : Nat) (x : Source) (l : CoLine), (s.coreAt core).sources.find entry = some x → x.buf = [l] → l.off = off →
    ∃ t, exec (.subLineTimeout core entry off) s = .next t ∧ t.mem = s.mem ∧ (t.coreAt core).sources.find entry = some { x with buf := [] }) ∧
  (∀ (s : State) (e : Ext), sound s [e.a.toNat] [] [] [] → allFull s e.syn → s.task.inEvent = false →
    let h := (s.g e.a.toNat).toNat
    ((h = 0 ∨ 16 < h ∨ (s.coreAt s.curCore).subscribers.find (h - 1) = none) → traps (.unsub e) s 11 6 0 0) ∧
    (∀ u, 0 < h → h ≤ 16 → (s.coreAt s.curCore).subscribers.find (h - 1) = some u → u.procid = s.task.procid.toNat → u.onWay = 0 →
      ∃ t, exec (.unsub e) s = .next t ∧ sameRegs s t ∧ t.mem = s.mem ∧ t.task.pc = s.task.pc + BitVec.ofNat 64 (4 * e.words) ∧
        (t.coreAt s.curCore).subscribers.find (h - 1) = none)) ∧
  (∀ (s : State) (e : Ext), s.task.inEvent = false →
    (s.task.subUnacked = 0 → s.buffered s.task.tid = false → goesTo (.subflush e) s [] (s.task.pc + BitVec.ofNat 64 (4 * e.words))) ∧
    (s.task.subUnacked ≠ 0 → s.me.state ≠ .stopped → parksFor (.subflush e) s [] 1 .subsApplied []))

/-- R16, R17, R315: a packet that is next on its stream is released and, but for a timed message, acknowledged; the last packet of a message causes its event; one out of order takes a place of the reorder buffer of
its network, of 64 places, or is refused and sent again; an acknowledgement opens the stream's window. That the last packet of a message causes
its event is the model's choice (log entry 46). -/
def Obligations.Streams : Prop :=
  (∀ (s : State) (n : Nat) (p : Packet), s.pkg.packets.find n = some p →
    let c := s.coreAt p.dest
    let key := streamKey p.net p.src p.stream
    (c.expected.get key 0 = p.seq → c.reorder = [] →
      ∃ t, exec (.packetArrive n) s = .next t ∧ t.mem = s.mem ∧ t.ctxs = s.ctxs ∧ 
        t.agenda = s.agenda ++ (if p.part then [] else [p.release]) ++ (if p.net = 5 then [] else [.streamAck p.src p.net p.stream]) ∧
        t.pkg.packets.find n = none ∧ (t.coreAt p.dest).expected.get key 0 = (p.seq + 1) % 4096) ∧
    (c.expected.get key 0 ≠ p.seq → (c.reorder.filter fun q => q.net = p.net).length < 64 →
      ∃ t, exec (.packetArrive n) s = .next t ∧ t.mem = s.mem ∧ t.ctxs = s.ctxs ∧ t.agenda = s.agenda ∧ (t.coreAt p.dest).reorder = c.reorder ++ [p]) ∧
    (c.expected.get key 0 ≠ p.seq → 64 ≤ (c.reorder.filter fun q => q.net = p.net).length →
      exec (.packetArrive n) s = .next (s.push (.packetResend n))) ∧
    exec (.packetResend n) s = .next (s.push (.packetArrive n))) ∧
  (∀ (s : State) (src net k : Nat) (x : Stream), (s.coreAt src).streams.find (net * 16 + k) = some x → (s.coreAt src).waiting = [] →
    ∃ t, exec (.streamAck src net k) s = .next t ∧ t.mem = s.mem ∧ t.ctxs = s.ctxs ∧
      (t.coreAt src).streams.find (net * 16 + k) = some { x with unacked := x.unacked - 1 })

/-- R305, R310 to R315, R320 to R322: the timed instructions on the core of the task's logical process; elsewhere, unbound, or on the wrong side of
`tnext` and `tdone`, each raises its timed fault. `tnext` takes the lowest pending event, clears the registers but g1 to g3 and D, and sets VTIME;
with none pending it parks with PARKWHY 12, or gives 0 when GVT is all ones; `tdone` processes the event; `tsend` sends a message and raises
the serial number, and in an event with room in its output log enters it there; `tirr` queues an action; `tbind` binds a slot; `tgvt` starts a computation. -/
def Obligations.TimedInstructions : Prop :=
  let here : State → Nat → Lp → Prop := fun s slot lp => s.boundLp = some (s.curCore, slot, lp)
  let fault : Instr → State → Nat → Prop := fun j s cause => traps j s 12 cause 0 0
  let pc : State → Ext → Word := fun s e => s.task.pc + BitVec.ofNat 64 (4 * e.words)
  let mapped : State → Lp → Word → Nat → Prop := fun s lp off n =>
    (∃ pa, s.locate ⟨s.curCore, lp.procid, true⟩ .store 1 off n = .ok (.mem pa)) ∧ s.unreadable s.curCore lp [(off, n)] = none
  (∀ (s : State) (e : Ext), sound s [e.a.toNat, e.b.toNat, e.c.toNat] [e.d.toNat, 1, 2, 3] [] [] → allFull s e.syn → ∀ cause : Nat,
    ((cause = 3 ∧ s.boundLp = none) ∨ (cause = 4 ∧ ∃ c slot lp, s.boundLp = some (c, slot, lp) ∧ c ≠ s.curCore)) →
    fault (.tnext e) s cause ∧ fault (.tdone e) s cause ∧ fault (.tsend e) s cause ∧ fault (.tirr e) s cause) ∧
  (∀ (s : State) (e : Ext) (slot : Nat) (lp : Lp), sound s [e.a.toNat] [e.d.toNat, 1, 2, 3] [] [] → allFull s e.syn → here s slot lp →
    if s.task.inEvent then fault (.tnext e) s 5 ∧ fault (.tbind e) s 5 else fault (.tdone e) s 5 ∧ fault (.tirr e) s 5) ∧
  (∀ (s : State) (e : Ext) (slot : Nat) (lp : Lp), sound s [] [e.d.toNat, 1, 2, 3] [] [] → here s slot lp → s.task.inEvent = false → s.task.pend = 0 →
    lp.waiting = false → lp.work = [] → s.me.state ≠ .stopped →
    (∀ x, lowest (lp.inputs.filter (·.state = 1)) = some x → mapped s lp (lp.entryAt x.index) 32 →
      ∃ t l, exec (.tnext e) s = .next t ∧ t.task.pc = pc s e ∧ t.task.vtime = x.key.time ∧ t.task.inEvent = true ∧
        t.g e.d.toNat = (if e.d = 0 then 0 else lp.entryAt x.index + 16) ∧
        (∀ r, r ≠ e.d.toNat → t.g r = if r = 1 ∨ r = 2 ∨ r = 3 then s.g r else 0) ∧ (∀ r, t.vreg r = 0) ∧
        t.lpAt s.curCore slot = some l ∧ l.inev = true ∧ l.evidx = x.index ∧
        l.inputs = lp.inputs.map fun y => if y.index = x.index then { y with state := 2 } else y) ∧
    (lowest (lp.inputs.filter (·.state = 1)) = none →
      if s.gvtOf lp.procid = BitVec.allOnes 64 ∧ lp.actions = [] then
        ∃ t, exec (.tnext e) s = .next t ∧ t.task.pc = pc s e ∧ t.mem = s.mem ∧ t.g e.d.toNat = 0 ∧ (∀ r, r ≠ e.d.toNat → t.g r = s.g r)
      else ∃ t, exec (.tnext e) s = .next t ∧ sameRegs s t ∧ t.task.pc = s.task.pc ∧ t.mem = s.mem ∧ t.me.state = .parked ∧ t.me.parkwhy = 12)) ∧
  (∀ (s : State) (e : Ext) (slot : Nat) (lp : Lp) (x : TEntry), here s slot lp → s.task.inEvent = true → lp.waiting = false → lp.work = [] →
    lp.defer = [] → lp.inputs.find? (·.index = lp.evidx) = some x → mapped s lp (lp.entryAt x.index) 32 →
    ∃ t l, exec (.tdone e) s = .next t ∧ sameRegs s t ∧ t.task.pc = pc s e ∧ t.task.inEvent = false ∧ t.lpAt s.curCore slot = some l ∧
      l.lvt = x.key ∧ l.inev = false ∧ l.inputs = lp.inputs.map fun y => if y.index = x.index then { y with state := 3 } else y) ∧
  (∀ (s : State) (e : Ext) (slot : Nat) (lp : Lp), sound s [e.a.toNat, e.b.toNat, e.c.toNat] [] [] [] → allFull s e.syn → here s slot lp →
    let w := s.g e.a.toNat
    let time := s.g e.b.toNat
    let dst := w.toNat % 256
    let dslot := w.toNat / 256 % 4
    let bad := w >>> 10 ≠ 0 ∨ time < s.task.vtime ∨ time = BitVec.allOnes 64 ∨ (dst = s.curCore ∧ dslot = slot ∧ time = s.task.vtime)
    (bad → fault (.tsend e) s 6) ∧
    (¬ bad → s.task.inEvent = true → lp.olcap ≤ lp.outputs.length → fault (.tsend e) s 7) ∧
    (¬ bad → s.task.inEvent = false → lp.waiting = false → s.task.sendq = [] → (s.coreAt s.curCore).waiting = [] → (s.coreAt s.curCore).streams = [] →
      s.mute s.curCore = false →
      ∃ t k m, exec (.tsend e) s = .next t ∧ sameRegs s t ∧ t.mem = s.mem ∧ t.task.pc = pc s e ∧
        (t.coreAt s.curCore).tserial = ((s.coreAt s.curCore).tserial + 1) % 2 ^ 40 ∧
        t.pkg.packets.find s.pkg.nextPacket = some k ∧ k.dest = dst ∧ k.release = .tmsgArrive m ∧ m.core = dst ∧ m.slot = dslot ∧ m.rtime = time ∧
        m.src = s.curCore ∧ m.srcSlot = slot ∧ m.serial = (s.coreAt s.curCore).tserial ∧ m.payload = s.g e.c.toNat ∧ m.procid = lp.procid) ∧
    (∀ pa, ¬ bad → s.task.inEvent = true → lp.outputs.length < lp.olcap → lp.waiting = false → s.task.sendq = [] →
      (s.coreAt s.curCore).waiting = [] → (s.coreAt s.curCore).streams = [] → s.mute s.curCore = false →
      s.locate ⟨s.curCore, lp.procid, true⟩ .store 1 (lp.olbase + BitVec.ofNat 64 (32 * leastFree (lp.outputs.map (·.index)))) 32 = .ok (.mem pa) →
      ∃ t k m l o, exec (.tsend e) s = .next t ∧ sameRegs s t ∧ t.task.pc = pc s e ∧ t.task.inEvent = true ∧
        (t.coreAt s.curCore).tserial = ((s.coreAt s.curCore).tserial + 1) % 2 ^ 40 ∧
        t.pkg.packets.find s.pkg.nextPacket = some k ∧ k.dest = dst ∧ k.release = .tmsgArrive m ∧ m.core = dst ∧ m.slot = dslot ∧ m.rtime = time ∧
        m.src = s.curCore ∧ m.srcSlot = slot ∧ m.serial = (s.coreAt s.curCore).tserial ∧ m.payload = s.g e.c.toNat ∧ m.procid = lp.procid ∧
        t.lpAt s.curCore slot = some l ∧ l.outputs = lp.outputs ++ [o] ∧ o.rtime = time ∧ o.core = dst ∧ o.slot = dslot ∧
        o.serial = (s.coreAt s.curCore).tserial ∧ o.event = lp.evidx ∧ o.payload = s.g e.c.toNat ∧ l.inputs = lp.inputs)) ∧
  (∀ (s : State) (e : Ext) (slot : Nat) (lp : Lp) (off : Nat → Nat), sound s [e.a.toNat] [] [] [] → allFull s e.syn → here s slot lp →
    s.task.inEvent = true → lp.waiting = false →
    let ea := s.g e.a.toNat + e.imm.value
    let v := fun i => s.ownBytesAt (off i) 8
    (∀ i, i < 3 → ownAt s (s.task.space e.sp.toNat) (ea + BitVec.ofNat 64 (8 * i)) 8 (off i)) →
    (v 0 / 256 ≠ 0 ∨ refusedAction (v 0 % 256) (v 1) (v 2) = true → fault (.tirr e) s 10) ∧
    (v 0 / 256 = 0 → refusedAction (v 0) (v 1) (v 2) = false → lp.iacap ≤ lp.actions.length → fault (.tirr e) s 7) ∧
    (v 0 / 256 = 0 → refusedAction (v 0) (v 1) (v 2) = false → lp.actions.length < lp.iacap →
      mapped s lp (lp.iabase + BitVec.ofNat 64 (32 * leastFree (lp.actions.map (·.index)))) 32 →
      ∃ t l x, exec (.tirr e) s = .next t ∧ sameRegs s t ∧ t.task.pc = pc s e ∧ t.lpAt s.curCore slot = some l ∧ l.actions = lp.actions ++ [x] ∧
        x.kind = v 0 ∧ x.addr = BitVec.ofNat 64 (v 1) ∧ x.value = BitVec.ofNat 64 (v 2) ∧ x.time = s.task.vtime ∧ x.event = lp.evidx)) ∧
  (∀ (s : State) (e : Ext) (off : Nat), sound s [e.a.toNat] [] [] [] → allFull s e.syn → s.task.inEvent = false →
    (s.g e.a.toNat = 0 → s.boundLp = none → goesTo (.tbind e) s e.syn (pc s e)) ∧
    (s.g e.a.toNat ≠ 0 → s.boundLp ≠ none → fault (.tbind e) s 2) ∧
    (∀ a, s.g e.a.toNat ≠ 0 → s.boundLp = none → ownAt s (s.task.space e.sp.toNat) (s.g e.a.toNat + e.imm.value) 64 off →
      s.alloc s.curCore s.task.procid.toNat = some a →
      let d := BitVec.ofNat 512 (s.ownBytesAt off 64)
      let f := fun lo n => (d.extractLsb' lo n).toNat
      let good := d.extractLsb' 450 30 = 0 ∧ f 0 32 % 64 = 0 ∧ f 32 32 % 64 = 0 ∧ 64 ≤ f 32 32 ∧ f 32 32 ≤ 65536 ∧ f 0 32 + f 32 32 ≤ a.size ∧
        (∀ b ∈ [f 64 64, f 128 64, f 192 64, f 256 64], b % 64 = 0 ∧ b < 2 ^ 48) ∧ ∀ c ∈ [f 320 32, f 352 32, f 384 32, f 416 32], 16 ≤ c ∧ c ≤ 65536
      (¬ good → fault (.tbind e) s 1) ∧
      (good → s.lpAt s.curCore (f 448 2) ≠ none → fault (.tbind e) s 2) ∧
      (good → (s.coreAt s.curCore).lps = [] →
        let g := if s.gvtOf s.task.procid.toNat = BitVec.allOnes 64 then 0 else s.gvtOf s.task.procid.toNat
        ∃ t l, exec (.tbind e) s = .next t ∧ t.task.pc = pc s e ∧ t.task.vtime = g ∧ t.task.tlp = some (s.curCore, f 448 2) ∧
          (∀ r, t.g r = s.g r) ∧ t.lpAt s.curCore (f 448 2) = some l ∧ l.woff = f 0 32 ∧ l.wlen = f 32 32 ∧ l.iqcap = f 320 32 ∧ l.olcap = f 352 32 ∧
          l.ulcap = f 384 32 ∧ l.iacap = f 416 32 ∧ l.inputs = [] ∧ l.lvt = ⟨g, 0, 0⟩))) ∧
  (∀ (s : State) (e : Ext), s.task.procid.toNat ∉ s.pkg.gvtRun →
    ∃ t, exec (.tgvt e) s = .next t ∧ sameRegs s t ∧ t.mem = s.mem ∧ t.task.pc = pc s e ∧ t.pkg = { s.pkg with gvtRun := s.pkg.gvtRun ++ [s.task.procid.toNat] } ∧
      t.agenda = s.agenda ++ [.gvtPublish s.task.procid.toNat])

/-- R306, R315, R317, R320: a timed message without a logical process of its process is discarded with one record of KIND 8, waits while its
slot's queue is full, and is otherwise entered as pending; an anti-message annihilates the pending entry of its positive; what was refused
is offered again; a published GVT is the reduction or the old value, whichever is greater. The INFO of the record, the receive time, and GVT as
one value for each process are the model's choices (log entries 26 and 22). -/
def Obligations.TimedMessages : Prop :=
  (∀ (s : State) (m : TMsg), (s.coreAt m.core).refused = [] → s.pkg.records = [] →
    (s.lpFor m = none → ∀ j ∈ [Instr.tmsgArrive m, .antiMsgArrive m], ∃ t r, exec j s = .next t ∧ t.mem = s.mem ∧ t.ctxs = s.ctxs ∧
      t.pkg.records = [r] ∧ r.kind = 8 ∧ r.info = m.rtime) ∧
    (∀ lp, s.lpFor m = some lp → lp.iqcap ≤ lp.inputs.length →
      ∃ t, exec (.tmsgArrive m) s = .next t ∧ t.mem = s.mem ∧ t.ctxs = s.ctxs ∧ (t.coreAt m.core).refused = [(true, m)]) ∧
    (∀ lp pa, s.lpFor m = some lp → lp.inputs = [] → 0 < lp.iqcap → lp.waiting = false → lp.work = [] → lp.inev = false →
      Key.lt ⟨m.rtime, m.src, m.serial⟩ lp.lvt = false → s.locate ⟨m.core, lp.procid, true⟩ .store 1 lp.iqbase 32 = .ok (.mem pa) →
      ∃ t l, exec (.tmsgArrive m) s = .next t ∧ t.lpAt m.core m.slot = some l ∧
        l.inputs = [{ index := 0, key := ⟨m.rtime, m.src, m.serial⟩, slot := m.srcSlot, payload := m.payload, state := 1 }]) ∧
    (∀ lp x pa, s.lpFor m = some lp → lp.inputs = [x] → x.state = 1 → x.key.core = m.src → x.key.serial = m.serial → lp.waiting = false → lp.work = [] →
      lp.rolling = false → s.coreHalted m.core = false → s.locate ⟨m.core, lp.procid, true⟩ .store 1 (lp.entryAt x.index) 32 = .ok (.mem pa) →
      ∃ t l, exec (.antiMsgArrive m) s = .next t ∧ t.lpAt m.core m.slot = some l ∧ l.inputs = [])) ∧
  (∀ (s : State) (slot : Nat) (m : TMsg), (s.coreAt m.core).refused = [(true, m)] → s.lpAt m.core slot = none → s.coreHalted m.core = false →
    s.lpFor m = none → s.pkg.records = [] →
    ∃ t r, exec (.tmsgReoffer m.core slot) s = .next t ∧ t.mem = s.mem ∧ (t.coreAt m.core).refused = [] ∧ t.pkg.records = [r] ∧ r.kind = 8) ∧
  (∀ (s : State) (p : Nat), p ∉ s.pkg.gvtRun → ∃ t, exec (.gvtStart p) s = .next t ∧ t.mem = s.mem ∧ t.ctxs = s.ctxs ∧
    t.pkg = { s.pkg with gvtRun := s.pkg.gvtRun ++ [p] } ∧ t.agenda = s.agenda ++ [.gvtPublish p]) ∧
  (∀ (s : State) (p : Nat), ∃ t, exec (.gvtPublish p) s = .next t ∧ p ∉ t.pkg.gvtRun ∧
    (t.pkg.gvt.get p (BitVec.allOnes 64)).toNat = max (s.pkg.gvt.get p (BitVec.allOnes 64)).toNat (s.reduction p).toNat)

/-- R133 to R136: outside an event and for a task of the cluster's group, `barset` takes a free counter or sets P; `bara` parks until
the end of the cycle, where State.arriveNow counts its arrival once the context has drained and, with the last, completes the phase and
releases the waits on it; `barw` goes on when its phase is past and otherwise parks with PARKWHY 7.
Any other use raises a barrier fault that names the counter. -/
def Obligations.ClusterBarrier : Prop :=
  let member : State → Prop := fun s => s.task.inEvent = false ∧ s.task.group = some (clusterOf s.curCore)
  let bar : State → Nat → Nat → Barrier := fun s core k => s.pkg.barriers.get (clusterOf core * 8 + k) {}
  let goesOn : Instr → State → (State → Prop) → Prop := fun j s p =>
    ∃ t, exec j s = .next t ∧ sameRegs s t ∧ t.mem = s.mem ∧ t.task.pc = s.task.pc + 4 ∧ p t
  (∀ (s : State) (a i : BitVec 7), sound s [a.toNat] [] [] [] → member s →
    let k := i.toNat
    let n := (s.g a.toNat).toNat
    let b := bar s s.curCore k
    (n = 0 ∨ 64 < n → traps (.barset a i) s 15 0 0 (BitVec.ofNat 64 k)) ∧
    (0 < n → n ≤ 64 → b.owner = none → goesOn (.barset a i) s fun t =>
      bar t s.curCore k = { owner := some s.task.procid.toNat, p := n, count := 0, phase := 0 }) ∧
    (0 < n → n ≤ 64 → b.owner ≠ none → b.owner ≠ some s.task.procid.toNat → traps (.barset a i) s 15 0 0 (BitVec.ofNat 64 k)) ∧
    (b.count < n → n ≤ 64 → b.owner = some s.task.procid.toNat → goesOn (.barset a i) s fun t => bar t s.curCore k = { b with p := n })) ∧
  (∀ (s : State) (i : BitVec 14),
    let k := i.toNat
    let b := bar s s.curCore k
    (s.task.inEvent = false → s.task.group ≠ some (clusterOf s.curCore) →
      traps (.bara i) s 15 0 0 (BitVec.ofNat 64 k) ∧ traps (.barw i) s 15 0 0 (BitVec.ofNat 64 k)) ∧
    (member s → b.owner ≠ some s.task.procid.toNat → traps (.barw i) s 15 0 0 (BitVec.ofNat 64 k)) ∧
    (member s → s.me.state ≠ .stopped → parksFor (.bara i) s [] 1 (.arrive k false) []) ∧
    (∀ checked, s.me.state = .parked → s.me.wait = .arrive k checked →
      let t := s.arriveNow
      (checked = false → b.owner ≠ some s.task.procid.toNat → t.mem = s.mem ∧ t.task.epc = s.task.pc &&& ~~~3#64 ∧
        t.task.ecause.extractLsb' 0 16 = 15 ∧ t.task.einfo = BitVec.ofNat 64 k ∧ bar t s.curCore k = b) ∧
      (b.owner = some s.task.procid.toNat → s.drained = false → t.mem = s.mem ∧ { t.task with subUnacked := s.task.subUnacked } = s.task ∧
        t.me.state = .parked ∧
        t.me.wait = .arrive k true ∧ bar t s.curCore k = b) ∧
      (b.owner = some s.task.procid.toNat → s.drained = true → t.mem = s.mem ∧ sameRegs s t ∧ t.me.state = .ready ∧
        t.task.pc = s.task.pc + 4 ∧ t.task.barph.get k 0 = 0x8000 ||| b.phase.zeroExtend 16 ∧
        bar t s.curCore k = if b.count + 1 = b.p then { b with count := 0, phase := b.phase + 1 } else { b with count := b.count + 1 }) ∧
      (b.owner = some s.task.procid.toNat → s.drained = true → b.count + 1 = b.p → ∀ core ctx, core ∈ clusterCores (clusterOf s.curCore) → ctx < 16 → ctxKey core ctx ≠ s.cur →
        let x := s.ctxAt (ctxKey core ctx)
        let y := t.ctxAt (ctxKey core ctx)
        x.state = .parked → x.wait = .barrier k → x.task.procid = s.task.procid → (x.task.barph.get k 0).setWidth 15 = b.phase →
        y.state = .ready ∧ y.task.pc = x.task.pc + 4 ∧ y.task.g = x.task.g)) ∧
    (member s → b.owner = some s.task.procid.toNat → s.me.state ≠ .stopped →
      let w := s.task.barph.get k 0
      if w.getLsbD 15 = true ∧ w.setWidth 15 ≠ b.phase then goesOn (.barw i) s fun t => (t.task.barph.get k 0).getLsbD 15 = false
      else ∃ t, exec (.barw i) s = .next t ∧ sameRegs s t ∧ t.mem = s.mem ∧ t.task.pc = s.task.pc ∧ t.me.state = .parked ∧ t.me.parkwhy = 7 ∧
        t.me.wait = .barrier k))

/-- R122 to R124: `alloc` gives 0 for a size of 0 or above 64 KiB, and `free` of 0 does nothing; otherwise they park with PARKWHY 1 until
the granary replies: an `alloc` with a block of the class in the die's list and records it as live, a `free` by putting the block back, or with the trap
of CLASS 16 for an address that is no live block. Both forms of each. -/
def Obligations.Granary : Prop :=
  let allocs : Instr → State → List Nat → Nat → Word → Nat → Prop := fun j s syn d size n =>
    if size.toNat = 0 ∨ 65536 < size.toNat then givesG j s syn d 0 n
    else parksFor j s syn 1 (.granary d size.toNat false 0 n) [.granaryReply (coreId s.curCore) (ctxId s.curCtx)]
  let frees : Instr → State → List Nat → Word → Nat → Prop := fun j s syn addr n =>
    if addr = 0 then goesTo j s syn (s.task.pc + BitVec.ofNat 64 (4 * n))
    else s.drained = true → parksFor j s syn 1 (.granary 0 0 true addr n) [.granaryReply (coreId s.curCore) (ctxId s.curCtx)]
  (∀ (s : State) (d a : BitVec 7), sound s [a.toNat] [d.toNat] [] [] → s.task.inEvent = false → s.me.state ≠ .stopped →
    allocs (.alloc d a) s [] d.toNat (s.g a.toNat) 1 ∧ frees (.free a) s [] (s.g a.toNat) 1) ∧
  (∀ (s : State) (e : Ext), sound s [e.a.toNat] [e.d.toNat] [] [] → allFull s e.syn → s.task.inEvent = false → s.me.state ≠ .stopped →
    allocs (.allocX e) s e.syn e.d.toNat (s.g e.a.toNat) e.words ∧ frees (.freeX e) s e.syn (s.g e.a.toNat) e.words) ∧
  (∀ (s : State) (core : CoreId) (ctx : CtxId) (d size n off : Nat),
    let k := ctxKey core.toNat ctx.toNat
    let p := (s.ctxAt k).task.procid.toNat
    let die := dieOf core.toNat
    let c := blockClass size
    (s.ctxAt k).state = .parked → (s.ctxAt k).wait = .granary d size false 0 n → (s.dieAt die).granary.get (granaryKey p c) [] = [off] → d < 256 →
    ∃ t, exec (.granaryReply core ctx) s = .next t ∧ t.mem = s.mem ∧ repliedG (s.ctxAt k) (t.ctxAt k) d (BitVec.ofNat 64 off) n ∧
      (t.dieAt die).granary.get (granaryKey p c) [] = [] ∧ (t.process p).blocks.find off = some c) ∧
  (∀ (s : State) (core : CoreId) (ctx : CtxId) (n : Nat) (addr : Word),
    let k := ctxKey core.toNat ctx.toNat
    let x := s.ctxAt k
    let p := x.task.procid.toNat
    let die := dieOf core.toNat
    x.state = .parked → x.wait = .granary 0 0 true addr n →
    (∀ c, (s.process p).blocks.find addr.toNat = some c →
      ∃ t, exec (.granaryReply core ctx) s = .next t ∧ t.mem = s.mem ∧ (t.ctxAt k).state = .ready ∧
        (t.ctxAt k).task = { x.task with pc := x.task.pc + BitVec.ofNat 64 (4 * n) } ∧ (t.process p).blocks.find addr.toNat = none ∧
        (t.dieAt die).granary.get (granaryKey p c) [] = (s.dieAt die).granary.get (granaryKey p c) [] ++ [addr.toNat]) ∧
    ((s.process p).blocks.find addr.toNat = none →
      ∃ t, exec (.granaryReply core ctx) s = .next t ∧ t.mem = s.mem ∧ (t.ctxAt k).task.epc = x.task.pc &&& ~~~3#64 ∧
        (t.ctxAt k).task.ecause.extractLsb' 0 8 = 16 ∧ (t.ctxAt k).task.einfo = addr))

/-- R77, R125: a grow of the scratchpad gives it its ways, which read as zero, and ends the issuer's park; a shrink takes effect once nothing
lies above the new split; `rfpart` in privileged mode drains the core, parking with PARKWHY 9, after which every context is FREE and the partition is the
new one. -/
def Obligations.CoreResources : Prop :=
  let zeroed : State → State → Nat → Nat → Nat → Prop := fun s t core lo hi =>
    (∀ a, lo ≤ a → a < hi → t.byteAt (sramKey core a) = 0) ∧ ∀ a, (a < sramKey core lo ∨ sramKey core hi ≤ a) → t.byteAt a = s.byteAt a
  (∀ (s : State) (core i n words : Nat), i < 16 → (s.coreAt core).wayCur < n →
    let k := ctxKey core i
    (s.ctxAt k).state = .parked → (s.ctxAt k).wait = .grow n words → (∀ j, j ≠ i → j < 16 → ∀ m w, (s.ctxAt (ctxKey core j)).wait ≠ .grow m w) →
    ∃ t, exec (.waymaskGrowDone core) s = .next t ∧ (t.coreAt core).wayCur = n ∧ zeroed s t core ((s.coreAt core).wayCur * 131072) (n * 131072) ∧
      (t.ctxAt k).state = .ready ∧ (t.ctxAt k).task.pc = (s.ctxAt k).task.pc + BitVec.ofNat 64 (4 * words) ∧ (t.ctxAt k).task.g = (s.ctxAt k).task.g) ∧
  (∀ (s : State) (core : Nat), let c := s.coreAt core
    c.wayPending = true → c.wayReq < c.wayCur →
    (c.copies = [] → c.allocs = [] → ∃ t, exec (.waymaskShrink core) s = .next t ∧ t.ctxs = s.ctxs ∧
      t.coreAt core = { c with wayCur := c.wayReq, wayPending := false } ∧ zeroed s t core (c.wayReq * 131072) (c.wayCur * 131072)) ∧
    (∀ p a, c.allocs = [(p, a)] → c.wayReq * 131072 < a.base + a.size → exec (.waymaskShrink core) s = .next (s.push (.waymaskShrink core)))) ∧
  (∀ (s : State) (i : BitVec 14), s.task.mode = false → traps (.rfpart i) s 2 0 0 (s.ir.zeroExtend 64)) ∧
  (∀ (s : State) (i : BitVec 14), s.task.mode = true → s.task.inEvent = true → traps (.rfpart i) s 12 9 0 0) ∧
  (∀ (s : State) (i : BitVec 14), s.task.mode = true → s.task.inEvent = false → s.me.state ≠ .stopped →
    let p := Part.ofCode i.toNat
    let c := s.coreAt s.curCore
    if p = c.part ∨ p.contexts < c.reserved.length then exec (.rfpart i) s = exec .exit s
    else ∃ t, exec (.rfpart i) s = .next t ∧ sameRegs s t ∧ t.mem = s.mem ∧ t.task.pc = s.task.pc ∧ t.me.state = .parked ∧ t.me.parkwhy = 9 ∧
      t.coreAt s.curCore = { c with drain := true } ∧ t.agenda = s.agenda ++ [.rfpartRepartition (coreId s.curCore)]) ∧
  (∀ (s : State) (core : CoreId) (i : Nat) (p : Part), i < 16 → (s.ctxAt (ctxKey core.toNat i)).wait = .rfpart p →
    (∀ j, j < 16 → j ≠ i → ∀ q, (s.ctxAt (ctxKey core.toNat j)).wait ≠ .rfpart q) → ({ s with cur := ctxKey core.toNat i }).coreDrained = true →
    ∃ t, exec (.rfpartRepartition core) s = .next t ∧ (t.coreAt core.toNat).part = p ∧ (t.coreAt core.toNat).drain = false ∧
      ∀ j, j < 16 → (t.ctxAt (ctxKey core.toNat j)).state = .free)

/-- R127 to R130: `go` to the own core only moves PC on; to another core's scratchpad it departs with PARKWHY 10, PC past it; a bounded task
raises a scheduler fault, and a task with loom work a migration fault. A departure leaves its context FREE and carries the registers that
LIVEG and LIVEV name; an arrival joins the inbound queue of its core. -/
def Obligations.Migration : Prop :=
  let goes : Instr → State → BitVec 16 → Word → Nat → Prop := fun j s sel ea n =>
    ∀ c, spaceOf s.curCore sel.toNat = some (.scratch c) → s.task.inEvent = false →
      (c = s.curCore → ∃ t, exec j s = .next t ∧ sameRegs s t ∧ t.mem = s.mem ∧ t.task.pc = s.task.pc + BitVec.ofNat 64 (4 * n)) ∧
      (c ≠ s.curCore → s.task.bounded = true → traps j s 13 1 0 0) ∧
      (c ≠ s.curCore → s.task.bounded = false → s.holdsLoom = true ∨ s.task.progV = true → traps j s 14 0 sel ea) ∧
      (c ≠ s.curCore → s.task.bounded = false → s.holdsLoom = false → s.task.progV = false → s.me.state ≠ .stopped →
        ∃ t, exec j s = .next t ∧ sameRegs s t ∧ t.mem = s.mem ∧ t.task.pc = s.task.pc + BitVec.ofNat 64 (4 * n) ∧ t.me.state = .parked ∧
          t.me.parkwhy = 10 ∧ t.me.wait = .depart c ∧ t.agenda = s.agenda ++ [.shuttleDepart (coreId s.curCore) (ctxId s.curCtx)])
  (∀ (s : State) (a : BitVec 7) (sp : BitVec 2) (i : BitVec 5), sound s [a.toNat] [] [] [] →
    goes (.go a sp i) s (s.task.space sp.toNat) (s.g a.toNat + i.signExtend 64 * 64) 1) ∧
  (∀ (s : State) (e : Ext), sound s [e.a.toNat, e.b.toNat] [] [] [] → allFull s e.syn →
    goes (.goX e) s (s.task.space e.sp.toNat) (s.g e.a.toNat + s.g e.b.toNat + e.imm.value) e.words) ∧
  (∀ (s : State) (core : CoreId) (ctx : CtxId) (dest : Nat),
    let k := ctxKey core.toNat ctx.toNat
    let x := s.ctxAt k
    x.wait = .depart dest → x.task.pend = 0 → ({ s with cur := k }).shuttleMissing = [] →
    (({ s with cur := k }).mayDepart = true →
      ∃ t h, exec (.shuttleDepart core ctx) s = .next t ∧ t.ctxAt k = {} ∧ t.pkg.shuttles.getLast? = some h ∧ h.2.1 = dest ∧
        h.1.pc = x.task.pc ∧ h.1.tid = x.task.tid ∧ (h.1.s0, h.1.s1, h.1.s2, h.1.s3, h.1.mode, h.1.procid, h.1.flags, h.1.skey, h.1.vtime) =
          (x.task.s0, x.task.s1, x.task.s2, x.task.s3, x.task.mode, x.task.procid, x.task.flags, x.task.skey, x.task.vtime) ∧
        (∀ r, h.1.gr r = if x.task.liveg.getLsbD r then x.task.gr r else 0) ∧ (∀ r, h.1.vr r = if x.task.livev.getLsbD r then x.task.vr r else 0) ∧
        Instr.shuttleArrive x.task.tid ∈ t.agenda ∧ Instr.takeWork core.toNat ∈ t.agenda) ∧
    (({ s with cur := k }).mayDepart = false → exec (.shuttleDepart core ctx) s = .next (s.push (.shuttleDepart core ctx)))) ∧
  (∀ (s : State) (tid dest lclk die : Nat) (x : Task), s.pkg.shuttles = [(x, dest, lclk, die)] → x.tid = tid →
    ((s.dieAt (dieOf dest)).wrapHold = true → exec (.shuttleArrive tid) s = .next (s.push (.shuttleArrive tid))) ∧
    ((s.dieAt (dieOf dest)).wrapHold = false → x.part = (s.coreAt dest).part → die = dieOf dest →
      ((s.coreAt dest).inbound.filter fun y => y.spillAt = none).length < 4 →
      ∃ t, exec (.shuttleArrive tid) s = .next t ∧ t.mem = s.mem ∧ t.ctxs = s.ctxs ∧ t.pkg = { s.pkg with shuttles := [] } ∧
        (t.coreAt dest).inbound = (s.coreAt dest).inbound ++ [x] ∧ (t.coreAt dest).lclk = max (s.coreAt dest).lclk lclk ∧
        t.agenda = s.agenda ++ [.takeWork dest]))

/-- R80, R290, R291, R349 to R352, R359: `spawn` and `spawn.grp` check their destination and code address and send a child to its core, parking with
PARKWHY 1; SPAWN_ARRIVE starts it in a FREE context with the registers that it carries, or answers 1, and the answer is written to D. A FREE
context takes an arrived thread, or a stolen record; a pre-emption holds a READY task; a resumed task whose lines are elsewhere recalls its image. When a slot counts as free
for a spawn is the model's choice (log entry 28), and so are the points of a theft that log entry 44 names and the lines of an image that
log entries 14 and 16 name. -/
def Obligations.TasksStart : Prop :=
  (∀ (s : State) (e : Ext) (grp : Bool), sound s [e.a.toNat, e.b.toNat, e.c.toNat, e.c.toNat + 1, e.c.toNat + 2, e.c.toNat + 3] [e.d.toNat] [] [] →
    allFull s e.syn → s.task.inEvent = false →
    let j : Instr := if grp then .spawnGrp e else .spawn e
    let core := (s.g e.a.toNat).toNat
    (255 < core → traps j s 11 1 0 0) ∧ (core ≤ 255 → s.g e.b.toNat &&& 3 ≠ 0 → traps j s 11 8 0 0) ∧
    (core ≤ 255 → s.g e.b.toNat &&& 3 = 0 → s.task.sendq = [] → s.drained = true → (s.coreAt s.curCore).waiting = [] → (s.coreAt s.curCore).streams = [] →
      s.mute s.curCore = false → s.me.state ≠ .stopped →
      ∃ t q p, exec j s = .next t ∧ sameRegs s t ∧ t.mem = s.mem ∧ t.task.pc = s.task.pc ∧ t.me.state = .parked ∧ t.me.parkwhy = 1 ∧
        t.me.wait = .spawnReply e.d.toNat e.words ∧ t.pkg.packets.find s.pkg.nextPacket = some q ∧ q.dest = core ∧ q.release = .spawnArrive p ∧
        p.core = core ∧ p.grp = grp ∧ p.code = s.g e.b.toNat ∧ p.frame = s.g 2 ∧ p.mode = s.task.mode ∧ p.procid = s.task.procid.toNat ∧
        p.regs = [s.g e.c.toNat, s.g (e.c.toNat + 1), s.g (e.c.toNat + 2), s.g (e.c.toNat + 3)])) ∧
  (∀ (s : State) (p : SpawnPkt), s.spawnSlot p.core = none → (p.grp = true → s.lastExits p.procid (clusterOf p.core) = []) →
    exec (.spawnArrive p) s = .next (s.push (.spawnReply (coreId p.src) (ctxId p.srcCtx) p.tid 1))) ∧
  (∀ (s : State) (p : SpawnPkt) (ctx : Nat) (el : Nat × State), s.spawnSlot p.core = some ctx → p.grp = false → p.ls = false → p.regs.length = 4 → ctx < 16 →
    s.takeElem p.procid (s.coreAt p.core).part.code = some el →
    ∃ t, exec (.spawnArrive p) s = .next t ∧ Instr.spawnReply (coreId p.src) (ctxId p.srcCtx) p.tid 0 ∈ t.agenda ∧
      let y := (t.ctxAt (ctxKey p.core ctx)).task
      (t.ctxAt (ctxKey p.core ctx)).state = .ready ∧ y.pc = p.code &&& ~~~3#64 ∧ y.mode = p.mode ∧ y.skey = p.skey ∧ y.procid = BitVec.ofNat 10 p.procid ∧
        y.gr 2 = p.frame ∧ y.gr 3 = p.taskidx ∧ (∀ i, i < 4 → y.gr (4 + i) = p.regs.getD i 0) ∧ (∀ r, 8 ≤ r → y.gr r = 0) ∧ y.gr 1 = 0 ∧
        ∀ r, y.vr r = 0) ∧
  (∀ (s : State) (core : CoreId) (ctx : CtxId) (d n tid v : Nat),
    let k := ctxKey core.toNat ctx.toNat
    (s.ctxAt k).state = .parked → (s.ctxAt k).wait = .spawnReply d n → (s.ctxAt k).task.tid = tid → d < 256 →
    ∃ t, exec (.spawnReply core ctx tid v) s = .next t ∧ t.mem = s.mem ∧ onlyCtx s t k ∧ repliedG (s.ctxAt k) (t.ctxAt k) d (BitVec.ofNat 64 v) n) ∧
  (∀ (s : State) (core i : Nat) (x : Task) (rest : List Task), let c := s.coreAt core
    (s.mayStart core = false → exec (.takeWork core) s = .next s) ∧
    (s.mayStart core = true → c.inbound = x :: rest → c.roots = [] → c.reserved = [] → c.claims = [] → i < c.part.contexts → (s.ctxAt (ctxKey core i)).state = .free →
      (∀ j, j < c.part.contexts → j ≠ i → (s.ctxAt (ctxKey core j)).state ≠ .free) →
      ∃ t, exec (.takeWork core) s = .next t ∧ (t.coreAt core).inbound.map (·.tid) = rest.map (·.tid) ∧
        let y := t.ctxAt (ctxKey core i)
        y.state = .ready ∧ y.task.pc = x.pc ∧ y.task.g = x.g ∧ y.task.v = x.v ∧ y.task.tid = x.tid)) ∧
  (∀ (s : State) (core ctx victim p : Nat), exec (.theftRequest core ctx victim p) s =
    .next (s.push (.theftReply core ctx victim p (s.topFor victim p core).isSome))) ∧
  (∀ (s : State) (core ctx victim p : Nat),
    let k := ctxKey core ctx
    ((s.ctxAt k).state ≠ .free → ∀ b, exec (.theftReply core ctx victim p b) s = .next s) ∧
    (∀ next more, (s.ctxAt k).state = .free → s.mayStart core = true → ctx ∈ s.freeContexts core →
      (victims core).dropWhile (· ≠ victim) = victim :: next :: more →
      exec (.theftReply core ctx victim p false) s = .next (s.push (.theftRequest core ctx next p))) ∧
    (∀ r el, (s.ctxAt k).state = .free → s.mayStart core = true → ctx ∈ s.freeContexts core → ctx < 16 → s.topFor victim p core = some r → r.ls = false →
      (s.spindle victim p).length ≤ 16 →
      s.takeElem p (s.coreAt core).part.code = some el →
      ∃ t, exec (.theftReply core ctx victim p true) s = .next t ∧ (t.ctxAt k).state = .ready ∧ (t.ctxAt k).task.pc = r.code &&& ~~~3#64 ∧
        (t.ctxAt k).task.gr 2 = r.frame ∧ (t.ctxAt k).task.gr 3 = r.taskidx.zeroExtend 64 ∧ t.spindle victim p = (s.spindle victim p).dropLast)) ∧
  (∀ (s : State) (core : CoreId) (ctx : CtxId),
    let k := ctxKey core.toNat ctx.toNat
    let x := s.ctxAt k
    (x.state = .free → exec (.preempt core ctx) s = .next s) ∧
    (x.state ≠ .free → s.coreHalted core.toNat = true → exec (.preempt core ctx) s = .next (s.push (.preempt core ctx))) ∧
    (x.state ≠ .free → s.coreHalted core.toNat = false → x.mayLeave = false →
      exec (.preempt core ctx) s = .next (s.setCtxAt k { x with preempt := true })) ∧
    (x.state = .ready → s.coreHalted core.toNat = false → x.task.sendq = [] →
      ∃ t h, exec (.preempt core ctx) s = .next t ∧ t.ctxAt k = {} ∧ (t.coreAt core.toNat).held.getLast? = some h ∧
        h.2.pc = x.task.pc ∧ h.2.g = x.task.g ∧ h.2.v = x.task.v ∧ h.2.mode = x.task.mode ∧ h.2.holder = some (core.toNat, ctx.toNat))) ∧
  (∀ (s : State) (core : CoreId) (ctx : CtxId) (hc hx : Nat),
    let k := ctxKey core.toNat ctx.toNat
    let x := s.ctxAt k
    x.state = .parked → x.wait = .recall hc hx →
    (x.task.pend = 0 → x.task.storecnt = 0 → x.task.holder ≠ none → ∃ t, exec (.imageRecall core ctx) s = .next t ∧
      (t.ctxAt k).task = { x.task with holder := none, absent := x.task.part.regLines } ∧ Instr.imageRecall core ctx ∈ t.agenda) ∧
    (x.task.pend = 0 → x.task.storecnt = 0 → x.task.holder = none → s.imageWrites (dieOf hc) = false →
      ∃ t, exec (.imageRecall core ctx) s = .next t ∧ t.mem = s.mem ∧ (t.ctxAt k).state = .ready ∧
        (t.ctxAt k).task = { x.task.restored with holder := some (core.toNat, ctx.toNat) }) ∧
    (x.task.storecnt ≠ 0 ∨ x.task.pend ≠ 0 → exec (.imageRecall core ctx) s = .next (s.push (.imageRecall core ctx))))

/-- R360, R362 to R367: each event of a node's walker makes one access, and what follows from it is owed, in order. A firing takes NCTL
from WAITING to RUNNING, and owes STATUS and the start; a completion takes it to DONE, or under CX to CANCELLED, and owes STATUS and the
tokens in SUCC order; a token lowers PREDS or counts in ERRORS; a visit of a cone cancels a node or sets its CX; a fault writes FINFO and, under
POLICY 1, advances RETRIES, or else makes the node FAULTED and owes STATUS, here of a node without successors; `ndone` arms a WAITING loom-only
node or completes a RUNNING one. No other byte changes. One access for each event, the accesses owed, and a fault that writes FINFO and NCTL in one
event are the model's choice (log entry 30). -/
def Obligations.Graphs : Prop :=
  let held : State → Nat → Word → Nat → Nat → Prop := fun s p a n pa => (∃ tr, s.cached 256 p false a.toNat = some tr) ∧
    s.sharedPlace p .load a n = some (.mem pa) ∧ s.sharedPlace p .store a n = some (.mem pa) ∧ s.backed pa = true ∧
    (isPeerMem pa || isPeerRegs pa) = false ∧ ∀ port, s.hostState (lineOf pa) port = 0
  let wrote : State → State → List (Nat × Nat × Nat) → Prop := fun s t ws =>
    (∀ w ∈ ws, readBytes t.mem w.1 w.2.1 = w.2.2 % 2 ^ (8 * w.2.1)) ∧ ∀ b, (∀ w ∈ ws, b < w.1 ∨ w.1 + w.2.1 ≤ b) → t.byteAt b = s.byteAt b
  let idle : State → State → Prop := fun s t => { t with dies := s.dies } = s
  let moved : Nat → Nat → Nat → Nat := fun w plus minus => (w + plus + 2 ^ 64 - minus) % 2 ^ 64
  let walks : State → Nat → Word → Entry → GraphAt → Prop := fun s launch a e g => s.entryOf launch = some e ∧
    g = { s.entryGraph e with die := s.nodeHome (s.entryGraph e) a } ∧ g.has a = true ∧
    ∃ ps, s.graphPlaces g a = some ps ∧ s.snoop true ps = none ∧ s.wrapWait g.die = none ∧ s.stampsAllow g.die ps = true
  let owes : State → Nat → Word → List GraphOp → Prop := fun t launch a ops =>
    (∃ k, t.workOf launch a = some k ∧ k.todo = ops) ∧ Instr.nodeComplete launch a ∈ t.agenda
  let done : State → GraphAt → Word → List GraphOp := fun s g a => .status 1 (2 ^ 16) :: (s.successors g.procid a).map .token ++ [.drop]
  (∀ (s : State) (launch : Nat) (a : Word) (e : Entry) (g : GraphAt) (pa pp : Nat), walks s launch a e g → held s g.procid a 4 pa →
    held s g.procid (a + 4) 4 pp → e.gateWait = false → s.dieHalted (s.nodeHome g a) = false → s.earlierFire g launch a = false →
    s.workOf launch a = none →
    let w := readBytes s.mem pa 4
    let n := readBytes s.mem pp 4
    let st := w / 16 % 8
    ∃ t, exec (.nodeFire launch a) s = .next t ∧
      if n = 0 ∧ st = 0 then wrote s t [(pa, 4, w + 16)] ∧ owes t launch a [.status (2 ^ 16) 0, .start]
      else if n = 0 ∧ st = 5 then wrote s t [(pa, 4, w - 48)] ∧ owes t launch a (.status (2 ^ 16) 0 :: done s g a)
      else idle s t) ∧
  (∀ (s : State) (launch : Nat) (a : Word) (e : Entry) (g : GraphAt) (pa pb : Nat) (k : NodeWork), walks s launch a e g →
    held s g.procid a 4 pa → held s g.procid (g.addr + 0x10) 8 pb → s.workOf launch a = some k →
    let w := readBytes s.mem pa 4
    let st := readBytes s.mem pb 8
    ∃ t, exec (.nodeComplete launch a) s = .next t ∧
      (k.todo = [] → k.live ≠ 0 → idle s t) ∧
      (k.todo = [] → k.live = 0 → k.retry = false → k.faulted = true → t.mem = s.mem ∧ t.workOf launch a = none) ∧
      (k.todo = [] → k.live = 0 → k.retry = false → k.faulted = false → w / 16 % 8 = 1 →
        if w / 128 % 2 = 1 then wrote s t [(pa, 4, w + 32)] ∧ owes t launch a [.status (2 ^ 32) (2 ^ 16), .drop]
        else wrote s t [(pa, 4, w + 16)] ∧ owes t launch a (done s g a)) ∧
      ∀ rest,
        (∀ plus minus, k.todo = .status plus minus :: rest → wrote s t [(pb, 8, moved st plus minus)] ∧
          t.workOf launch a = some { k with todo := rest }) ∧
        (∀ idx pp, k.todo = .token idx :: rest → idx < g.count → held s g.procid (g.node idx + 4) 4 pp → 0 < readBytes s.mem pp 4 →
          wrote s t [(pp, 4, readBytes s.mem pp 4 - 1)] ∧ t.workOf launch a = some { k with todo := rest }) ∧
        (∀ idx pi, k.todo = .visit idx :: rest → held s g.procid (g.node idx) 4 pi →
          let v := readBytes s.mem pi 4
          if v / 16 % 8 = 0 then wrote s t [(pi, 4, v + 48)] ∧ owes t launch a (.status (2 ^ 32) 0 :: rest)
          else if v / 16 % 8 = 5 then wrote s t [(pi, 4, v - 32)] ∧ owes t launch a (.status (2 ^ 32) 0 :: rest)
          else if v / 16 % 8 = 1 ∧ v / 128 % 2 = 0 then wrote s t [(pi, 4, v + 128)] ∧ t.workOf launch a = some { k with todo := rest }
          else t.mem = s.mem ∧ t.workOf launch a = some { k with todo := rest }) ∧
        (k.todo = .drop :: rest → t.mem = s.mem ∧ t.workOf launch a = none) ∧
        (k.todo = .start :: rest → w % 4 = 2 → t.mem = s.mem ∧ t.workOf launch a = none) ∧
        (k.todo = .start :: rest → w % 4 = 0 → ∃ k', t.workOf launch a = some k' ∧ k'.live = s.nodeField g.procid a 0x24 4)) ∧
  (∀ (s : State) (launch cause : Nat) (a : Word) (e : Entry) (g : GraphAt) (pa pf ps : Nat) (k : NodeWork), walks s launch a e g →
    held s g.procid a 4 pa → held s g.procid (a + 0x28) 4 pf → held s g.procid (a + 0x20) 4 ps → readBytes s.mem ps 4 = 0 →
    ([(pa, 4), (pf, 4), (ps, 4)] : List (Nat × Nat)).Pairwise (fun x y => x.1 + x.2 ≤ y.1 ∨ y.1 + y.2 ≤ x.1) →
    s.workOf launch a = some k → k.faulted = false → k.retry = false → k.todo = [] →
    let w := readBytes s.mem pa 4
    ∃ t, exec (.nodeFault launch a cause) s = .next t ∧
      if w / 16 % 8 ≠ 1 then idle s t
      else if w / 128 % 2 = 1 then wrote s t [(pf, 4, cause)]
      else if w / 4 % 2 = 1 ∧ w / 256 % 4 < 3 then wrote s t [(pf, 4, cause), (pa, 4, w + 256)] ∧ ∃ k', t.workOf launch a = some k' ∧ k'.retry = true
      else wrote s t [(pf, 4, cause), (pa, 4, w + 48)] ∧ owes t launch a [.status (2 ^ 48) (2 ^ 16)] ∧
        ∃ k', t.workOf launch a = some k' ∧ k'.faulted = true) ∧
  (∀ (s : State) (g : GraphAt) (launch idx pp pe : Nat), held s g.procid (g.node idx + 4) 4 pp → held s g.procid (g.addr + 0x18) 4 pe →
    let n := readBytes s.mem pp 4
    (idx < g.count → 0 < n → wrote s (s.token g launch idx) [(pp, 4, n - 1)] ∧ (n = 1 → Instr.nodeFire launch (g.node idx) ∈ (s.token g launch idx).agenda)) ∧
    (g.count ≤ idx ∨ n = 0 → wrote s (s.token g launch idx) [(pe, 4, readBytes s.mem pe 4 + 1)])) ∧
  (∀ (s : State) (x : BitVec 7) (e : Ext) (ext : Bool), let j : Instr := if ext then .ndoneX e else .ndone x
    let r := if ext then e.a.toNat else x.toNat
    let syn := if ext then e.syn else []
    let n := if ext then e.words else 1
    let a := s.g r
    let p := s.task.procid.toNat
    sound s [r] [] [] [] → allFull s syn →
    (s.task.inEvent = true → traps j s 12 9 0 0) ∧ (s.task.inEvent = false → a.toNat % 64 ≠ 0 → traps j s 3 0 0 a) ∧
    (∀ pl ps pa, s.task.inEvent = false → s.check .atomic 0 a 64 64 = .ok pl → s.drained = true → s.donePlaces p a = some ps → s.snoop true ps = none →
      s.wrapWait (dieOf s.curCore) = none → s.stampsAllow (dieOf s.curCore) ps = true → held s p a 4 pa →
      let w := readBytes s.mem pa 4
      let ends := fun (v : Nat) => ∃ t, exec j s = .next t ∧ sameRegs s t ∧ t.task.pc = s.task.pc + BitVec.ofNat 64 (4 * n) ∧ wrote s t [(pa, 4, v)] ∧
        ∀ en g, s.graphOf p a = some (en, g) → w / 16 % 8 = 1 → s.workOf en.launch a = none →
          owes t en.launch a (if w / 128 % 2 = 1 then [.status (2 ^ 32) (2 ^ 16), .drop] else done s g a)
      (w % 4 ≠ 2 ∨ (2 ≤ w / 16 % 8) → traps j s 13 5 0 0) ∧
      (w % 4 = 2 → w / 16 % 8 = 0 → ends (w + 80)) ∧
      (w % 4 = 2 → w / 16 % 8 = 1 → ends (if w / 128 % 2 = 1 then w + 32 else w + 16))))

/-- R219, R226, R233, R240: CHOWN is honoured only while the channel is IDLE; an aperture store enters a command, or is refused with its
cause and one record of KIND 5, or waits while four commands are queued; the completion of a copy counts in DONE, posts when its POST is set, and
leaves the channel IDLE when nothing is left, unbound unless PIN. CAUSE 8 of a store to a channel that is not pinned, or of a process without a
template table, CAUSE 6 of a template in a line in error, FAULTED while copies run, and the unbinding that keeps PROCID are the model's choices (log
entry 35). -/
def Obligations.CopyEnds : Prop :=
  let calm : State → Nat → Prop := fun s ch => (∀ k, ∀ w, (s.ctxAt k).wait ≠ .channel ch w) ∧ ∀ x ∈ s.ctxs, ∀ p b n m w, x.2.wait ≠ .publish p b n m w
  (∀ (s : State) (core ch : Nat) (v : Word),
    let y := (s.coreAt core).chans.get ch {}
    (y.state ≠ 0 → 6 ≤ s.pkg.phase → exec (.chownWrite core ch (v, none)) s = .next s) ∧
    (y.state = 0 → 6 ≤ s.pkg.phase → ∃ t, exec (.chownWrite core ch (v, none)) s = .next t ∧ t.mem = s.mem ∧ t.ctxs = s.ctxs ∧
      (t.coreAt core).chans.get ch {} = { y with procid := v.toNat % 1024, v := v.getLsbD 10, pin := v.getLsbD 11 })) ∧
  (∀ (s : State) (core ch : Nat) (v : Word), calm s ch → 6 ≤ s.pkg.phase →
    let c := s.coreAt core
    let y := c.chans.get ch {}
    let idx := v.toNat % 256
    let refused := fun (u : State) (cause : Nat) (st : Nat) => ∃ t r, exec (.apertureStore core ch v (none, none)) s = .next t ∧ t.mem = u.mem ∧ t.ctxs = u.ctxs ∧
      (t.coreAt core).copies = (u.coreAt core).copies ∧ ((t.coreAt core).chans.get ch {}).state = st ∧ t.pkg.records = u.pkg.records ++ [r] ∧ r.kind = 5 ∧
      r.cause = cause ∧ r.unit = ch ∧ r.core = core ∧ r.info = BitVec.ofNat 64 idx
    let few := (c.copies.filter fun x => !x.running).length < 4
    (y.v = false ∨ y.pin = false → refused s 8 y.state) ∧
    (y.v = true → y.pin = true → ¬ few → exec (.apertureStore core ch v (none, none)) s = .next { s with agenda := .apertureStore core ch v (none, none) :: s.agenda }) ∧
    (y.v = true → y.pin = true → few → s.templateAt y.procid idx = none → refused s 8 4) ∧
    (∀ a, y.v = true → y.pin = true → few → s.templateAt y.procid idx = some a → s.readRecord core y.procid 1 a true = none → refused s 10 4) ∧
    (∀ a n, y.v = true → y.pin = true → few → s.templateAt y.procid idx = some a → s.readRecord core y.procid 1 a true = some (.bad n) → refused s 6 4) ∧
    (∀ a u, y.v = true → y.pin = true → few → s.templateAt y.procid idx = some a → s.readRecord core y.procid 1 a true = some (.wait u) →
      exec (.apertureStore core ch v (none, none)) s = .next { u with agenda := .apertureStore core ch v (none, none) :: u.agenda }) ∧
    (∀ a r u, y.v = true → y.pin = true → few → s.templateAt y.procid idx = some a → s.readRecord core y.procid 1 a true = some (.ok r u) → calm u ch →
      let tm := (Template.ofRecord r).resolve (v.sshiftRight 8)
      if (Template.ofRecord r).refused = true then refused u 3 4
      else match u.startCheck core y.procid tm with
        | some cause => refused u cause 4
        | none => ∃ t x, exec (.apertureStore core ch v (none, none)) s = .next t ∧ t.mem = u.mem ∧ (t.coreAt core).copies = (u.coreAt core).copies ++ [x] ∧ x.ch = ch ∧
            x.procid = y.procid ∧ x.tindex = idx ∧ x.src = tm.src ∧ x.dst = tm.dst ∧ x.rowbytes = tm.rowbytes ∧ x.rows = tm.rows ∧ x.running = false ∧
            Instr.copyStart (coreId core) ∈ t.agenda)) ∧
  (∀ (s : State) (core : CoreId) (x : Copy), (s.coreAt core.toNat).copies = [x] → x.running = true → calm s x.ch → x.walker = none → x.token = false →
    x.cscope < 2 → s.groupAt x.procid (clusterOf core.toNat) = none → (s.coreAt core.toNat).waiting = [] → (s.coreAt core.toNat).streams = [] →
    let y := (s.coreAt core.toNat).chans.get x.ch {}
    (s.coreHalted core.toNat = true → exec (.copyComplete core x.serial) s = .next (s.push (.copyComplete core x.serial))) ∧
    (s.coreHalted core.toNat = false → s.engineWaits core.toNat x.serial = false → ∃ t, exec (.copyComplete core x.serial) s = .next t ∧ t.mem = s.mem ∧ t.ctxs = s.ctxs ∧
      (t.coreAt core.toNat).copies = [] ∧ (t.coreAt core.toNat).chans.get x.ch {} = { y with
        done := y.done + 1, cscope := x.cscope, state := 0, v := y.v && y.pin } ∧
      (x.post = true → ∃ q p, t.pkg.packets.find s.pkg.nextPacket = some q ∧ q.release = .postArrive p ∧ q.dest = p.core ∧
        (p.core, p.index) = counterOf x.mbox.toNat ∧ p.inc = x.minc ∧ p.procid = x.procid) ∧
      (x.post = false → t.pkg.packets = s.pkg.packets)))

/-- R329, R331, R332, R333, R335: PDSYNC takes a process descriptor in, or refuses it and disables the queues of a process that was valid;
QSYNC starts a queue afresh, reserves its contexts, or leaves it DISABLED, and does nothing to an ACTIVE queue; the doorbells do what Table 5 says; a
header of the wrong phase is read again, sixteen times, and then stalls the queue; a malformed or unreadable entry stops it with CAUSE 1 or 3; any other
is taken and RDIDX moves on. What the rules leave open of PDSYNC, of QSYNC with unfinished entries and of the doorbells is the model's choice (log entry
29), and so is that PDBASE and QTBASE hold device physical addresses (log entry 25). -/
def Obligations.Queues : Prop :=
  let f : Nat → Nat → Nat → Nat := fun d off n => d / 2 ^ (8 * off) % 2 ^ (8 * n)
  let queue : State → Nat → Queue := fun s q => s.pkg.queues.get q {}
  let still : State → State → Prop := fun s t => t.mem = s.mem ∧ t.ctxs = s.ctxs
  (∀ (s : State) (p : Nat),
    let d := readBytes s.mem (s.pkg.pdbase.toNat + 256 * p) 256
    let good := d % 2 = 1 ∧ d / 2 % 2 ^ 63 = 0 ∧ f d 0x18 8 = 0 ∧ f d 0xC0 64 = 0 ∧
      (∀ i, i < 10 → f d (0x2C + 16 * i) 4 = 0 ∧ f d (0x20 + 16 * i) 8 % (poolElem i).2 = 0) ∧ 16 ≤ f d 0xA8 4 ∧ f d 0xA8 4 ≤ 2 ^ 20 ∧
      (f d 0xB8 4 = 0 ∨ f d 0xB8 4 = 256)
    p < 1024 → s.backed (s.pkg.pdbase.toNat + 256 * p) = true → 6 ≤ s.pkg.phase → s.snoop false (tablePlaces (s.pkg.pdbase.toNat + 256 * p) 256) = none →
    (good → ∃ t, exec (.pdsyncWrite (p, none)) s = .next t ∧ still s t ∧ (t.process p).valid = true ∧ (t.process p).sroot.toNat = f d 8 8 ∧
      (t.process p).proot.toNat = f d 0x10 8 ∧ (∀ i, i < 10 → ((t.process p).pools.get i {}).base.toNat = f d (0x20 + 16 * i) 8 ∧
        ((t.process p).pools.get i {}).count = f d (0x28 + 16 * i) 4)) ∧
    (¬ good → (s.process p).valid = true → ∃ t, exec (.pdsyncWrite (p, none)) s = .next t ∧ still s t ∧ t.process p = { s.process p with valid := false } ∧
      t.pkg.entries = s.pkg.entries ∧ ∀ q, queue t q = if (queue s q).procid = p then { queue s q with state := .disabled, cause := 0 } else queue s q) ∧
    (¬ good → (s.process p).valid = false → exec (.pdsyncWrite (p, none)) s = .next s)) ∧
  (∀ (s : State) (q : Nat),
    let d := readBytes s.mem (s.pkg.qtbase.toNat + 64 * q) 64
    let cls := d / 8 % 4
    let resv := d / 2 ^ 20 % 16
    let mask : Nat → Bool := fun c => d.testBit (256 + c)
    let others : State → Nat → List (Nat × Nat) := fun u c => (u.coreAt c).reserved.filter fun x => x.2 ≠ q
    let ranged := if cls = 0 then 1 ≤ resv ∧ resv ≤ 4 ∧ 2800 ≤ f d 0x10 4 ∧ f d 0x10 4 ≤ 2 ^ 31 else resv = 0 ∧ f d 0x10 4 = 0 ∧ f d 0x14 4 = 0 ∧ f d 0x20 32 = 0
    let good := d % 2 = 1 ∧ d / 2 ^ 24 % 2 ^ 40 = 0 ∧ f d 0x18 8 = 0 ∧ 4 ≤ d / 32 % 32 ∧ d / 32 % 32 ≤ 16 ∧ f d 8 8 % 4096 = 0 ∧ ranged ∧
      (s.process (d / 1024 % 1024)).valid = true ∧ (cls = 0 → ∀ c, c < 256 → mask c = true → (others s c).length + resv ≤ (s.coreAt c).part.contexts)
    s.backed (s.pkg.qtbase.toNat + 64 * q) = true → 6 ≤ s.pkg.phase → s.snoop false (tablePlaces (s.pkg.qtbase.toNat + 64 * q) 64) = none →
    (4096 ≤ q ∨ (queue s q).state = .active → exec (.qsyncWrite (q, none)) s = .next s) ∧
    (q < 4096 → (queue s q).state ≠ .active → (∀ e ∈ s.pkg.entries, e.queue = q → e.cls ≠ 0) → ∃ t, exec (.qsyncWrite (q, none)) s = .next t ∧ still s t ∧ (∀ r, r ≠ q → queue t r = queue s r) ∧
      (¬ good → queue t q = { queue s q with state := .disabled, cause := 0 }) ∧
      (good → (let x := queue t q
        x.state = .idle ∧ x.cause = 0 ∧ x.rdidx = 0 ∧ x.wridx = 0 ∧ x.dev = d.testBit 1 ∧ x.mode = d.testBit 2 ∧ x.cls = cls ∧ x.log2 = d / 32 % 32 ∧
        x.procid = d / 1024 % 1024 ∧ x.resv = resv ∧ x.base.toNat = f d 8 8 ∧ x.period = f d 0x10 4 ∧ x.budget = f d 0x14 4 ∧
        x.cmask.toNat = f d 0x20 32) ∧ ∀ c, c < 256 → others t c = others s c ∧
          ((t.coreAt c).reserved.filter fun x => x.2 = q).length = if cls = 0 ∧ mask c = true then resv else 0)) ∧
    (∀ e ∈ s.pkg.entries, 4096 ≤ q ∨ (e.queue = q → e.cls ≠ 0) ∨ (queue s q).state = .active ∨ ∃ t e', exec (.qsyncWrite (q, none)) s = .next t ∧ still s t ∧
      e' ∈ t.pkg.entries ∧ e'.id = e.id ∧ { e' with queue := e.queue } = e ∧ { queue t e'.queue with state := (queue s q).state } = queue s q)) ∧
  (∀ (s : State) (q : Nat) (v : BitVec 32), 6 ≤ s.pkg.phase →
    let x := queue s q
    (x.state = .disabled ∨ x.dev = true → exec (.doorbellWridx q (v, none)) s = .next s) ∧
    (x.state ≠ .disabled → x.dev = false → ∃ t, exec (.doorbellWridx q (v, none)) s = .next t ∧ still s t ∧ Instr.queueRead ∈ t.agenda ∧
      if 2 ^ x.log2 < (v - x.rdidx).toNat then queue t q = { x with wridx := v, state := .error, cause := 2 } ∧
        if x.state = .error then t.pkg.records = s.pkg.records else ∃ r, t.pkg.records = s.pkg.records ++ [r] ∧ r.kind = 11 ∧ r.cause = 2 ∧
          r.procid = x.procid ∧ r.info = BitVec.ofNat 64 (x.erridx.toNat + 2 ^ 32 * q)
      else if x.state = .idle ∨ x.state = .active then queue t q = { x with wridx := v, state := if x.rdidx = v then .idle else .active }
      else queue t q = { x with wridx := v }) ∧
    (x.state = .stalled ∨ x.state = .error → ∃ t, exec (.doorbellRdidx q (v, none)) s = .next t ∧ still s t ∧ queue t q = { x with rdidx := v }) ∧
    (x.state ≠ .stalled → x.state ≠ .error → exec (.doorbellRdidx q (v, none)) s = .next s ∧ exec (.doorbellResume (q, none)) s = .next s) ∧
    (x.state = .stalled ∨ x.state = .error → ∃ t, exec (.doorbellResume (q, none)) s = .next t ∧ still s t ∧ Instr.queueRead ∈ t.agenda ∧
      queue t q = { x with state := if x.rdidx = x.wridx then .idle else .active, polls := 0, pollAt := 0 }) ∧
    let first := s.pkg.entries.find? fun e => e.queue % 4096 = q && e.cls = 0 && e.launch = 0 && !e.rejected
    (x.state = .disabled ∨ x.cls ≠ 0 ∨ first = none ∨ (∃ e, first = some e ∧ (queue s e.queue).deferred = false) → exec (.doorbellDrop (q, none)) s = .next s) ∧
    (∀ e, x.state ≠ .disabled → x.cls = 0 → first = some e → (queue s e.queue).deferred = true → ∃ t, exec (.doorbellDrop (q, none)) s = .next t ∧ still s t ∧
      queue t e.queue = { queue s e.queue with deferred := false } ∧ Instr.entryComplete e.id ∈ t.agenda ∧ ∃ e', e' ∈ t.pkg.entries ∧ e'.id = e.id ∧ e'.rejected = true)) ∧
  (∀ (s : State) (q : Nat) (x : Queue) (again : Bool), s.pkg.queues = [(q, x)] → x.state = .active → (again = true ↔ x.polls ≠ 0) →
    let j : Instr := if again then .headerRepoll q else .queueRead
    let slot := x.base + BitVec.ofNat 64 (128 * (x.rdidx.toNat % 2 ^ x.log2))
    let stops := fun (st : QState) (cause : Nat) => ∃ t r, exec j s = .next t ∧ still s t ∧
      queue t q = { x with state := st, cause, erridx := x.rdidx, polls := 0 } ∧ t.pkg.entries = s.pkg.entries ∧ t.pkg.records = s.pkg.records ++ [r] ∧
      r.kind = 11 ∧ r.cause = cause ∧ r.procid = x.procid ∧ r.info = BitVec.ofNat 64 (x.rdidx.toNat + 2 ^ 32 * q)
    (again = true ∧ s.pkg.refCycle < x.pollAt → exec j s = .next (s.push j)) ∧
    (s.tablesHere x.procid [slot, slot + 64] →
    ((again = true → x.pollAt ≤ s.pkg.refCycle) → s.sharedPlace x.procid .load slot 64 = none → stops .error 3) ∧
    (∀ a b, (again = true → x.pollAt ≤ s.pkg.refCycle) → s.sharedPlace x.procid .load slot 64 = some a → s.sharedPlace x.procid .load (slot + 64) 64 = some b → s.snoop false [a, b] = none →
      let d := s.readPlace a 64 + 2 ^ 512 * s.readPlace b 64
      let e := entryFrom d s.pkg.serial q x.rdidx x
      (d % 2 ≠ 1 - x.rdidx.toNat / 2 ^ x.log2 % 2 → (x.polls = 16 → stops .stalled 0) ∧ (x.polls ≠ 16 → ∃ t, exec j s = .next t ∧ still s t ∧
        queue t q = { x with polls := x.polls + 1, pollAt := s.pkg.refCycle + 64 } ∧ t.pkg.entries = s.pkg.entries ∧ Instr.headerRepoll q ∈ t.agenda)) ∧
      (d % 2 = 1 - x.rdidx.toNat / 2 ^ x.log2 % 2 → e.malformed d x = true → stops .error 1) ∧
      (d % 2 = 1 - x.rdidx.toNat / 2 ^ x.log2 % 2 → e.malformed d x = false → ∃ t, exec j s = .next t ∧ still s t ∧
        queue t q = { x with rdidx := x.rdidx + 1, polls := 0, state := if x.rdidx + 1 = x.wridx then .idle else .active } ∧
        (∃ e', t.pkg.entries = s.pkg.entries ++ [e'] ∧ e'.queue = q ∧ e'.index = x.rdidx ∧ e'.procid = x.procid ∧ e'.launch = 0 ∧ e'.kind = f d 1 1 ∧
          e'.code.toNat = f d 8 8 ∧ e'.frame.toNat = f d 0x10 8 ∧ e'.spread = f d 0x18 3 ∧ e'.compl.toNat = f d 0x28 8 ∧ e'.skey.toNat = f d 0x30 8 ∧
          e'.rejected = decide (64 < f d 0x1B 1))))))

/-- R337, R338, R342, R343, R345, R347, R358, R369, R370: an entry starts when no earlier conflicting entry is left, a SPREAD entry with
one record for each root on its core, the lowest on top; it completes with its status word, or with a post, or with a record of KIND 12; a period
renews the budget; a task past COST with no operation in flight is stopped with scheduler fault 7; a swap moves the allocations of a group; the gates of a weight load open once
nothing runs there; the preference moves to the next candidate; the limits of tokens are divided anew. Roots that wait for room in a spindle,
the dies of a WEIGHT entry and an empty pool's one record are the model's choices (log entries 29, 31, 33). -/
def Obligations.EntriesAndDies : Prop :=
  let queue : State → Nat → Queue := fun s q => s.pkg.queues.get q {}
  let proj : Rec → Word × Word × BitVec 48 × Bool × Bool × Bool × Nat × Option Nat := fun r =>
    (r.code, r.frame, r.taskidx, r.mode, r.ls, r.pin, r.launch, r.grp)
  (∀ (s : State) (e : Entry), s.pkg.entries = [e] → e.launch = 0 → e.rejected = false → e.cm = false → e.cls ≠ 0 → e.cls < 4 →
    (e.kind = 4 → ∃ t, exec (.entryStart e.procid) s = .next t ∧ t.mem = s.mem ∧ t.ctxs = s.ctxs ∧ t.pkg.nextLaunch = s.pkg.nextLaunch + 1 ∧
      t.pkg.entries = [{ e with launch := s.pkg.nextLaunch }] ∧ Instr.entryComplete e.id ∈ t.agenda) ∧
    (let roots : Nat → List (Word × Word × BitVec 48 × Bool × Bool × Bool × Nat × Option Nat) := fun core =>
        ((List.range e.spread).filter fun i => e.rootCore i = core).map fun i =>
          (e.code, e.frame, BitVec.ofNat 48 i, e.mode, e.ls, decide (2 ≤ e.place), s.pkg.nextLaunch, none)
      let room : Nat → Nat := fun core => s.scap e.procid - (s.spindle core e.procid).length
      e.kind = 1 → e.grp = false → (∀ core, (s.spindle core e.procid).length + min (room core) (roots core).length ≤ 16) →
      ∃ t, exec (.entryStart e.procid) s = .next t ∧ t.mem = s.mem ∧ t.ctxs = s.ctxs ∧
        t.pkg.entries = [{ e with launch := s.pkg.nextLaunch, live := e.spread }] ∧
        ∀ core, (t.spindle core e.procid).map proj = (roots core).take (room core) ++ (s.spindle core e.procid).map proj ∧
          ((t.coreAt core).roots.get e.procid []).map proj = ((s.coreAt core).roots.get e.procid []).map proj ++ (roots core).drop (room core))) ∧
  (∀ (s : State) (a e : Entry), s.pkg.entries = [a, e] → a.launch ≠ 0 → a.procid = e.procid → a.id < e.id → e.launch = 0 → e.rejected = false →
    e.cm = false → e.grp = false →
    (a.kind = 4 ∨ e.kind = 4 ∨ ∃ x ∈ a.ranges, ∃ y ∈ e.ranges, (x.2.2 = true ∨ y.2.2 = true) ∧ 0 < x.2.1 ∧ 0 < y.2.1 ∧
      x.1 / 256 ≤ (y.1 + y.2.1 - 1) / 256 ∧ y.1 / 256 ≤ (x.1 + x.2.1 - 1) / 256) → exec (.entryStart e.procid) s = .next s) ∧
  (∀ (s : State) (q : Nat),
    let x := queue s q
    (x.cls ≠ 0 ∨ (x.state = .disabled ∧ ∀ e ∈ s.pkg.entries, e.queue ≠ q) → exec (.periodStart q) s = .next s) ∧
    (x.cls = 0 → (x.state ≠ .disabled ∨ ∃ e ∈ s.pkg.entries, e.queue = q) → ∃ t, exec (.periodStart q) s = .next t ∧ t.mem = s.mem ∧ t.ctxs = s.ctxs ∧
      queue t q = { x with remaining := x.budget } ∧ Instr.entryStart x.procid ∈ t.agenda)) ∧
  (∀ (s : State) (e : Entry), s.pkg.entries = [e] → e.kind = 1 → e.launch ≠ 0 → e.rejected = false → e.admitted = none → e.gateWait = false →
    (e.gates = true → s.withdrawnBusy = false) → s.tablesHere e.procid [e.compl] →
    let code := if e.faulted then 2 else if e.late then 5 else 1
    (e.live ≠ 0 → exec (.entryComplete e.id) s = .next s) ∧
    (∀ pa, e.live = 0 → e.cm = true → s.sharedPlace e.procid .store e.compl 8 = some (.mem pa) → s.snoop true [.mem pa] = none → s.backed pa = true →
      (isPeerMem pa || isPeerRegs pa) = false → ∃ t, exec (.entryComplete e.id) s = .next t ∧ t.pkg.entries = [] ∧ storedAt s t pa 8 (code + 2 ^ 32 * e.index.toNat)) ∧
    (e.live = 0 → e.cm = true → s.sharedPlace e.procid .store e.compl 8 = none → ∃ t r, exec (.entryComplete e.id) s = .next t ∧ t.pkg.entries = [] ∧
      t.mem = s.mem ∧ t.pkg.records = s.pkg.records ++ [r] ∧ r.kind = 12 ∧ r.procid = e.procid) ∧
    (e.live = 0 → e.cm = false → (s.coreAt ioDie).waiting = [] → (s.coreAt ioDie).streams = [] → ∃ t p k, exec (.entryComplete e.id) s = .next t ∧
      t.pkg.entries = [] ∧ t.mem = s.mem ∧ t.pkg.packets.find s.pkg.nextPacket = some k ∧ k.release = .postArrive p ∧
      (p.core, p.index) = counterOf e.compl.toNat ∧ p.inc = 1 ∧ p.procid = e.procid)) ∧
  (∀ (s : State) (id : Nat) (e : Entry), (s.pkg.entries.find? fun e => e.id = id) = some e →
    ((∃ x ∈ s.ctxs, dieOf (x.1 / 16) ∈ e.dies ∧ x.2.state ≠ .free) → exec (.weightGateOpen id) s = .next (s.push (.weightGateOpen id))) ∧
    ((∀ x ∈ s.ctxs, dieOf (x.1 / 16) ∈ e.dies → x.2.state = .free) → ∃ t, exec (.weightGateOpen id) s = .next t ∧ t.mem = s.mem ∧ t.ctxs = s.ctxs ∧
      (∀ d, (t.dieAt d).gateOpen = if d < 4 ∧ e.target.testBit d = true then true else (s.dieAt d).gateOpen) ∧
      ∀ x ∈ t.pkg.entries, x.id = id → x.gateWait = false)) ∧
  (∀ (s : State) (p cl : Nat) (g : Group), s.groupAt p cl = some g →
    (s.swappable p cl g = false → exec (.allocSwapOut p cl) s = .next s) ∧
    (s.swappable p cl g = true → s.takeBacking p 4 = none → 6 ∉ (s.process p).reported → ∃ t r, exec (.allocSwapOut p cl) s = .next t ∧ t.mem = s.mem ∧
      t.groupAt p cl = some g ∧ t.pkg.records = s.pkg.records ++ [r] ∧ r.kind = 7 ∧ r.procid = p ∧ r.info = 6) ∧
    (∀ imgs u w, s.swappable p cl g = true → s.takeBacking p 4 = some (imgs, u) →
      ((List.range 4).foldl (fun (o : Option State) i => o.bind fun v => match v.alloc (coreOf cl i) p with
        | some a => v.copyOut (coreOf cl i) p (imgs.getD i 0) a
        | none => some v) (some u)) = some w →
      ∃ t, exec (.allocSwapOut p cl) s = .next t ∧ t.mem = w.mem ∧ t.groupAt p cl = some { g with
        swapped := true, backing := imgs.mapIdx fun i b => (i, b) } ∧ ∀ i, i < 4 → t.alloc (coreOf cl i) p = none) ∧
    (g.swapped = false → exec (.allocSwapIn p cl) s = .next s) ∧
    (g.swapped = true → (s.allocCluster p cl g.size).isSome →
      (s.readBackings p cl g 4 = none ∨ (∃ n, s.readBackings p cl g 4 = some (.bad n)) → exec (.allocSwapIn p cl) s = .next s) ∧
      (∀ v, s.readBackings p cl g 4 = some (.wait v) → exec (.allocSwapIn p cl) s = .next (v.push (.allocSwapIn p cl))) ∧
      ∀ vs v u, s.readBackings p cl g 4 = some (.ok vs v) → v.allocCluster p cl g.size = some u →
        ∃ t, exec (.allocSwapIn p cl) s = .next t ∧ t.groupAt p cl = some { g with swapped := false, backing := [] } ∧
          (∀ i, i < 4 → t.alloc (coreOf cl i) p = u.alloc (coreOf cl i) p) ∧
          t.mem = ((List.range 4).foldl (fun v i => match v.alloc (coreOf cl i) p with
            | some a => v.copyIn (coreOf cl i) a (vs.getD i [])
            | none => v) u).mem)) ∧
  (∀ (s : State) (core : CoreId) (ctx : CtxId) (tid : Nat),
    let k := ctxKey core.toNat ctx.toNat
    let x := s.ctxAt k
    (x.state = .free ∨ x.state = .stopped ∨ x.task.tid ≠ tid ∨ (x.state = .parked ∧ x.task.inFlight x.wait = true) →
      exec (.boundedCostExpire core ctx tid) s = .next s) ∧
    ((x.state = .ready ∨ x.state = .parked) → x.task.tid = tid → x.task.inFlight x.wait = false → x.task.node = none → ∃ t r, exec (.boundedCostExpire core ctx tid) s = .next t ∧
      t.mem = s.mem ∧ onlyCtx s { t with pkg := s.pkg, agenda := s.agenda } k ∧ t.pkg.records = s.pkg.records ++ [r] ∧ r.kind = 3 ∧ r.cls = 13 ∧ r.cause = 7 ∧
      (t.ctxAt k).state = .parked ∧ (t.ctxAt k).wait = .exit ∧
      (t.ctxAt k).task.killed = true ∧ (t.ctxAt k).task.epc = x.task.pc &&& ~~~3#64 ∧
      (t.ctxAt k).task.ecause.extractLsb' 0 16 = 0x070D)) ∧
  (∀ (s : State) (die : DieId),
    let work := s.runnable die.toNat
    let cur := (s.dieAt die.toNat).preferred
    let top : Nat → Prop := fun p => p < 1024 ∧ ∃ c, c ≤ 3 ∧ (p, c) ∈ work ∧ ∀ x ∈ work, c ≤ x.2
    let turn : Nat → Nat := fun p => (p + 2047 - cur) % 1024
    cur < 1024 →
    ((∀ p, ¬ top p) → exec (.quantumBoundary die) s = .next s) ∧
    ((∃ p, top p) → ∃ t, exec (.quantumBoundary die) s = .next t ∧ t.mem = s.mem ∧ t.ctxs = s.ctxs ∧ top (t.dieAt die.toNat).preferred ∧
      ∀ p, top p → turn (t.dieAt die.toNat).preferred ≤ turn p)) ∧
  (∀ s : State, ∃ t, exec .tokenRedivision s = .next t ∧ t.mem = s.mem ∧ t.pkg.arbEpoch = s.pkg.arbEpoch + 1 ∧
    let b := if s.pkg.boot.point then 256 else 160
    let want : Nat → Nat := fun d => min 64 (s.tokensOn d + (s.dieAt d).tokQueue.length)
    let l : Nat → Nat := fun d => (t.dieAt d).limit
    let sum := l 0 + l 1 + l 2 + l 3
    (∀ d, d < 4 → min (want d) (b / 4) ≤ l d ∧ l d ≤ want d) ∧ sum ≤ b ∧ (sum = b ∨ ∀ d, d < 4 → l d = want d))

/-- R353, R354, R357, R371: `fork` pushes one record at the bottom of its core's spindle; `join` parks for its atomic, and its reply
goes on at 1, ends the task above 1 and faults below; `qsub` parks for its entry, and the reply writes it to its slot under the phase that is
expected and moves WRIDX; `ptok.take` and `ptok.give` move the counts of tokens; with the scheduler faults of each. -/
def Obligations.SchedulerInstructions : Prop :=
  (∀ (s : State) (e : Ext), sound s [e.a.toNat, e.b.toNat, e.c.toNat] [] [] [] → allFull s e.syn →
    let p := s.task.procid.toNat
    let q := s.spindle s.curCore p
    (s.task.inEvent = true → traps (.fork e) s 12 9 0 0) ∧
    (s.task.inEvent = false → s.task.bounded = true → traps (.fork e) s 13 1 0 0) ∧
    (s.task.inEvent = false → s.task.bounded = false → s.g e.a.toNat &&& 3 ≠ 0 → traps (.fork e) s 13 8 0 0) ∧
    (s.task.inEvent = false → s.task.bounded = false → s.g e.a.toNat &&& 3 = 0 → s.scap p ≤ q.length → traps (.fork e) s 13 2 0 0) ∧
    (s.task.inEvent = false → s.task.bounded = false → s.g e.a.toNat &&& 3 = 0 → q.length < s.scap p → 16 ≤ q.length →
      ∃ t, exec (.fork e) s = .next t ∧ (s.me.state ≠ .stopped → t.me.state = .parked) ∧ t.me.parkwhy = 1 ∧ t.me.wait = .accepted e.words ∧
        t.task.pc = s.task.pc) ∧
    (s.task.inEvent = false → s.task.bounded = false → s.g e.a.toNat &&& 3 = 0 → q.length < s.scap p → q.length < 16 → s.drained = true →
      ∃ t r, exec (.fork e) s = .next t ∧ sameRegs s t ∧ t.mem = s.mem ∧ t.task.pc = s.task.pc + BitVec.ofNat 64 (4 * e.words) ∧
        t.spindle s.curCore p = r :: q ∧
        r = { code := s.g e.a.toNat, frame := s.g e.b.toNat, g4 := s.g e.c.toNat, taskidx := s.task.taskidx.setWidth 48, grp := s.task.group
              mode := s.task.mode, ls := s.task.ls, launch := s.task.launch, node := s.task.node, born := some s.pkg.refCycle } ∧ Instr.takeWork s.curCore ∈ t.agenda)) ∧
  (∀ (s : State) (x : BitVec 7) (e : Ext) (ext : Bool), let j : Instr := if ext then .joinX e else .join x
    let r := if ext then e.a.toNat else x.toNat
    let syn := if ext then e.syn else []
    let n := if ext then e.words else 1
    sound s [r] [] [] [] → allFull s syn →
    (s.task.inEvent = true → traps j s 12 9 0 0) ∧
    (s.task.inEvent = false → (s.g r).toNat % 8 ≠ 0 → traps j s 3 0 0 (s.g r)) ∧
    (∀ pa, s.task.inEvent = false → s.check .atomic 0 (s.g r) 8 8 = .ok (.mem pa) → s.drained = true → s.me.state ≠ .stopped →
      ∃ t q, exec j s = .next t ∧ sameRegs s t ∧ t.mem = s.mem ∧ t.task.pc = s.task.pc ∧ t.me.state = .parked ∧ t.me.parkwhy = 1 ∧ t.me.wait = .req q ∧
        q.todo = [⟨.mem pa, 8⟩] ∧ q.done = [] ∧ q.sink = .join ∧ q.atom = some (.dec, 0, 0) ∧ q.acq = true ∧ q.scope = 4 ∧ q.words = n ∧
        Instr.homeAtomic (coreId s.curCore) (ctxId s.curCtx) ∈ t.agenda)) ∧
  (∀ (w old : Nat), old < 2 ^ 64 → atomicNew .dec 64 old 0 w = if 0 < old ∧ old < 2 ^ 63 then some (old - 1) else none) ∧
  (∀ (s : State) (core : CoreId) (ctx : CtxId) (r : Req) (old : Nat),
    let k := ctxKey core.toNat ctx.toNat
    let x := s.ctxAt k
    x.state = .parked → x.wait = .req r → r.error = false → r.todo = [] → r.sink = .join → r.done = [old] → old < 2 ^ 64 →
    (old = 1 → ∃ t, exec (.loadReply core ctx) s = .next t ∧ (t.ctxAt k).state = .ready ∧
      (t.ctxAt k).task = { x.task with pc := x.task.pc + BitVec.ofNat 64 (4 * r.words) }) ∧
    (1 < old → old < 2 ^ 63 → ({ s with cur := k }).mayEnd = true → ∃ t, exec (.loadReply core ctx) s = .next t ∧ (t.ctxAt k).state = .free) ∧
    (old = 0 ∨ 2 ^ 63 ≤ old → ∃ t, exec (.loadReply core ctx) s = .next t ∧ t.mem = s.mem ∧
      (t.ctxAt k).task.ecause.extractLsb' 0 16 = 0x030D ∧ (t.ctxAt k).task.epc = x.task.pc &&& ~~~3#64)) ∧
  (∀ (s : State) (e : Ext), sound s [e.a.toNat, e.b.toNat] [] [] [] → allFull s e.syn →
    let q := (s.g e.a.toNat).toNat
    let ea := s.g e.b.toNat
    let x := s.pkg.queues.get q {}
    let open_ := q ≤ 4095 ∧ x.state ≠ .disabled ∧ x.procid = s.task.procid.toNat ∧ x.dev = true
    (s.task.inEvent = true → traps (.qsub e) s 12 9 0 0) ∧
    (s.task.inEvent = false → s.task.bounded = true → traps (.qsub e) s 13 1 0 0) ∧
    (s.task.inEvent = false → s.task.bounded = false → ¬ open_ → traps (.qsub e) s 13 4 0 0) ∧
    (s.task.inEvent = false → s.task.bounded = false → open_ → ea.toNat % 128 ≠ 0 → traps (.qsub e) s 3 0 0 ea) ∧
    (∀ es, s.task.inEvent = false → s.task.bounded = false → open_ → ea.toNat % 128 = 0 → s.me.state ≠ .stopped →
      s.checkAll .load 0 8 1 ((List.range 16).map fun i => ea + BitVec.ofNat 64 (8 * i)) = .ok es →
      ((x.wridx - x.rdidx).toNat = 2 ^ x.log2 → parksFor (.qsub e) s [] 6 (.queueRoom q) []) ∧
      ((x.wridx - x.rdidx).toNat ≠ 2 ^ x.log2 → s.drained = true → ∃ t r, exec (.qsub e) s = .next t ∧ sameRegs s t ∧ t.mem = s.mem ∧
        t.task.pc = s.task.pc ∧ t.me.state = .parked ∧ t.me.parkwhy = 1 ∧ t.me.wait = .req r ∧ r.sink = .entry q ∧ r.words = e.words))) ∧
  (∀ (s : State) (core : CoreId) (ctx : CtxId) (r : Req) (q a b : Nat),
    let k := ctxKey core.toNat ctx.toNat
    let y := s.ctxAt k
    let x := s.pkg.queues.get q {}
    let slot := x.base + BitVec.ofNat 64 (128 * (x.wridx.toNat % 2 ^ x.log2))
    let d := r.done.foldr (fun v t => v + 2 ^ 64 * t) 0
    let d' := d / 2 * 2 + (1 - x.wridx.toNat / 2 ^ x.log2 % 2)
    y.state = .parked → y.wait = .req r → r.error = false → r.todo = [] → r.sink = .entry q → r.done.length = 16 → (∀ v ∈ r.done, v < 2 ^ 64) →
    x.state = .idle ∨ x.state = .active → x.dev = true → (x.wridx - x.rdidx).toNat < 2 ^ x.log2 → x.log2 ≤ 16 →
    s.sharedPlace x.procid .store slot 64 = some (.mem a) → s.sharedPlace x.procid .store (slot + 64) 64 = some (.mem b) →
    s.snoop true [.mem a, .mem b] = none → s.tablesHere x.procid [slot, slot + 64] → (isPeerMem a || isPeerRegs a || isPeerMem b || isPeerRegs b) = false →
    s.backed a = true → s.backed b = true → (a + 64 ≤ b ∨ b + 64 ≤ a) →
    ∃ t, exec (.loadReply core ctx) s = .next t ∧ readBytes t.mem a 64 = d' % 2 ^ 512 ∧ readBytes t.mem b 64 = d' / 2 ^ 512 ∧
      (∀ c, (c < a ∨ a + 64 ≤ c) → (c < b ∨ b + 64 ≤ c) → t.byteAt c = s.byteAt c) ∧
      t.pkg.queues.get q {} = { x with wridx := x.wridx + 1, state := if x.rdidx = x.wridx + 1 then .idle else .active } ∧
      (t.ctxAt k).state = .ready ∧ (t.ctxAt k).task = { y.task with pc := y.task.pc + BitVec.ofNat 64 (4 * r.words) }) ∧
  (∀ (s : State) (e : Ext) (give : Bool), sound s [e.a.toNat] [e.d.toNat] [] [] → allFull s e.syn →
    let j : Instr := if give then .ptokGive e else .ptokTake e
    let n := (s.g e.a.toNat).toNat
    let die := dieOf s.curCore
    let held := s.task.tokHeld
    let req := s.task.tokReq
    let gives := fun (c : State → Prop) => ∃ t, exec j s = .next t ∧ tookG s t e.d.toNat (BitVec.ofNat 64 t.task.tokHeld) (s.task.pc + BitVec.ofNat 64 (4 * e.words)) ∧ c t
    ((s.dieAt die).tokQueue.count s.task.tid = req) →
    (give = false → s.tokpt < held + req + n → traps j s 13 6 0 0) ∧
    (give = false → held + req + n ≤ s.tokpt → gives fun t => t.task.tokHeld + t.task.tokReq = held + req + n ∧ held ≤ t.task.tokHeld ∧
      ((s.dieAt die).limit ≤ s.tokensOn die → t.task.tokHeld = held) ∧
      ((s.dieAt die).tokQueue = [] → s.tokensOn die < (s.dieAt die).limit → 0 < n → held < t.task.tokHeld)) ∧
    (give = true → req ≤ n → gives fun t => t.task.tokReq = 0 ∧ t.task.tokHeld = held - (n - req)) ∧
    (give = true → n < req → gives fun t => t.task.tokHeld + t.task.tokReq = held + req - n ∧ held ≤ t.task.tokHeld))

/-- R386, R387, R389, R393, R396, R437: the oldest record is written at its place in Table 6's layout and FQTAIL moves on, or waits in a
full ring; a response RESUMEs, RESUMEs AT XRESPA or TERMINATEs the context, channel or slot that it names, and is ignored for any other; a
stop of a domain by HCTL or by an error makes its contexts STOPPED, their divides done, and
a restart gives them back their state; a walk's leaf enters the caches of its die and its core. That the oldest translation leaves a full cache is the
model's choice (log entry 9), and so is that FQBASE holds a device physical address (log entry 25). -/
def Obligations.FaultsAndHalts : Prop :=
  (∀ (s : State) (r : FaultRec) (rest : List FaultRec), s.pkg.records = r :: rest →
    let p := s.pkg
    let pa := p.fqbase.toNat + 32 * (p.fqtail.toNat % 2 ^ p.fqlog2)
    ((p.fqtail - p.fqhead).toNat = 2 ^ p.fqlog2 → exec .faultRecordWrite s = .next (s.push .faultRecordWrite)) ∧
    ((p.fqtail - p.fqhead).toNat ≠ 2 ^ p.fqlog2 → s.snoop true [.mem pa] = none → s.backed pa = true → (isPeerMem pa || isPeerRegs pa) = false → p.ivtcount ≤ p.fqvec.toNat →
      ∃ t, exec .faultRecordWrite s = .next t ∧ t.pkg.records = rest ∧ t.pkg.fqtail = p.fqtail + 1 ∧
        readBytes t.mem pa 3 = r.kind % 256 + 2 ^ 8 * (r.cls % 256) + 2 ^ 16 * (r.cause % 256) ∧
        readBytes t.mem (pa + 3) 1 = r.w.toNat + 2 * r.x.toNat + 4 * r.pmode.toNat ∧
        readBytes t.mem (pa + 4) 4 = r.procid % 1024 + 2 ^ 10 * (r.core % 256) + 2 ^ 18 * (r.unit % 16) ∧
        readBytes t.mem (pa + 8) 8 = r.pc.toNat ∧ readBytes t.mem (pa + 16) 8 = r.info.toNat ∧
        readBytes t.mem (pa + 24) 8 = r.sel.toNat + 2 ^ 16 * (r.image.toNat / 2 ^ 12 % 2 ^ 36) ∧
        ∀ a, (a < pa ∨ pa + 32 ≤ a) → t.byteAt a = s.byteAt a)) ∧
  (∀ (s : State) (v : Word), 6 ≤ s.pkg.phase →
    let core := (v >>> 6).toNat % 256
    let unit := (v >>> 14).toNat % 16
    let k := ctxKey core unit
    let x := s.ctxAt k
    let target := (v >>> 4).toNat % 4
    let image := (v >>> 18).toNat % 2 ^ 36
    let named := (x.wait = .response ∨ x.wait = .saved x.task.key) ∧ x.task.image.toNat / 2 ^ 12 % 2 ^ 36 = image ∧
      ∀ r ∈ s.pkg.records, ¬ ((r.kind = 1 ∨ r.kind = 2) ∧ r.core = core ∧ r.unit = unit ∧ r.image = x.task.image ∧ r.procid = x.task.procid.toNat)
    (target = 3 → exec (.xrespResume (v, none)) s = .next s ∧ exec (.xrespResumeAt (v, none)) s = .next s ∧ exec (.xrespTerminate (v, none)) s = .next s) ∧
    (target = 1 ∨ target = 2 → exec (.xrespResumeAt (v, none)) s = .next s) ∧
    (target = 0 → named → x.state = .parked →
      ((∀ y ∈ s.ctxs, ∀ h, y.2.wait = .saved h → h / 1024 / 2 ^ 12 % 2 ^ 36 = image → y.1 = k) →
        ∃ t, exec (.xrespResume (v, none)) s = .next t ∧ t.mem = s.mem ∧ onlyCtx s t k ∧ (t.ctxAt k).state = .ready ∧ (t.ctxAt k).task = x.task) ∧
      (∃ t, exec (.xrespResumeAt (v, none)) s = .next t ∧ t.mem = s.mem ∧ onlyCtx s t k ∧ (t.ctxAt k).state = .ready ∧
        (t.ctxAt k).task = { x.task with pc := s.pkg.xrespa &&& ~~~3#64 }) ∧
      (x.task.node = none → ∃ t, exec (.xrespTerminate (v, none)) s = .next t ∧ t.mem = s.mem ∧ onlyCtx s t k ∧ (t.ctxAt k).state = .parked ∧
        (t.ctxAt k).wait = .exit ∧ (t.ctxAt k).task = { x.task with killed := true, inEvent := false, sendOut := none })) ∧
    (target = 0 → ¬ named → (∀ h ∈ (s.coreAt core).held, ¬ (h.2.waits = true ∧ h.2.waitUnit = unit ∧ h.2.image.toNat / 2 ^ 12 % 2 ^ 36 = image)) →
      exec (.xrespResumeAt (v, none)) s = .next s ∧ exec (.xrespTerminate (v, none)) s = .next s) ∧
    (∀ y : Copy, target = 1 → (s.coreAt core).copies = [y] → y.ch = unit → y.running = true → y.tfault = true →
      (∀ r ∈ s.pkg.records, ¬ (r.kind = 4 ∧ r.core = core ∧ r.unit = unit)) →
      (∃ t, exec (.xrespResume (v, none)) s = .next t ∧ t.mem = s.mem ∧ (t.coreAt core).copies = [{ y with tfault := false }] ∧
        ((t.coreAt core).chans.get unit {}).state = 2 ∧ t.agenda = s.agenda ++ [.copyLineWritten (coreId core) y.serial]) ∧
      (y.walker = none → (∀ k, ∀ w, (s.ctxAt k).wait ≠ .channel unit w) → (∀ z ∈ s.ctxs, ∀ p b n m w, z.2.wait ≠ .publish p b n m w) →
        ∃ t, exec (.xrespTerminate (v, none)) s = .next t ∧ t.mem = s.mem ∧ (t.coreAt core).copies = [] ∧ ((t.coreAt core).chans.get unit {}).state = 5)) ∧
    (∀ lp, target = 2 → (s.coreAt core).lps.find unit = some lp → lp.waiting = true → lp.ending = false →
      (∀ r ∈ s.pkg.records, ¬ (r.kind = 6 ∧ r.core = core ∧ r.unit = unit)) → ∃ t y, exec (.xrespResume (v, none)) s = .next t ∧ t.mem = s.mem ∧
        (t.coreAt core).lps.find unit = some y ∧ y.waiting = false ∧ Instr.tmsgReoffer core unit ∈ t.agenda)) ∧
  (∀ (s : State) (core dom : Nat) (tids : List Nat) (ctx : Option Nat) (byError : Bool), (byError = false → 6 ≤ s.pkg.phase) →
    let j : Instr := if byError then .uncorrectableError core (tids, ctx) else .hctlStop (dom, none)
    let d := if byError then s.domainOf core else dom % 8
    (byError = true → core < 256) → s.pkg.halted.getLsbD d = false →
    ∃ t, exec j s = .next t ∧ t.mem = s.mem ∧ t.pkg.halted = s.pkg.halted ||| (1#8 <<< d) ∧
      (byError = true → t.pkg.badTasks = s.pkg.badTasks ++ tids) ∧
      ∀ c i, c < 256 → i < (s.coreAt c).part.contexts →
        let x := s.ctxAt (ctxKey c i)
        let y := t.ctxAt (ctxKey c i)
        let long := match x.wait with
          | .divide _ _ _ | .vlong _ _ _ _ => true
          | _ => false
        (s.domainOf c = d → y.state = .stopped ∧ (∃ h, (t.coreAt c).halt = some h ∧ h.cause = (if byError then 4 else 1) ∧
            h.procid = match ctx, byError with
              | some n, true => (s.ctxAt (ctxKey core n)).task.procid.toNat
              | _, _ => 0) ∧
          (long = false → y.task.pc = x.task.pc ∧ y.task.g = x.task.g ∧ (x.state ≠ .stopped → (∀ m, (s.coreAt m).loomq = []) → y.prior = x.state)) ∧
          ∀ e v n, x.wait = .divide e v n → x.state = .parked → y.task.gr e = (if e = 0 then 0 else v) ∧ y.task.pc = x.task.pc + BitVec.ofNat 64 (4 * n) ∧
            ((∀ m, (s.coreAt m).loomq = []) → y.prior = .ready)) ∧
        (s.domainOf c ≠ d → long = false → y.state = x.state)) ∧
  (∀ (s : State) (dom : Nat), 6 ≤ s.pkg.phase →
    (s.pkg.halted.getLsbD (dom % 8) = false → exec (.hctlRestart (dom, none)) s = .next s) ∧
    (s.pkg.halted.getLsbD (dom % 8) = true → s.pkg.badTasks = [] → ∃ t, exec (.hctlRestart (dom, none)) s = .next t ∧ t.mem = s.mem ∧
      t.pkg.halted = s.pkg.halted &&& ~~~(1#8 <<< (dom % 8)) ∧ ∀ c i, c < 256 → i < 16 →
        let x := s.ctxAt (ctxKey c i)
        let y := t.ctxAt (ctxKey c i)
        y.task = x.task ∧ if s.domainOf c = dom % 8 ∧ x.state = .stopped then (if x.prior = .parked ∧ x.met = true then y.state = .ready else y.state = x.prior ∧ y.wait = x.wait)
          else y = x)) ∧
  (∀ (s : State) (p : Nat) (priv : Bool) (off : Nat),
    ((∀ d ∈ s.dies, ∀ w ∈ d.2.walks, w.2 ≠ (p, priv, off)) → exec (.translationWalkDone p priv off) s = .next s) ∧
    (∀ dn d more core rest, s.dies = (dn, d) :: more → d.walks = (core, p, priv, off) :: rest → s.tableOwned core p priv off = none →
      ∃ t, exec (.translationWalkDone p priv off) s = .next t ∧ t.mem = s.mem ∧ t.ctxs = s.ctxs ∧ t.pkg = s.pkg ∧ t.agenda = s.agenda ∧
        (t.dieAt dn).walks = rest ∧ (s.walk p priv off = none → t.cores = s.cores ∧ (t.dieAt dn).tlb = d.tlb) ∧
        ∀ x, s.walk p priv off = some x →
          (t.dieAt dn).tlb = (if d.tlb.length < 16384 then d.tlb else d.tlb.drop 1) ++ [x] ∧
          (t.coreAt core).tlb = (if (s.coreAt core).tlb.length < 256 then (s.coreAt core).tlb else (s.coreAt core).tlb.drop 1) ++ [x]))

/-- R398 to R402: `sys` performs SETSPACE and GETSPACE at the gate, gives ENOSYS below 256 and EARG for what the gate rejects, reports a
pointer that is not mapped, and otherwise parks with PARKWHY 1 while its call waits for the service core; calls run one at a time in order, and the
reply moves the caller on with no register changed but g4 to g9, whose values are free, or g4 alone where its status is 2. A status that is never EARG,
and what the firmware leaves in registers and memory, are the model's choices (log entry 13). `xlinv` drops the translations that it names. -/
def Obligations.SystemCalls : Prop :=
  (∀ (s : State) (i : BitVec 14), s.task.inEvent = true → sound s (callRegs i.toNat) [] [] [] → traps (.sys i) s 12 9 0 0) ∧
  (∀ (s : State) (i : BitVec 14), s.task.inEvent = false → sound s (callRegs i.toNat) [] [] [] → s.me.state ≠ .stopped →
    let n := i.toNat
    (s.mayEnd = false → parksFor (.sys i) s [] 1 .drained []) ∧
    (s.mayEnd = true →
      (n < 256 → n ≠ 16 → n ≠ 17 → ∃ t, exec (.sys i) s = .next t ∧ tookG s t 4 2 (s.task.pc + 4)) ∧
      (n = 16 → 3 < (s.g 4).toNat ∨ 65536 ≤ (s.g 5).toNat → ∃ t, exec (.sys i) s = .next t ∧ tookG s t 4 1 (s.task.pc + 4)) ∧
      (n = 16 → (s.g 4).toNat ≤ 3 → (s.g 5).toNat < 65536 → ∃ t, exec (.sys i) s = .next t ∧ t.mem = s.mem ∧ t.task.pc = s.task.pc + 4 ∧ t.g 4 = 0 ∧
        (∀ r, r ≠ 4 → t.g r = s.g r) ∧ (∀ r, t.vreg r = s.vreg r) ∧
        ∀ k, k < 4 → t.task.space k = if k = (s.g 4).toNat then (s.g 5).setWidth 16 else s.task.space k) ∧
      (n = 17 → ∃ t, exec (.sys i) s = .next t ∧ t.mem = s.mem ∧ t.task.pc = s.task.pc + 4 ∧ t.g 4 = 0 ∧
        t.g 5 = s.task.s3 ++ s.task.s2 ++ s.task.s1 ++ s.task.s0 ∧ (∀ r, r ≠ 4 → r ≠ 5 → t.g r = s.g r) ∧ ∀ r, t.vreg r = s.vreg r) ∧
      (256 ≤ n → s.gateRejects = true → ∃ t, exec (.sys i) s = .next t ∧ tookG s t 4 1 (s.task.pc + 4)) ∧
      (∀ l, 256 ≤ n → s.gateRejects = false → s.gateMiss = some (.retry 1 (.hostLine l)) → ∃ t, exec (.sys i) s = .next t ∧ sameRegs s t ∧ t.mem = s.mem ∧
        t.task.pc = s.task.pc ∧ t.me.state = .parked ∧ t.me.parkwhy = 1 ∧ t.me.wait = .hostLine l) ∧
      (∀ sel ea, 256 ≤ n → s.gateRejects = false → s.gateMiss = some (.miss sel ea false false) → ∃ t r, exec (.sys i) s = .next t ∧ sameRegs s t ∧ t.mem = s.mem ∧
        t.task.pc = s.task.pc ∧ t.me.state = .parked ∧ t.me.parkwhy = 8 ∧ t.me.wait = .response ∧ t.pkg.records = s.pkg.records ++ [r] ∧
        r.kind = 1 ∧ r.w = false) ∧
      (256 ≤ n → s.gateRejects = false → s.gateMiss = none → ∃ t, exec (.sys i) s = .next t ∧ sameRegs s t ∧ t.mem = s.mem ∧ t.task.pc = s.task.pc ∧
        t.me.state = .parked ∧ t.me.parkwhy = 1 ∧ t.me.wait = .syscall n ∧ t.agenda = s.agenda ++ [.serviceCallStart (dieOf s.curCore)] ∧
        (t.dieAt (dieOf s.curCore)).calls = (s.dieAt (dieOf s.curCore)).calls ++ [(s.curCore, s.curCtx, n)]))) ∧
  (∀ s : State, 2 ^ 24 ≤ (s.g 10).toNat → s.gateRejects = true) ∧
  (∀ (s : State) (die : Nat),
    let d := s.dieAt die
    let halted := s.coreHalted (coreOf (die * 16) 0) = true
    (d.calls = [] ∨ d.running ≠ none → exec (.serviceCallStart die) s = .next s) ∧
    (∀ c rest, d.calls = c :: rest → d.running = none → (halted → exec (.serviceCallStart die) s = .next (s.push (.serviceCallStart die))) ∧
      (¬ halted → ∃ t, exec (.serviceCallStart die) s = .next t ∧ t.mem = s.mem ∧ t.ctxs = s.ctxs ∧ t.dieAt die = { d with
        calls := rest, running := some c } ∧ t.agenda = s.agenda ++ [.sysReply die])) ∧
    (d.running = none → exec (.sysReply die) s = .next s) ∧
    (∀ core ctx n, d.running = some (core, ctx, n) → (halted → exec (.sysReply die) s = .next (s.push (.sysReply die))) ∧
      (¬ halted → ctx < 16 → (s.ctxAt (ctxKey core ctx)).wait = .syscall n → (s.ctxAt (ctxKey core ctx)).state = .parked →
        let x := s.ctxAt (ctxKey core ctx)
        ∃ t, exec (.sysReply die) s = .next t ∧ (t.dieAt die).running = none ∧
          let y := t.ctxAt (ctxKey core ctx)
          y.state = .ready ∧ y.task.pc = x.task.pc + 4 ∧ y.task.gr 4 ≠ 1 ∧ (∀ r, r < 4 ∨ 9 < r → y.task.gr r = x.task.gr r) ∧
            (y.task.gr 4 = 2 → ∀ r, r ≠ 4 → y.task.gr r = x.task.gr r) ∧ ∀ r, y.task.vr r = x.task.vr r))) ∧
  (∀ (s : State) (e : Ext) (which : Fin 3),
    let j : Instr := if which = 0 then .xlinvAll e else if which = 1 then .xlinvPage e else .xlinvProc e
    let regs := if which = 0 then [] else if which = 1 then [e.a.toNat, e.b.toNat] else [e.b.toNat]
    let pid := (s.g e.b.toNat).toNat % 1024
    let drops : Trans → Prop := fun x => which = 0 ∨ x.procid = pid ∧ (which = 2 ∨ x.base ≤ (s.g e.a.toNat).toNat ∧ (s.g e.a.toNat).toNat < x.base + 2 ^ x.log2)
    sound s regs [] [] [] → allFull s e.syn →
    (s.task.mode = false → traps j s 2 0 0 (s.ir.zeroExtend 64)) ∧
    (s.task.mode = true → s.drained = true → ∃ t, exec j s = .next t ∧ sameRegs s t ∧ t.mem = s.mem ∧
      t.task.pc = s.task.pc + BitVec.ofNat 64 (4 * e.words) ∧ (∀ x, x ∈ t.pkg.trans ↔ x ∈ s.pkg.trans ∧ ¬ drops x) ∧
      (∀ c x, x ∈ (t.coreAt c).tlb ↔ x ∈ (s.coreAt c).tlb ∧ ¬ drops x) ∧ ∀ d x, x ∈ (t.dieAt d).tlb ↔ x ∈ (s.dieAt d).tlb ∧ ¬ drops x))

/-- R330, R382, R386, R389, R407, R409, R410, R414, R433: a 64-bit store at an aligned offset of the register space writes the register that lies
there, within its range, or is the event that its page gives; any other width, a read-only register and an unused offset change nothing,
and before READY every store is discarded. A store from the port that is not active is counted in STBYDROP and does nothing else, but for LEASE. That
PDBASE, QTBASE, FQBASE and IVTBASE keep every bit stored is the model's choice (log entry 38). -/
def Obligations.RegisterSpace : Prop :=
  let w : State → Nat → Word → Host.Outcome State Fault Refusal := fun s off v => exec (.registerWrite off v 8 (none, none)) s
  let dropped : State → Host.Outcome State Fault Refusal := fun s => .next { s with pkg := { s.pkg with stbyDrop := s.pkg.stbyDrop + 1 } }
  (∀ (s : State) (off size : Nat) (v : Word), s.pkg.phase < 6 → exec (.registerWrite off v size (none, none)) s = .next s) ∧
  (∀ (s : State) (off size : Nat) (v : Word) (p : Bool),
    (off = 0xC0 ∧ size = 8 → exec (.registerWrite off v size (none, (some p))) s = exec (.leaseWrite p v) s) ∧
    (off ≠ 0xC0 ∨ size ≠ 8 → (s.pkg.phase < 6 → exec (.registerWrite off v size (none, (some p))) s = .next s) ∧
      (6 ≤ s.pkg.phase → p ≠ s.pkg.port → exec (.registerWrite off v size (none, (some p))) s = dropped s) ∧
      (6 ≤ s.pkg.phase → p = s.pkg.port → exec (.registerWrite off v size (none, (some p))) s = exec (.registerWrite off v size (none, none)) s))) ∧
  (∀ (s : State) (p : Bool) (v : Word) (x : BitVec 32) (core k n : Nat), let js : Option Bool → List Instr := fun h =>
      [.pdsyncWrite (n, h), .qsyncWrite (n, h), .doorbellWridx n (x, h), .doorbellRdidx n (x, h), .doorbellResume (n, h), .doorbellDrop (n, h), .xrespResume (v, h),
        .xrespResumeAt (v, h), .xrespTerminate (v, h), .hctlStop (n, h), .hctlRestart (n, h), .chownWrite core k (v, h), .apertureStore core k v (none, h),
        .cbindWrite core k (v, h), .cirqWrite core k (v, h), .lrchownWrite k (v, h), .lrChannelStore k v (none, h), .counterPageStore core k n (none, h)]
    (s.pkg.phase < 6 → ∀ j ∈ js (some p), exec j s = .next s) ∧ (6 ≤ s.pkg.phase → p ≠ s.pkg.port → ∀ j ∈ js (some p), exec j s = dropped s) ∧
    (p = s.pkg.port → (js (some p)).map (fun j => exec j s) = (js none).map fun j => exec j s)) ∧
  (∀ (s : State) (off size : Nat) (v : Word), (off / 4096 < 0x200 ∨ 0x300 ≤ off / 4096) → (size ≠ 8 ∨ off % 8 ≠ 0) →
    exec (.registerWrite off v size (none, none)) s = .next s) ∧
  (∀ (s : State) (off : Nat) (v : Word), 0x200 ≤ off / 4096 → off / 4096 < 0x300 → w s off v = .next s) ∧
  (∀ (s : State) (v : Word) (core k : Nat), s.pkg.phase = 6 → core < 256 → k < 64 →
    exec (.registerWrite (0x200000 + 0x1000 * core + 4 * k) v 4 (none, none)) s = exec (.counterPageStore core k (v.toNat % 2 ^ 32) (none, none)) s) ∧
  (∀ (s : State) (v : Word), s.pkg.phase = 6 → let p := s.pkg
    w s 0x000 v = .next { s with pkg := { p with pdbase := v } } ∧ w s 0x008 v = .next { s with pkg := { p with qtbase := v } } ∧
    w s 0x020 v = .next { s with pkg := { p with quantum := max 1400 (v.toNat % 2 ^ 32) } } ∧
    w s 0x040 v = .next { s with pkg := { p with fqbase := v } } ∧
    w s 0x048 v = .next (if 8 ≤ v.toNat % 32 ∧ v.toNat % 32 ≤ 16 then { s with pkg := { p with fqlog2 := v.toNat % 32 } } else s) ∧
    w s 0x050 v = .next { s with pkg := { p with fqhead := v.setWidth 32 } } ∧ w s 0x060 v = .next { s with pkg := { p with fqvec := v.setWidth 16 } } ∧
    w s 0x070 v = .next { s with pkg := { p with xrespa := v } } ∧
    w s 0x0C8 v = .next { s with pkg := { p with leaseTo := max 12000 (v.toNat % 2 ^ 32) } } ∧
    w s 0x100 v = .next { s with pkg := { p with ivtbase0 := v } } ∧ w s 0x108 v = .next { s with pkg := { p with ivtbase1 := v } } ∧
    w s 0x110 v = .next (if v.toNat % 4096 ≤ 2048 then { s with pkg := { p with ivtcount := v.toNat % 4096 } } else s) ∧
    (∀ off, off ∈ [0x028, 0x058, 0x068, 0x0C0, 0x0D0, 0x0D8, 0x118, 0x140, 0x148, 0x800, 0x820, 0x840, 0x848, 0x850, 0x908, 0x940] → w s off v = .next s) ∧
    (∀ e, e < 8 → let m := p.pamap.get e {}
      w s (0x200 + 32 * e) v = .next { s with pkg := { p with pamap := p.pamap.put e { m with hbase := v.toNat } } } ∧
      w s (0x208 + 32 * e) v = .next { s with pkg := { p with pamap := p.pamap.put e { m with size := v.toNat } } } ∧
      w s (0x210 + 32 * e) v = .next { s with pkg := { p with pamap := p.pamap.put e { m with dbase := v.toNat } } })) ∧
  (∀ (s : State) (v : Word) (d : Nat), s.pkg.phase = 6 → d < 4 → let x := s.dieAt d
    w s (0x1000 + 0x1000 * d) v = .next (s.setDieAt d { x with tvec := v &&& 0x01FFFFFFFFFFFFFD#64 }) ∧
    w s (0x1008 + 0x1000 * d) v = .next (s.setDieAt d { x with dbg := v &&& 0x7FF#64 }) ∧
    w s (0x1010 + 0x1000 * d) v = .next (s.setDieAt d { x with hdom := v &&& 0x0000FFFFFFFFFFFF#64 })) ∧
  (∀ (s : State) (v : Word) (core ch k q : Nat), s.pkg.phase = 6 → core < 256 → ch < 8 → k < 64 → q < 4096 →
    w s 0x010 v = exec (.pdsyncWrite ((v.toNat % 4096), none)) s ∧ w s 0x018 v = exec (.qsyncWrite ((v.toNat % 4096), none)) s ∧
    w s 0x078 v = (if v.toNat % 16 = 1 then exec (.xrespResume (v, none)) s else if v.toNat % 16 = 2 then exec (.xrespResumeAt (v, none)) s
      else if v.toNat % 16 = 3 then exec (.xrespTerminate (v, none)) s else .next s) ∧
    (v.getLsbD 3 = true → v.getLsbD 4 = false → w s 0x080 v = exec (.hctlStop ((v.toNat % 8), none)) s) ∧
    (v.getLsbD 3 = false → v.getLsbD 4 = true → w s 0x080 v = exec (.hctlRestart ((v.toNat % 8), none)) s) ∧
    w s (0x400 + 8 * k) v = exec (.lrchownWrite k (v, none)) s ∧ w s (0x100000 + 0x1000 * core + 64 * ch) v = exec (.chownWrite core ch (v, none)) s ∧
    w s (0x100400 + 0x1000 * core + 16 * k) v = exec (.cbindWrite core k (v, none)) s ∧ w s (0x100408 + 0x1000 * core + 16 * k) v = exec (.cirqWrite core k (v, none)) s ∧
    w s (0x1000000 + 0x1000 * (8 * core + ch)) v = exec (.apertureStore core ch v (none, none)) s ∧
    w s (0x3000000 + 0x1000 * k) v = exec (.lrChannelStore k v (none, none)) s ∧
    w s (0x2000000 + 0x1000 * q) v = exec (.doorbellWridx q ((v.setWidth 32), none)) s ∧ w s (0x2000008 + 0x1000 * q) v = exec (.doorbellRdidx q ((v.setWidth 32), none)) s ∧
    w s (0x2000010 + 0x1000 * q) v = if v = 1 then exec (.doorbellResume (q, none)) s else if v = 2 then exec (.doorbellDrop (q, none)) s else .next s)

/-- R260, R411, R412, R416, R420, R430, R433, R435: LEASE is renewed by its port, taken over by the other once it has expired, and every other
store to it counts as bad; UP follows the link; a thermal hold sets CYCLE to the reference when it ends; a reset leaves the configuration of its
image at READY, or stops at the phase and with the error of the first check that fails; main memory keeps its contents, or after a cold reset, where R433
leaves them unspecified, reads 0, the model's choice of log entries 3 and 20. How the image's header and keys are read, what the extractor yields and
what survives a reset are the model's choices (log entries 20, 48), and so is the training of the link (log entry 21). -/
def Obligations.LeaseLinkReset : Prop :=
  (∀ (s : State) (port : Bool) (v : Word), s.pkg.phase < 6 → exec (.leaseWrite port v) s = .next s) ∧
  (∀ (s : State) (port : Bool) (v : Word), 6 ≤ s.pkg.phase → let p := s.pkg
    let bad := v >>> 32 ≠ 0 ∨ v.setWidth 32 ≠ p.epoch + 1 ∨ (port ≠ p.port ∧ p.expired = false)
    (bad → exec (.leaseWrite port v) s = .next { s with pkg := { p with leaseBad := p.leaseBad + 1 } }) ∧
    (¬ bad → exec (.leaseWrite port v) s =
      .next { s with pkg := { p with port, epoch := v.setWidth 32, leaseTimer := p.leaseTo, expired := false } })) ∧
  (∀ s : State, exec .leaseExpire s = .next (if s.pkg.leaseTimer = 0 then { s with pkg := { s.pkg with expired := true } } else s)) ∧
  (∀ s : State, exec .standbyStoreDrop s = .next (if s.pkg.phase < 6 then s else { s with pkg := { s.pkg with stbyDrop := s.pkg.stbyDrop + 1 } })) ∧
  (∀ s : State, ∃ t n, exec .peerLinkDown s = .next t ∧ t.mem = s.mem ∧ t.ctxs = s.ctxs ∧
    t.pkg = { s.pkg with linkUp := false, peerLines := [], plerr := if s.pkg.linkUp then s.pkg.plerr + n else s.pkg.plerr } ∧
    ∀ x ∈ s.pkg.lr, x.2.cmds ≠ [] → Instr.lrPairStart x.1 none ∈ t.agenda) ∧
  (∀ s : State, let n := Config.freeNat s.free % 2
    exec .peerLinkUp s = .next { s with free := s.free + 1, pkg := if decide (n = 1) = s.pkg.boot.side then s.pkg else { s.pkg with linkUp := true } }) ∧
  (∀ (s : State) (line : Nat), ∃ t, exec (.peerLineExpire line) s = .next t ∧ t.mem = s.mem ∧ t.ctxs = s.ctxs ∧
    ∀ l, t.pkg.peerLines.find l = if l = line then none else s.pkg.peerLines.find l) ∧
  (∀ (s : State) (die : DieId), let d := s.dieAt die.toNat
    (d.hold = true ∨ d.temp < 105 → exec (.thermalHoldEnter die) s = .next s) ∧ (d.hold = false ∨ d.cool < 140000 → exec (.thermalHoldExit die) s = .next s) ∧
    (d.hold = false → 105 ≤ d.temp → ∃ t, exec (.thermalHoldEnter die) s = .next t ∧ t.mem = s.mem ∧ t.ctxs = s.ctxs ∧
      (t.dieAt die.toNat).hold = true ∧ (t.dieAt die.toNat).cool = 0 ∧ t.pkg.tholds = s.pkg.tholds + 1) ∧
    (d.hold = true → 140000 ≤ d.cool → ∃ t, exec (.thermalHoldExit die) s = .next t ∧ t.mem = s.mem ∧ t.ctxs = s.ctxs ∧ t.pkg = s.pkg ∧
      t.dieAt die.toNat = { d with hold := false, cycle := s.pkg.refCycle, skipped := d.skipped + (s.pkg.refCycle - d.cycle) } ∧
      (d.cycle / max 1400 s.pkg.quantum < s.pkg.refCycle / max 1400 s.pkg.quantum → Instr.quantumBoundary die ∈ t.agenda))) ∧
  (∀ (s : State) (b : BootEnv), exec (.bootctlReset (b, none)) s = .next s ∧ ∀ p, (s.pkg.phase < 6 → exec (.bootctlReset (b, (some p))) s = .next s) ∧
    (6 ≤ s.pkg.phase → p ≠ s.pkg.port → exec (.bootctlReset (b, (some p))) s = .next { s with pkg := { s.pkg with stbyDrop := s.pkg.stbyDrop + 1 } })) ∧
  (∀ (s : State) (b : BootEnv) (cold : Bool), (cold = false → 6 ≤ s.pkg.phase) →
    let j : Instr := if cold then .coldReset b else .bootctlReset (b, (some s.pkg.port))
    let c := configBlock b.flash
    let byte : Nat → Nat := fun i => c / 2 ^ (8 * i) % 256
    let mem := c / 2 ^ 32 % 65536
    let good := byte 0 ≤ 1 ∧ byte 1 ≤ 2 ∧ byte 2 ≤ 1 ∧ byte 3 ≤ 1 ∧ (mem = 128 ∨ mem = 256 ∨ mem = 512) ∧ c / 2 ^ 48 % 2 ^ 464 = 0
    ∃ t, exec j s = .next t ∧ t.ctxs = [] ∧ t.cores = [] ∧ t.dies = [] ∧ t.agenda = [] ∧
      (∀ a, a < 0x8000000000 → t.byteAt a = if cold then 0 else s.byteAt a) ∧ (∀ a, 0x400000000000 ≤ a → a < 0x808000000000 → t.byteAt a = s.byteAt a) ∧
      let stops := fun (phase err : Nat) => t.pkg = { State.reset.pkg with phase, bootErr := err, regBase := registerBases b }
      if headerFits b.flash = false then stops 2 1 else if ecdsaHolds b.flash = false then stops 2 2 else if lmsHolds b.flash = false then stops 2 3
      else if deviceSecret b.flash b.sram = none then stops 3 5 else if (¬ good) then stops 3 4 else if b.memoryOk = false then stops 4 6
      else t.pkg.phase = 6 ∧ t.pkg.bootErr = 0 ∧ t.pkg.port = decide (byte 2 = 1) ∧ t.pkg.boot.side = decide (byte 3 = 1) ∧
        t.pkg.boot.point = decide (byte 0 = 1) ∧ t.pkg.boot.memGib = mem ∧ t.pkg.epoch = 0 ∧ t.pkg.expired = false ∧ t.pkg.leaseTimer = 1200000 ∧
        t.pkg.quantum = 28000 ∧ t.pkg.regBase = registerBases b ∧ deviceSecret b.flash b.sram = some t.pkg.secret ∧
        t.pkg.idPriv = Config.identityKey t.pkg.secret ∧ t.pkg.idKey = publicKey t.pkg.idPriv ∧
        (∀ die i, die < 4 → i < 2 ^ 18 → t.byteAt (serviceKey die i) = (imageFirmware b.flash).getD i 0) ∧ (∀ core, (t.coreAt core).part = Part.ofCode (byte 1)) ∧
        (∀ d, (t.dieAt d).cycle = 0 ∧ (t.dieAt d).limit = if byte 0 = 1 then 64 else 40) ∧ ∀ k, (t.ctxAt k).state = .free)

/-- R424 to R427: LRCHOWN is honoured while its channel holds no command; a store to a channel's page enters a command, or is discarded with
a record of KIND 8, or waits while four are held; a command ends as REFUSED, FAULTED or MISMATCH where the rules say so, and waits without a
partner; its end writes STATUS and makes room; a sum is the exact sum rounded once, the same for both sides. What Table 7 refuses, the causes of a failed end and
the order in which they are tried are the model's choices (log entry 27), and so are the fields of the record of KIND 8 (log entry 26). -/
def Obligations.LinkReduction : Prop :=
  let chan : State → Nat → LrChan := fun s k => s.pkg.lr.get k {}
  (∀ (s : State) (k : Nat) (v : Word), 6 ≤ s.pkg.phase →
    ((chan s k).cmds ≠ [] → exec (.lrchownWrite k (v, none)) s = .next s) ∧
    ((chan s k).cmds = [] → ∃ t, exec (.lrchownWrite k (v, none)) s = .next t ∧ t.mem = s.mem ∧ t.ctxs = s.ctxs ∧
      chan t k = { chan s k with procid := v.toNat % 1024, v := v.getLsbD 10 })) ∧
  (∀ (s : State) (k : Nat) (v : Word), 6 ≤ s.pkg.phase →
    let x := chan s k
    (x.v = false ∨ v.toNat % 64 ≠ 0 → (s.pkg.records.filter fun r => r.kind = 8).length < 64 → ∃ t r, exec (.lrChannelStore k v (none, none)) s = .next t ∧
      t.mem = s.mem ∧ chan t k = x ∧ t.pkg.records = s.pkg.records ++ [r] ∧ r.kind = 8 ∧ r.procid = x.procid) ∧
    (x.v = true → v.toNat % 64 = 0 → 4 ≤ x.cmds.length →
      exec (.lrChannelStore k v (none, none)) s = .next { s with agenda := .lrChannelStore k v (none, none) :: s.agenda }) ∧
    (x.v = true → v.toNat % 64 = 0 → x.cmds.length < 4 → ∃ t, exec (.lrChannelStore k v (none, none)) s = .next t ∧ t.mem = s.mem ∧ t.ctxs = s.ctxs ∧
      chan t k = { x with cmds := x.cmds ++ [{ index := x.started, addr := v }], started := x.started + 1 } ∧
      t.agenda = s.agenda ++ if x.cmds = [] then [.lrPairStart k none] else [])) ∧
  (∀ (s : State) (k : Nat) (h : LrCmd) (rest : List LrCmd) (partner : Option LrPartner), (chan s k).cmds = h :: rest → h.code = 0 →
    s.tablesHere (chan s k).procid [h.addr] →
    let x := chan s k
    let ends := fun (record code cause : Nat) => ∃ t, exec (.lrPairStart k partner) s = .next t ∧ t.mem = s.mem ∧ t.ctxs = s.ctxs ∧
      chan t k = { x with cmds := { h with record, code, cause, ovf := 0 } :: rest } ∧ Instr.lrComplete k ∈ t.agenda
    (s.sharedPlace x.procid .load h.addr 64 = none → ends h.record 2 1) ∧
    (∀ a b, s.sharedPlace x.procid .load h.addr 64 = some a → s.snoop false [a] = some b →
      exec (.lrPairStart k partner) s = .next (b.push (.lrPairStart k partner))) ∧
    (∀ a, s.sharedPlace x.procid .load h.addr 64 = some a → s.snoop false [a] = none → s.placeBad a = true → ends (s.readPlace a 64) 2 5) ∧
    (∀ a, s.sharedPlace x.procid .load h.addr 64 = some a → s.snoop false [a] = none → s.placeBad a = false →
      let d := s.readPlace a 64
      let u : State := { s with pkg := { s.pkg with lr := s.pkg.lr.put k { x with cmds := { h with record := d } :: rest } } }
      let waits := exec (.lrPairStart k partner) s = .next u
      let f : Nat → Nat → Nat := fun off n => d / 2 ^ (8 * off) % 2 ^ (8 * n)
      let size := if f 0 8 / 4 % 4 = 0 then 4 else 2
      let good := f 0 8 < 32 ∧ f 0 8 % 4 ≤ 1 ∧ f 0 8 / 4 % 4 ≤ 1 ∧ f 8 8 % size = 0 ∧ f 0x10 8 % 65536 = 0 ∧ f 0x18 8 * size % 65536 = 0 ∧
        f 0x18 8 * size ≤ 2 ^ 30 ∧ f 0x28 8 = 0 ∧ f 0x38 8 = 0 ∧ if f 0 8 / 16 % 2 = 1 then f 0x20 4 < 65536 ∧ f 0x20 4 % 4 = 0 else f 0x20 8 = 0
      (¬ good → ends d 4 2) ∧ (good → s.pkg.linkUp = false → ends d 2 4) ∧
      (good → s.pkg.linkUp = true → (partner = none → waits) ∧
        (∀ p, partner = some p → (p.index ≠ h.index → waits) ∧
          (p.index = h.index → (p.refused = true ∨ p.op ≠ f 0 8 % 4 ∨ p.fmt ≠ f 0 8 / 4 % 4 ∨ p.count ≠ f 0x18 8) → ends d 3 0) ∧
          (p.index = h.index → p.refused = false → p.op = f 0 8 % 4 → p.fmt = f 0 8 / 4 % 4 → p.count = f 0x18 8 →
            (p.failed = true → ends d 2 6) ∧
            (let r := LrRecord.of d
              let pages := fun (base : Word) (n : Nat) => (List.range ((base.toNat % 4096 + n + 4095) / 4096)).map fun i => base + BitVec.ofNat 64 (4096 * i)
              p.failed = false → s.tablesHere x.procid (pages r.src (r.sources * r.size) ++ pages r.dst (r.results * r.size)) →
              let from_ := u.lrPlaces x.procid .load r.src r.size r.sources
              let to_ := u.lrPlaces x.procid .store r.dst r.size r.results
              (from_ = none ∨ to_ = none → ends d 2 1) ∧
              ∀ src dst, from_ = some src → to_ = some dst → u.snoop false src = none →
                let out := (List.range r.results).map (r.result s.pkg.boot.side (src.map fun z => u.readPlace z r.size) (p.data.map (·.toNat)))
                ((∃ z ∈ src, u.placeBad z = true) → ends d 2 5) ∧
                (∀ c, (∀ z ∈ src, u.placeBad z = false) → u.lrWrite x.procid r (out.map (·.1)) dst = .error c → ends d 2 c) ∧
                (∀ w, (∀ z ∈ src, u.placeBad z = false) → u.lrWrite x.procid r (out.map (·.1)) dst = .ok w →
                  ∃ t, exec (.lrPairStart k partner) s = .next t ∧ t.mem = w.mem ∧ t.ctxs = s.ctxs ∧ Instr.lrComplete k ∈ t.agenda ∧ chan t k = { x with
                    cmds := { h with record := d, code := 1, cause := 0, ovf := (out.filter (·.2)).length } :: rest }))))))) ∧
  (∀ (s : State) (k : Nat) (partner : Option LrPartner), ∃ t, exec (.lrPairStart k partner) s = .next t) ∧
  (∀ (s : State) (k : Nat) (h : LrCmd) (rest : List LrCmd) (pa : Nat), (chan s k).cmds = h :: rest →
    let x := chan s k
    let r := LrRecord.of h.record
    let moves : State → Prop := fun t => exec (.lrComplete k) s = .next t ∧ chan t k = { x with cmds := { h with stage := h.stage + 1 } :: rest } ∧
      Instr.lrComplete k ∈ t.agenda
    (h.code = 0 → exec (.lrComplete k) s = .next s) ∧
    (h.code ≠ 0 → h.stage = 0 → ∃ t, moves t ∧ if h.code = 1 then t.mem = (s.publish x.procid false r.dst.toNat (r.results * r.size / 65536)).mem else t.mem = s.mem) ∧
    (h.code ≠ 0 → h.stage = 1 → s.tablesHere x.procid [h.addr + 0x30] → s.sharedPlace x.procid .store (h.addr + 0x30) 8 = some (.mem pa) →
      s.snoop true [.mem pa] = none → s.backed pa = true → (isPeerMem pa || isPeerRegs pa) = false →
      ∃ t, moves t ∧ storedAt s t pa 8 (h.code + 256 * h.cause + 2 ^ 32 * h.ovf)) ∧
    (h.code ≠ 0 → h.stage = 1 → s.tablesHere x.procid [h.addr + 0x30] → s.sharedPlace x.procid .store (h.addr + 0x30) 8 = none → ∃ t, moves t ∧ t.mem = s.mem) ∧
    (h.code ≠ 0 → 2 ≤ h.stage → (s.coreAt ioDie).waiting = [] → (s.coreAt ioDie).streams = [] →
      ∃ t, exec (.lrComplete k) s = .next t ∧ t.mem = s.mem ∧ chan t k = { x with cmds := rest } ∧ (rest ≠ [] → Instr.lrPairStart k none ∈ t.agenda) ∧
        (r.post = true → r.mbox < 65536 → r.mbox % 4 = 0 → ∃ p q, t.pkg.packets.find s.pkg.nextPacket = some q ∧ q.release = .postArrive p ∧
          (p.core, p.index) = counterOf r.mbox ∧ p.inc = r.minc ∧ p.procid = x.procid))) ∧
  (∀ a b, a < 2 ^ 32 → b < 2 ^ 32 → lrSum 0 a b = lrSum 0 b a) ∧ (∀ a b, a < 2 ^ 16 → b < 2 ^ 16 → lrSum 1 a b = lrSum 1 b a) ∧
  lrSum 1 0x3F80 0x3B80 = (0x3F80, false) ∧ lrSum 1 0x3F80 0x3C00 = (0x3F81, false) ∧ lrSum 1 0x4040 0xC040 = (0, false) ∧
  lrSum 1 0x4000 0x3F80 = (0x4040, false) ∧ lrSum 1 0x7F80 0xFF80 = (0x7FC0, false) ∧ lrSum 1 0x7F7F 0x7F7F = (0x7F80, true) ∧
  (∀ (r : LrRecord) (own other : List Nat) (i : Nat), i < r.count → r.op = 0 →
    r.result false own other i = lrSum r.fmt (own.getD i 0) (other.getD i 0) ∧
    r.result true own other i = lrSum r.fmt (own.getD (r.count + i) 0) (other.getD (r.count + i) 0)) ∧
  (∀ (r : LrRecord) (own other : List Nat) (i : Nat), i < r.count → r.op = 1 →
    r.result false own other i = (own.getD i 0, false) ∧ r.result false own other (r.count + i) = (other.getD i 0, false) ∧
    r.result true own other i = (other.getD i 0, false) ∧ r.result true own other (r.count + i) = (own.getD i 0, false))

/-- R246, R250, R253 to R255, R257, R258, R418, R422: clocks tick and, with no request in flight, fall to zero with their die's caches; a
visitor copy ends but for its pending bytes; published epochs arrive, the later one counting; hosts read, own, answer and return lines; the
peer package reads and writes as an agent outside the dies. What a host keeps of a line, and that it answers by an event of its own, are the
model's choice (log entry 11); the register pages that the peer reaches are log entry 19. -/
def Obligations.HostEvents : Prop :=
  let at_ : State → Nat → HomeLine := fun s pa => (s.dieAt (homeDie pa)).home.get (lineOf pa) {}
  let opp : Nat → Bool → Nat := fun line port => line * 2 + (!port).toNat
  let busy : State → Nat → Bool → Prop := fun s line port => line * 2 + port.toNat ∈ s.pkg.backInv ∨ line * 2 + port.toNat ∈ s.pkg.snoops
  let settled : State → Prop := fun s => ∀ x ∈ s.ctxs, ∀ priv base n serial words, x.2.wait ≠ .publish priv base n serial words
  (∀ (s : State) (die : DieId), ∃ t, exec (.lclkTick die) s = .next t ∧ t.mem = s.mem ∧ t.ctxs = s.ctxs ∧
    ∀ c, c < 256 → (t.coreAt c).lclk = (s.coreAt c).lclk + if c / 64 = die.toNat then 1 else 0) ∧
  (∀ (s : State) (die : DieId), let d := s.dieAt die.toNat
    (s.needWrap die.toNat = false ∨ d.wrapHold = true → exec (.clockWrapBegin die) s = .next s) ∧
    (s.needWrap die.toNat = true → d.wrapHold = false → ∃ t, exec (.clockWrapBegin die) s = .next t ∧ t.mem = s.mem ∧ t.ctxs = s.ctxs ∧
      (t.dieAt die.toNat).wrapHold = true ∧ t.agenda = s.agenda ++ [.clockWrapDone die])) ∧
  (∀ (s : State) (die : DieId), let n := die.toNat
    let d := s.dieAt n
    (d.wrapHold = false → exec (.clockWrapDone die) s = .next s) ∧
    (d.wrapHold = true → s.inFlight n = true → exec (.clockWrapDone die) s = .next { s with agenda := s.agenda ++ [.clockWrapDone die] }) ∧
    (d.wrapHold = true → s.inFlight n = false → d.heldWrites = [] → ∃ t, exec (.clockWrapDone die) s = .next t ∧ t.mem = s.mem ∧ (t.dieAt n).wrapHold = false ∧
      (t.dieAt n).xwts = 0 ∧ (t.dieAt n).dwts = 0 ∧ (∀ h ∈ (t.dieAt n).home, h.2.wts = 0 ∧ h.2.rts = 0) ∧
      (∀ v ∈ (t.dieAt n).visitors, v.2.pending ≠ 0 ∧ v.2.stale = ~~~v.2.pending) ∧
      ∀ c, c < 256 → (c / 64 = n → (t.coreAt c).lclk = 0 ∧ (t.coreAt c).l1 = [] ∧ (t.coreAt c).icache = []) ∧
        (c / 64 ≠ n → t.coreAt c = s.coreAt c))) ∧
  (∀ (s : State) (die : DieId) (line : Nat) (v : Visitor), (s.dieAt die.toNat).visitors.find line = some v →
    ∃ t, exec (.visitorExpire die line) s = .next t ∧ t.mem = s.mem ∧
      (t.dieAt die.toNat).visitors.find line = if v.pending = 0 then none else some { v with stale := ~~~v.pending }) ∧
  (∀ (s : State) (die : DieId), exec (.doneepPublish die) s = .next { s with agenda := s.agenda ++
    ((([0, 1, 2, 3] : List DieId).filter fun e => e ≠ die).map fun e => .doneepReceive e die (BitVec.ofNat 32 ((s.dieAt die.toNat).doneep.get die.toNat 0))) }) ∧
  (∀ (s : State) (die src : DieId) (epoch : BitVec 32), let d := s.dieAt die.toNat
    let old := d.doneep.get src.toNat 0
    old < 2 ^ 32 → exec (.doneepReceive die src epoch) s = .next (s.setDieAt die.toNat { d with
      doneep := d.doneep.put src.toNat (if (BitVec.ofNat 32 old - epoch).toNat < 2 ^ 31 then old else epoch.toNat) })) ∧
  (∀ (s : State) (port : Bool) (addr : Nat), let pa := s.frame addr
    let line := pa / 64
    let other := s.hostState line (!port)
    (s.hostState line port ≠ 0 → exec (.hostRead port addr) s = .next s) ∧
    (s.hostLine pa = true → s.hostState line port = 0 → busy s line port →
      exec (.hostRead port addr) s = .next { s with agenda := s.agenda ++ [.hostRead port addr] }) ∧
    (s.hostLine pa = true → s.hostState line port = 0 → ¬ busy s line port → other = 2 ∨ other = 4 → ∃ t, exec (.hostRead port addr) s = .next t ∧
      t.mem = s.mem ∧ opp line port ∈ t.pkg.snoops ∧ t.agenda = s.agenda ++ [.hostRead port addr]) ∧
    (s.hostLine pa = true → s.hostState line port = 0 → ¬ busy s line port → other ≠ 2 → other ≠ 4 → ∃ t, exec (.hostRead port addr) s = .next t ∧
      t.mem = s.mem ∧ t.ctxs = s.ctxs ∧ t.hostState line port = 1 ∧ t.hostState line (!port) = other ∧
      (at_ t pa).pkg = if (at_ s pa).pkg = 4 then 3 else if (at_ s pa).pkg = 2 then 1 else (at_ s pa).pkg)) ∧
  (∀ (s : State) (port : Bool) (addr : Nat), let pa := s.frame addr
    let line := pa / 64
    s.hostLine pa = true →
    (busy s line port → exec (.hostTakesOwnership port addr) s = .next { s with agenda := s.agenda ++ [.hostTakesOwnership port addr] }) ∧
    (¬ busy s line port → s.hostState line (!port) ≠ 0 → ∃ t, exec (.hostTakesOwnership port addr) s = .next t ∧ t.mem = s.mem ∧
      opp line port ∈ t.pkg.backInv ∧ t.agenda = s.agenda ++ [.hostTakesOwnership port addr]) ∧
    (¬ busy s line port → s.hostState line (!port) = 0 → ∃ t, exec (.hostTakesOwnership port addr) s = .next t ∧ t.mem = s.mem ∧
      t.hostState line port = 4 ∧ t.hostState line (!port) = 0 ∧
      at_ t pa = { at_ s pa with pkg := 0, wts := (at_ s pa).rts + 1, rts := (at_ s pa).rts + 1 })) ∧
  (∀ (s : State) (port : Bool) (addr : Nat) (data : Option (BitVec 512)), let pa := s.frame addr
    let line := pa / 64
    let key := line * 2 + port.toNat
    let st := s.hostState line port
    (¬ busy s line port → exec (.backInvalidationAck port addr data) s = .next s) ∧
    (busy s line port → ∃ t, exec (.backInvalidationAck port addr data) s = .next t ∧ key ∉ t.pkg.snoops ∧ key ∉ t.pkg.backInv ∧
      (∀ d, data = some d → st = 2 ∨ st = 4 → s.backed (pa / 64 * 64) = true → storedAt s t (pa / 64 * 64) 64 d.toNat) ∧
      (data = none ∨ (st ≠ 2 ∧ st ≠ 4) → t.mem = s.mem) ∧
      t.hostState line port = if key ∈ s.pkg.backInv then 0 else if st = 4 then 3 else if st = 2 then (if data.isSome then 3 else 1) else st)) ∧
  (∀ (s : State) (port : Bool) (addr : Nat) (data : BitVec 512) (keep : Nat), let pa := s.frame addr
    let line := pa / 64
    let st := s.hostState line port
    (st < 2 → exec (.hostWriteback port addr data keep) s = .next s) ∧
    (2 ≤ st → ∃ t, exec (.hostWriteback port addr data keep) s = .next t ∧
      (st ≠ 3 → s.backed (pa / 64 * 64) = true → storedAt s t (pa / 64 * 64) 64 data.toNat) ∧ (st = 3 → t.mem = s.mem) ∧
      t.hostState line port = if keep = 1 ∨ (keep = 3 ∧ st ≠ 2) then keep else 0)) ∧
  (∀ (s : State) (pa : Nat), ∃ t, exec (.sliceEviction pa) s = .next t ∧ t.mem = s.mem ∧ t.ctxs = s.ctxs ∧
    at_ t pa = { at_ s pa with pkg := 0 }) ∧
  (∀ (s : State) (a : PeerAcc), let pa := s.frame a.addr
    let mine := a.page = false ∧ a.own = false ∧ a.addr < 0x8000000000 ∧ s.backed pa = true
    (settled s → mine → s.hostOwns (lineOf pa) = false → a.kind = .read → ∃ t, exec (.peerAccessArrive a) s = .next t ∧ t.mem = s.mem ∧ t.ctxs = s.ctxs) ∧
    (settled s → mine → s.hostHolds (lineOf pa) = false → (s.dieAt (homeDie pa)).sliceq = [] → ∃ t, exec (.peerAccessArrive a) s = .next t ∧
      (a.kind = .write ∨ a.kind = .release → storedAt s t pa a.size a.value) ∧
      (∀ e, a.kind = .atomic 0 e → storedAt s t pa a.size (s.readPa pa a.size + a.value)) ∧
      (∀ e, a.kind = .atomic 8 e → storedAt s t pa a.size a.value) ∧
      (∀ e, a.kind = .atomic 9 e → (s.readPa pa a.size = e.toNat % 2 ^ (8 * a.size) → storedAt s t pa a.size a.value) ∧
        (s.readPa pa a.size ≠ e.toNat % 2 ^ (8 * a.size) → t.mem = s.mem))) ∧
    (settled s → a.page = false → a.own = true → a.addr < 0x8000000000 → a.kind = .write → ∃ t, exec (.peerAccessArrive a) s = .next t ∧
      storedAt s t (0x800000000000 + a.addr) a.size a.value ∧ t.pkg = s.pkg) ∧
    (settled s → a.page = true → a.kind = .read → exec (.peerAccessArrive a) s = .next s) ∧
    (∀ core k, core < 256 → k < 64 → settled s → 6 ≤ s.pkg.phase → a.page = true → a.kind = .write → a.addr = 0x200000 + 0x1000 * core + 4 * k → a.size = 4 →
      exec (.peerAccessArrive a) s = exec (.counterPageStore core k (a.value % 2 ^ 32) (none, none)) s) ∧
    (∀ core ch, core < 256 → ch < 8 → settled s → 6 ≤ s.pkg.phase → a.page = true → a.kind = .write → a.addr = 0x1000000 + 0x1000 * (8 * core + ch) → a.size = 8 →
      exec (.peerAccessArrive a) s = exec (.apertureStore core ch (BitVec.ofNat 64 a.value) (none, none)) s))

/-- R72, R430: a core's turn passes over the contexts that are not READY or that issued within the last three cycles, from the owner of the
cycle, and chooses the first other one whose words are at hand; with none, or in the half cycle that a thermal hold takes away, the turn passes on, and
after the last core's the cycle ends (turns that pass from core to core are the model's choice, log entry 5); a task whose PC is 0 ends at its
turn (log entry 42); an accepted memory instruction completes. A fill makes its context READY when every word is there, or installs the line that is missing (R39). -/
def Obligations.IssueTurns : Prop :=
  let key : State → CoreId → Nat → Nat := fun s core j => let n := (s.coreAt core.toNat).part.contexts
    ctxKey core.toNat (((s.dieAt (dieOf core.toNat)).cycle % 16 % n + j) % n)
  let ticks : Die → Prop := fun d => d.hold = false ∨ d.halfTick = true
  let quiet : State → CoreId → Prop := fun s core => s.resume = true ∨ ∀ i, i < 16 → let y := s.ctxAt (ctxKey core.toNat i)
    y.state = .free ∨ y.state = .stopped ∨ (y.state = .ready ∧ y.task.sendq = [] ∧ y.task.killed = false ∧ y.preempt = false ∧ s.pastCost (ctxKey core.toNat i) = false)
  let skipped : State → CoreId → Nat → Prop := fun s core j => let y := s.ctxAt (key s core j)
    (s.resume = true ∧ j ≤ s.passed) ∨ y.state ≠ .ready ∨ y.preempt = true ∨
      (y.task.pc ≠ 0 ∧ y.task.annul = 0 ∧ ∃ t, y.last = some t ∧ (s.dieAt (dieOf core.toNat)).elapsed < t + 4)
  (∀ (s : State) (core : CoreId) (k : Nat) (w : IWord) (ws : List IWord), let d := s.dieAt (dieOf core.toNat)
    let x := s.ctxAt (key s core k)
    ticks d → quiet s core → (∀ j, j < k → skipped s core j) → k < (s.coreAt core.toNat).part.contexts → (s.resume = true → s.passed < k) →
    x.state = .ready → x.preempt = false → x.task.pc ≠ 0 → x.task.annul = 0 → (∀ t, x.last = some t → t + 4 ≤ d.elapsed) → x.task.pendingError = none →
    s.fetched (key s core k) = (w :: ws, none) →
    ∃ t, exec (.issueTurn core) s = .next t ∧ t.phase = .run ∧ t.cur = key s core k ∧ t.ir = w ∧ t.passed = k ∧ t.mem = s.mem ∧
      (t.ctxAt (key s core k)).last = some d.elapsed ∧ (t.ctxAt (key s core k)).state = .ready ∧
      (t.ctxAt (key s core k)).task = { x.task with started := x.task.started <|> some d.elapsed } ∧
      ∀ m, m ≠ key s core k → t.ctxAt m = s.ctxAt m) ∧
  (∀ (s : State) (core : CoreId), let d := s.dieAt (dieOf core.toNat)
    core ≠ 255 → ticks d → quiet s core → (∀ j, j < (s.coreAt core.toNat).part.contexts → skipped s core j) →
    ∃ t, exec (.issueTurn core) s = .next t ∧ t.turn = core.toNat + 1 ∧ t.phase = s.phase ∧ t.mem = s.mem ∧ t.ctxs = s.ctxs ∧ t.dies = s.dies ∧
      t.passed = 0 ∧ t.resume = false) ∧
  (∀ (s : State) (core : CoreId), let d := s.dieAt (dieOf core.toNat)
    core ≠ 255 → ¬ ticks d → exec (.issueTurn core) s = .next { s with turn := core.toNat + 1, passed := 0, resume := false }) ∧
  (∀ (s : State) (core : CoreId) (k : Nat), let d := s.dieAt (dieOf core.toNat)
    let x := s.ctxAt (key s core k)
    core ≠ 255 → ticks d → quiet s core → (∀ j, j < k → skipped s core j) → k < (s.coreAt core.toNat).part.contexts → (s.resume = true → s.passed < k) →
    x.state = .ready → x.preempt = false → x.task.pc = 0 → x.task.inEvent = false → ({ s with cur := key s core k }).mayEnd = true →
    ∃ t, exec (.issueTurn core) s = .next t ∧ t.turn = core.toNat + 1 ∧ t.phase = s.phase ∧ (t.ctxAt (key s core k)).state = .free) ∧
  (∀ (s : State) (core : CoreId) (i n : Nat), let d := s.dieAt (dieOf core.toNat)
    let x := s.ctxAt (ctxKey core.toNat i)
    core ≠ 255 → ticks d → s.resume = false → i < 16 → (∀ j, j < 16 → j ≠ i → (s.ctxAt (ctxKey core.toNat j)).state = .free) →
    x.state = .parked → x.wait = .accepted n → x.task.sendq = [] → x.task.killed = false → x.preempt = false → x.task.annul = 0 →
    s.pastCost (ctxKey core.toNat i) = false → x.task.pc + BitVec.ofNat 64 (4 * n) ≠ 0 → (∃ t, x.last = some t ∧ d.elapsed < t + 4) →
    ∃ t, exec (.issueTurn core) s = .next t ∧ t.mem = s.mem ∧ (t.ctxAt (ctxKey core.toNat i)).state = .ready ∧
      (t.ctxAt (ctxKey core.toNat i)).task = { x.task with pc := x.task.pc + BitVec.ofNat 64 (4 * n) }) ∧
  (∀ s : State, ¬ ticks (s.dieAt 3) → s.pkg.queues = [] → s.pkg.entries = [] → s.pkg.groups = [] →
    (∀ x ∈ s.ctxs, ∀ k post, x.2.wait ≠ .arrive k post) → (∀ d, d < 4 → (s.dieAt d).visitors = []) →
    ∃ t, exec (.issueTurn 255) s = .next t ∧ t.turn = 0 ∧ t.mem = s.mem ∧ t.ctxs = s.ctxs ∧ t.pkg.refCycle = s.pkg.refCycle + 1 ∧
      ∀ d, d < 4 → (ticks (s.dieAt d) → (t.dieAt d).cycle = (s.dieAt d).cycle + 1 ∧ (t.dieAt d).halfTick = false) ∧
        (¬ ticks (s.dieAt d) → (t.dieAt d).cycle = (s.dieAt d).cycle ∧ (t.dieAt d).halfTick = true)) ∧
  (∀ (s : State) (core : CoreId) (ctx : CtxId), let k := ctxKey core.toNat ctx.toNat
    let u := { s with cur := k }
    let x := s.ctxAt k
    (x.wait ≠ .fill → (∀ ls, x.wait ≠ .lines ls) → exec (.fillArrive core ctx) s = .next s) ∧
    (x.wait = .fill → x.state = .parked → s.missing k = none → ∃ t, exec (.fillArrive core ctx) s = .next t ∧ t.mem = s.mem ∧
      (t.ctxAt k).state = .ready ∧ (t.ctxAt k).task = x.task) ∧
    (∀ ls, x.wait = .lines ls → x.state = .parked → (∀ l ∈ ls, l ∉ x.task.absent) → ∃ t, exec (.fillArrive core ctx) s = .next t ∧ t.mem = s.mem ∧
      (t.ctxAt k).state = .ready ∧ (t.ctxAt k).task = x.task) ∧
    (∀ ea pa tr, x.wait = .fill → s.missing k = some ea → u.locate u.agent .fetch 0 ea 4 = .ok (.mem pa) → s.lookup core.toNat x.task.procid.toNat false ea.toNat = some (tr, true) →
      s.backed (pa / 64 * 64) = true → isPeerMem (pa / 64 * 64) = false → isPeerRegs (pa / 64 * 64) = false → homeDie (pa / 64 * 64) = dieOf core.toNat →
      s.lineBad (pa / 64 * 64) = false → (s.dieAt (dieOf core.toNat)).wrapHold = false → s.needWrap (dieOf core.toNat) = false → s.hostOwns (lineOf pa) = false →
      ∃ t l, exec (.fillArrive core ctx) s = .next t ∧ t.mem = s.mem ∧ (t.ctxAt k).task = x.task ∧ (t.coreAt core.toNat).icache.find (lineOf pa) = some l ∧
        l.data = BitVec.ofNat 512 (s.readPa (pa / 64 * 64) 64) ∧ (s.coreAt core.toNat).lclk ≤ l.rts ∧ l.wts ≤ (t.coreAt core.toNat).lclk))

/-- R42 to R61: the words of these instructions, worked from their encodings, decode to them; OP 0, a skip of no words and words that end too
early are refused. -/
def Obligations.DecodeWords : Prop :=
  decode [0x0E182804#32] = .ok (.add 5 6 7, []) ∧
  decode [0x80000006#32, 0x00070582#32, 0x00000000#32] = .ok (.addX { d := 0x82, a := 5, b := 7, synA := true }, []) ∧
  decode [0x0A101808#32] = .ok (.sub 3 4 5, []) ∧
  decode [0x502C50E0#32] = .ok (.shri 10 11 40, []) ∧
  decode [0xFE2448CC#32] = .ok (.addi 9 9 0x7F, []) ∧
  decode [0x000028F1#32, 0x56789ABC#32, 0x00001234#32] = .ok (.liX { d := 5, imm := .lit01 0x0000123456789ABC }, []) ∧
  decode [0x441420F8#32] = .ok (.skp 4 5 2 2 false, []) ∧
  decode [0xA6F028F8#32] = .ok (.skp 5 60 3 1 true, []) ∧
  decode [0xFFF43110#32] = .ok (.dbnz 6 0x3FFD, []) ∧
  decode [0x00044914#32] = .ok (.mfs 9 1, []) ∧
  decode [0x00082958#32] = .ok (.ldd 5 2 0 0, []) ∧
  decode [0x1A203950#32] = .ok (.ldw 7 8 1 3, []) ∧
  decode [0x0D00015A#32, 0x000B0A09#32, 0x00000008#32] = .ok (.lddX { d := 9, a := 10, b := 11, scope := 3, ord := 1, imm := .imm10 8 }, []) ∧
  decode [0x1600016A#32, 0x05000200#32, 0x00000008#32] = .ok (.stdX { a := 2, c := 5, scope := 5, ord := 2, imm := .imm10 8 }, []) ∧
  decode [0x00504174#32] = .ok (.ldf 8 20 0 0, []) ∧
  decode [0x1300017E#32, 0x07000605#32, 0x00000000#32] = .ok (.aadd { d := 5, a := 6, c := 7, scope := 4, ord := 3 }, []) ∧
  decode [0x0E000182#32, 0x00000000#32, 0x00000000#32] = .ok (.fence { scope := 3, ord := 2 }, []) ∧
  decode [0x0011E198#32] = .ok (.alloc 60 4, []) ∧
  decode [0x002C01AC#32] = .ok (.barset 11 0, []) ∧
  decode [0x000C01A4#32] = .ok (.bara 3, []) ∧
  decode [0x00000202#32, 0x00020103#32, 0x00000000#32] = .ok (.vadd .f32 { d := 3, a := 1, b := 2 }, []) ∧
  decode [0x00100A02#32, 0x00020103#32, 0x00000000#32] = .ok (.vadd .bf16 { d := 3, a := 1, b := 2, sat := true }, []) ∧
  decode [0x0020020E#32, 0x07060504#32, 0x00000000#32] = .ok (.vfma .f32 { d := 4, a := 5, b := 6, c := 7, rnd := 1 }, []) ∧
  decode [0x00080276#32, 0x00000A02#32, 0x00000080#32] = .ok (.vld { d := 2, a := 10, sp := 2, imm := .imm10 128 }, []) ∧
  decode [0x00040302#32, 0x00000805#32, 0x00000000#32] = .ok (.tdef { d := 5, a := 8, sp := 1 }, []) ∧
  decode [0x0D00030E#32, 0x00051402#32, 0x00000080#32] = .ok (.tld { d := 2, a := 20, b := 5, scope := 3, ord := 1, imm := .imm10 128 }, []) ∧
  decode [0x00000312#32, 0x00040001#32, 0x00000000#32] = .ok (.mma { d := 1, a := 0, b := 4 }, []) ∧
  decode [0x00000346#32, 0x000B0A03#32, 0x00000000#32] = .ok (.xfer { d := 3, a := 10, b := 11 }, []) ∧
  decode [0x00000382#32, 0x00050400#32, 0x00000000#32] = .ok (.post { a := 4, b := 5 }, []) ∧
  decode [0x00040392#32, 0x0A090800#32, 0x00000000#32] = .ok (.send { a := 8, b := 9, c := 10, sp := 1 }, []) ∧
  decode [0x000003CA#32, 0x1B100F00#32, 0x00000000#32] = .ok (.tsend { a := 15, b := 16, c := 27 }, []) ∧
  decode [0x00000402#32, 0x0C0B0A00#32, 0x00000000#32] = .ok (.fork { a := 10, b := 11, c := 12 }, []) ∧
  decode [0x00300404#32] = .ok (.join 12, []) ∧
  decode [0x00000408#32] = .ok (.exit, []) ∧
  decode [0x0000041A#32, 0x00000405#32, 0x00000000#32] = .ok (.ptokTake { d := 5, a := 4 }, []) ∧
  decode [0x00400704#32] = .ok (.sys 16, []) ∧
  decode [0x00140700#32] = .ok (.trap 5, []) ∧
  decode [0x00284F24#32] = .ok (.ctrrd 9 10, []) ∧
  decode [0x00000F1E#32, 0x00050400#32, 0x00000000#32] = .ok (.xlinvPage { a := 4, b := 5 }, []) ∧
  decode [0x00000000#32] = .error .reservedOp ∧ decode [0x041420F8#32] = .error .badSkip ∧
  decode [0x80000006#32, 0x00070582#32] = .error .truncated

/-- R42 to R61: the words laid out for any well-formed instruction decode to it, with every operand at every value its encoding admits, and
the words after it are left as they are. -/
def Obligations.RoundTrip : Prop :=
∀ i : Instr, i.wf = true → encode i ≠ [] → ∀ rest, decode (encode i ++ rest) = .ok (i, rest)

/-- R38, R65, R72: in the phase `run`, when the words at PC decode to an instruction, a step is the execution of that instruction, after which
the core's turn is over unless the instruction did not take it; words that decode to none raise the trap of R65. Otherwise a step is an event of
the agenda or the issue turn; with nothing in the agenda, the issue turn: the agenda, and one event or one turn a step, are the model's choice
(log entry 5). -/
def Obligations.StepRunsDecoded : Prop :=
  (∀ (s : State) (ws rest : List IWord) (i : Instr), s.phase = .run → s.fetched s.cur = (ws, none) → decode ws = .ok (i, rest) →
    (∀ t, exec i s = .next t → step s = .next (t.afterRun s.curCore)) ∧ (∀ f, exec i s = .fault f → step s = .fault f) ∧
    (∀ r, exec i s = .refused r → step s = .refused r)) ∧
  (∀ (s : State) (ws : List IWord) (e : DecodeError), s.phase = .run → s.fetched s.cur = (ws, none) → decode ws = .error e →
    step s = .next ((s.settle (.error s.illegal)).afterRun s.curCore)) ∧
  (∀ (s : State) (core : Nat), s.phase = .event → s.afterRun core = s) ∧
  (∀ (s : State) (core : Nat), s.phase = .run → core < 255 → ∃ t, s.afterRun core = t ∧ t.phase = .event ∧ t.turn = core + 1 ∧ t.passed = 0 ∧
    t.resume = false ∧ t.mem = s.mem ∧ t.ctxs = s.ctxs ∧ t.agenda = s.agenda) ∧
  (∀ s : State, s.phase = .event → step s = exec s.nextEvent.1 s.nextEvent.2) ∧
  (∀ s : State, s.phase = .event → s.agenda = [] → step s = exec (.issueTurn (coreId s.turn)) s) ∧
  (∀ s : State, s.nextEvent.1 = .issueTurn (coreId s.turn) ∨ s.nextEvent.1 ∈ s.agenda)

/-- R80, R232, R382, R389, R409, R411, R433: the state after reset: READY, every context FREE, every queue DISABLED, no translation cached, memory without a
listed byte and in its canonical form, and the registers at the values the spec gives them. Where the spec gives none the values are the
model's own (log entries 1 and 3) and are not stated here, but for one: the link to the peer package is down (log entry 21). -/
def Obligations.ResetState : Prop :=
  let s := State.reset
  s.mem = [] ∧ s.memOk ∧ s.phase = .event ∧ s.pkg.phase = 6 ∧ s.pkg.bootErr = 0 ∧ s.pkg.trans = [] ∧ (∀ c, (s.coreAt c).tlb = []) ∧ (∀ d, (s.dieAt d).tlb = []) ∧ s.pkg.entries = [] ∧ s.pkg.linkUp = false ∧
  (∀ k, (s.ctxAt k).state = .free) ∧ (∀ q, (s.queue q).state = .disabled ∧ (s.queue q).rdidx = 0 ∧ (s.queue q).wridx = 0) ∧
  (∀ d e, d < 4 → (s.dieAt d).vclk.get e 0 = if e = d then 1 else 0) ∧ (∀ d, d < 4 → (s.dieAt d).cycle = (s.dieAt 0).cycle) ∧
  (∀ d o, d < 4 → o ∈ [0, 8, 16] → s.loadRegister (0x1000 + 0x1000 * d + o) 8 = (0, s)) ∧
  (∀ q, q < 4096 → s.loadRegister (0x2000018 + 0x1000 * q) 8 = (2 ^ 32 * 4, s)) ∧
  s.loadRegister 0x020 8 = (28000, s) ∧ s.loadRegister 0x0C8 8 = (1200000, s) ∧ s.loadRegister 0x840 8 = (0, s) ∧ s.loadRegister 0x908 8 = (6, s)

/-- The model's memory is a list of the bytes that are not zero, at rising addresses (log entry 3): every step from a state in which it is so
leaves it so. -/
def Obligations.MemoryStaysCanonical : Prop :=
kept State.memOk

end
end

