-- ==== Sys2Proof/Laws/Encoding.lean ====
section
/-! SUPPORT. The fields that the encoder lays into a word are the fields that the decoder reads from it, and what decoding
the words of one format comes to. -/

namespace Sys2Proof.Laws

open Sys2Proof

/-! ### Fields of joined bit vectors -/

theorem field_low {m n : Nat} (x : BitVec m) (y : BitVec n) : (x ++ y).extractLsb' 0 n = y := by
  apply BitVec.eq_of_getLsbD_eq; intro j hj
  simp [BitVec.getLsbD_append, hj]

theorem field_skip {m n : Nat} (x : BitVec m) (y : BitVec n) (p k : Nat) : (x ++ y).extractLsb' (n + p) k = x.extractLsb' p k := by
  apply BitVec.eq_of_getLsbD_eq; intro j hj
  simp [BitVec.getLsbD_append, hj, show ¬ n + p + j < n by omega, show n + p + j - n = p + j by omega]

theorem field_at {m n k : Nat} (x : BitVec m) (y : BitVec k) (z : BitVec n) : ((x ++ y) ++ z).extractLsb' n k = y := by
  exact (field_skip (x ++ y) z 0 k).trans (field_low x y)

theorem field_all {m : Nat} (x : BitVec m) : x.extractLsb' 0 m = x := by
  apply BitVec.eq_of_getLsbD_eq; intro j hj; simp [hj]

theorem field_top {m n : Nat} (x : BitVec m) (z : BitVec n) : (x ++ z).extractLsb' n m = x := by
  exact (field_skip x z 0 m).trans (field_all x)

theorem bit_of {n : Nat} (w : BitVec n) (k : Nat) : BitVec.ofBool (w.getLsbD k) = w.extractLsb' k 1 := by
  apply BitVec.eq_of_getLsbD_eq; intro j hj
  have : j = 0 := by omega
  subst this; simp

theorem ofBool_inj {a b : Bool} (h : BitVec.ofBool a = BitVec.ofBool b) : a = b := by
  cases a <;> cases b <;> simp_all

theorem bit_eq {n : Nat} {w : BitVec n} {k : Nat} {b : Bool} (h : w.extractLsb' k 1 = BitVec.ofBool b) : w.getLsbD k = b :=
  ofBool_inj (by rw [bit_of, h])

/-! ### Format RRR -/

@[simp] theorem fLen_rrr (l op b a d) : fLen (encRRR l op b a d) = l :=
  field_low (m := 30) _ _
@[simp] theorem fOp_rrr (l op b a d) : fOp (encRRR l op b a d) = BitVec.ofNat 9 op :=
  (field_skip (m := 30) (n := 2) (b ++ a ++ d ++ BitVec.ofNat 9 op) (l) 0 9).trans (field_low (m := 21) _ _)
@[simp] theorem fD_rrr (l op b a d) : fD (encRRR l op b a d) = d :=
  (field_skip (m := 30) (n := 2) (b ++ a ++ d ++ BitVec.ofNat 9 op) (l) 9 7).trans ((field_skip (m := 21) (n := 9) (b ++ a ++ d) (BitVec.ofNat 9 op) 0 7).trans (field_low (m := 14) _ _))
@[simp] theorem fA_rrr (l op b a d) : fA (encRRR l op b a d) = a :=
  (field_skip (m := 30) (n := 2) (b ++ a ++ d ++ BitVec.ofNat 9 op) (l) 16 7).trans ((field_skip (m := 21) (n := 9) (b ++ a ++ d) (BitVec.ofNat 9 op) 7 7).trans ((field_skip (m := 14) (n := 7) (b ++ a) (d) 0 7).trans (field_low (m := 7) _ _)))
@[simp] theorem fB_rrr (l op b a d) : fB (encRRR l op b a d) = b :=
  (field_skip (m := 30) (n := 2) (b ++ a ++ d ++ BitVec.ofNat 9 op) (l) 23 7).trans ((field_skip (m := 21) (n := 9) (b ++ a ++ d) (BitVec.ofNat 9 op) 14 7).trans ((field_skip (m := 14) (n := 7) (b ++ a) (d) 7 7).trans ((field_skip (m := 7) (n := 7) (b) (a) 0 7).trans (field_all _))))
@[simp] theorem fI14_rrr (l op b a d) : fI14 (encRRR l op b a d) = b ++ a :=
  (field_skip (m := 30) (n := 2) (b ++ a ++ d ++ BitVec.ofNat 9 op) (l) 16 14).trans ((field_skip (m := 21) (n := 9) (b ++ a ++ d) (BitVec.ofNat 9 op) 7 14).trans ((field_skip (m := 14) (n := 7) (b ++ a) (d) 0 14).trans (field_all _)))
@[simp] theorem fI21_rrr (l op b a d) : fI21 (encRRR l op b a d) = b ++ a ++ d :=
  (field_skip (m := 30) (n := 2) (b ++ a ++ d ++ BitVec.ofNat 9 op) (l) 9 21).trans ((field_skip (m := 21) (n := 9) (b ++ a ++ d) (BitVec.ofNat 9 op) 0 21).trans (field_all _))

/-! ### Format RI -/

@[simp] theorem fLen_ri (l op i d) : fLen (encRI l op i d) = l :=
  field_low (m := 30) _ _
@[simp] theorem fOp_ri (l op i d) : fOp (encRI l op i d) = BitVec.ofNat 9 op :=
  (field_skip (m := 30) (n := 2) (i ++ d ++ BitVec.ofNat 9 op) (l) 0 9).trans (field_low (m := 21) _ _)
@[simp] theorem fD_ri (l op i d) : fD (encRI l op i d) = d :=
  (field_skip (m := 30) (n := 2) (i ++ d ++ BitVec.ofNat 9 op) (l) 9 7).trans ((field_skip (m := 21) (n := 9) (i ++ d) (BitVec.ofNat 9 op) 0 7).trans (field_low (m := 14) _ _))
@[simp] theorem fI14_ri (l op i d) : fI14 (encRI l op i d) = i :=
  (field_skip (m := 30) (n := 2) (i ++ d ++ BitVec.ofNat 9 op) (l) 16 14).trans ((field_skip (m := 21) (n := 9) (i ++ d) (BitVec.ofNat 9 op) 7 14).trans ((field_skip (m := 14) (n := 7) (i) (d) 0 14).trans (field_all _)))

/-! ### Format J -/

@[simp] theorem fLen_j (op i) : fLen (encJ op i) = 0#2 :=
  field_low (m := 30) _ _
@[simp] theorem fOp_j (op i) : fOp (encJ op i) = BitVec.ofNat 9 op :=
  (field_skip (m := 30) (n := 2) (i ++ BitVec.ofNat 9 op) (0#2) 0 9).trans (field_low (m := 21) _ _)
@[simp] theorem fI21_j (op i) : fI21 (encJ op i) = i :=
  (field_skip (m := 30) (n := 2) (i ++ BitVec.ofNat 9 op) (0#2) 9 21).trans ((field_skip (m := 21) (n := 9) (i) (BitVec.ofNat 9 op) 0 21).trans (field_all _))

/-! ### Format CS -/

@[simp] theorem fLen_cs (op ib k cc b a) : fLen (encCS op ib k cc b a) = 0#2 :=
  field_low (m := 30) _ _
@[simp] theorem fOp_cs (op ib k cc b a) : fOp (encCS op ib k cc b a) = BitVec.ofNat 9 op :=
  (field_skip (m := 30) (n := 2) (BitVec.ofBool ib ++ k ++ cc ++ b ++ a ++ BitVec.ofNat 9 op) (0#2) 0 9).trans (field_low (m := 21) _ _)
@[simp] theorem fD_cs (op ib k cc b a) : fD (encCS op ib k cc b a) = a :=
  (field_skip (m := 30) (n := 2) (BitVec.ofBool ib ++ k ++ cc ++ b ++ a ++ BitVec.ofNat 9 op) (0#2) 9 7).trans ((field_skip (m := 21) (n := 9) (BitVec.ofBool ib ++ k ++ cc ++ b ++ a) (BitVec.ofNat 9 op) 0 7).trans (field_low (m := 14) _ _))
@[simp] theorem fA_cs (op ib k cc b a) : fA (encCS op ib k cc b a) = b :=
  (field_skip (m := 30) (n := 2) (BitVec.ofBool ib ++ k ++ cc ++ b ++ a ++ BitVec.ofNat 9 op) (0#2) 16 7).trans ((field_skip (m := 21) (n := 9) (BitVec.ofBool ib ++ k ++ cc ++ b ++ a) (BitVec.ofNat 9 op) 7 7).trans ((field_skip (m := 14) (n := 7) (BitVec.ofBool ib ++ k ++ cc ++ b) (a) 0 7).trans (field_low (m := 7) _ _)))
@[simp] theorem fCC_cs (op ib k cc b a) : fCC (encCS op ib k cc b a) = cc :=
  (field_skip (m := 30) (n := 2) (BitVec.ofBool ib ++ k ++ cc ++ b ++ a ++ BitVec.ofNat 9 op) (0#2) 23 4).trans ((field_skip (m := 21) (n := 9) (BitVec.ofBool ib ++ k ++ cc ++ b ++ a) (BitVec.ofNat 9 op) 14 4).trans ((field_skip (m := 14) (n := 7) (BitVec.ofBool ib ++ k ++ cc ++ b) (a) 7 4).trans ((field_skip (m := 7) (n := 7) (BitVec.ofBool ib ++ k ++ cc) (b) 0 4).trans (field_low (m := 3) _ _))))
@[simp] theorem fK_cs (op ib k cc b a) : fK (encCS op ib k cc b a) = k :=
  (field_skip (m := 30) (n := 2) (BitVec.ofBool ib ++ k ++ cc ++ b ++ a ++ BitVec.ofNat 9 op) (0#2) 27 2).trans ((field_skip (m := 21) (n := 9) (BitVec.ofBool ib ++ k ++ cc ++ b ++ a) (BitVec.ofNat 9 op) 18 2).trans ((field_skip (m := 14) (n := 7) (BitVec.ofBool ib ++ k ++ cc ++ b) (a) 11 2).trans ((field_skip (m := 7) (n := 7) (BitVec.ofBool ib ++ k ++ cc) (b) 4 2).trans ((field_skip (m := 3) (n := 4) (BitVec.ofBool ib ++ k) (cc) 0 2).trans (field_low (m := 1) _ _)))))
@[simp] theorem fIB_cs (op ib k cc b a) : fIB (encCS op ib k cc b a) = ib :=
  bit_eq ((field_skip (m := 30) (n := 2) (BitVec.ofBool ib ++ k ++ cc ++ b ++ a ++ BitVec.ofNat 9 op) (0#2) 29 1).trans ((field_skip (m := 21) (n := 9) (BitVec.ofBool ib ++ k ++ cc ++ b ++ a) (BitVec.ofNat 9 op) 20 1).trans ((field_skip (m := 14) (n := 7) (BitVec.ofBool ib ++ k ++ cc ++ b) (a) 13 1).trans ((field_skip (m := 7) (n := 7) (BitVec.ofBool ib ++ k ++ cc) (b) 6 1).trans ((field_skip (m := 3) (n := 4) (BitVec.ofBool ib ++ k) (cc) 2 1).trans ((field_skip (m := 1) (n := 2) (BitVec.ofBool ib) (k) 0 1).trans (field_all _)))))))

/-! ### Format M -/

@[simp] theorem fLen_m (l op i sp a d) : fLen (encM l op i sp a d) = l :=
  field_low (m := 30) _ _
@[simp] theorem fOp_m (l op i sp a d) : fOp (encM l op i sp a d) = BitVec.ofNat 9 op :=
  (field_skip (m := 30) (n := 2) (i ++ sp ++ a ++ d ++ BitVec.ofNat 9 op) (l) 0 9).trans (field_low (m := 21) _ _)
@[simp] theorem fD_m (l op i sp a d) : fD (encM l op i sp a d) = d :=
  (field_skip (m := 30) (n := 2) (i ++ sp ++ a ++ d ++ BitVec.ofNat 9 op) (l) 9 7).trans ((field_skip (m := 21) (n := 9) (i ++ sp ++ a ++ d) (BitVec.ofNat 9 op) 0 7).trans (field_low (m := 14) _ _))
@[simp] theorem fA_m (l op i sp a d) : fA (encM l op i sp a d) = a :=
  (field_skip (m := 30) (n := 2) (i ++ sp ++ a ++ d ++ BitVec.ofNat 9 op) (l) 16 7).trans ((field_skip (m := 21) (n := 9) (i ++ sp ++ a ++ d) (BitVec.ofNat 9 op) 7 7).trans ((field_skip (m := 14) (n := 7) (i ++ sp ++ a) (d) 0 7).trans (field_low (m := 7) _ _)))
@[simp] theorem fSP_m (l op i sp a d) : fSP (encM l op i sp a d) = sp :=
  (field_skip (m := 30) (n := 2) (i ++ sp ++ a ++ d ++ BitVec.ofNat 9 op) (l) 23 2).trans ((field_skip (m := 21) (n := 9) (i ++ sp ++ a ++ d) (BitVec.ofNat 9 op) 14 2).trans ((field_skip (m := 14) (n := 7) (i ++ sp ++ a) (d) 7 2).trans ((field_skip (m := 7) (n := 7) (i ++ sp) (a) 0 2).trans (field_low (m := 5) _ _))))
@[simp] theorem fI5_m (l op i sp a d) : fI5 (encM l op i sp a d) = i :=
  (field_skip (m := 30) (n := 2) (i ++ sp ++ a ++ d ++ BitVec.ofNat 9 op) (l) 25 5).trans ((field_skip (m := 21) (n := 9) (i ++ sp ++ a ++ d) (BitVec.ofNat 9 op) 16 5).trans ((field_skip (m := 14) (n := 7) (i ++ sp ++ a) (d) 9 5).trans ((field_skip (m := 7) (n := 7) (i ++ sp) (a) 2 5).trans ((field_skip (m := 5) (n := 2) (i) (sp) 0 5).trans (field_all _)))))

/-! ### The extended format -/

@[simp] theorem fLen_ext0 (l op sub e) : fLen (encExt0 l op sub e) = l :=
  field_low (m := 30) _ _
@[simp] theorem fOp_ext0 (l op sub e) : fOp (encExt0 l op sub e) = BitVec.ofNat 9 op :=
  (field_skip (m := 30) (n := 2) (BitVec.ofBool e.synA ++ BitVec.ofBool e.synB ++ BitVec.ofBool e.synC ++ e.scope ++ e.ord ++ e.rnd ++ BitVec.ofBool e.sat ++ e.sp ++ e.hint ++ BitVec.ofNat 5 sub ++ BitVec.ofNat 9 op) (l) 0 9).trans (field_low (m := 21) _ _)
@[simp] theorem fSub_ext0 (l op sub e) : fSub (encExt0 l op sub e) = BitVec.ofNat 5 sub :=
  (field_skip (m := 30) (n := 2) (BitVec.ofBool e.synA ++ BitVec.ofBool e.synB ++ BitVec.ofBool e.synC ++ e.scope ++ e.ord ++ e.rnd ++ BitVec.ofBool e.sat ++ e.sp ++ e.hint ++ BitVec.ofNat 5 sub ++ BitVec.ofNat 9 op) (l) 9 5).trans ((field_skip (m := 21) (n := 9) (BitVec.ofBool e.synA ++ BitVec.ofBool e.synB ++ BitVec.ofBool e.synC ++ e.scope ++ e.ord ++ e.rnd ++ BitVec.ofBool e.sat ++ e.sp ++ e.hint ++ BitVec.ofNat 5 sub) (BitVec.ofNat 9 op) 0 5).trans (field_low (m := 16) _ _))
@[simp] theorem hint_ext0 (l op sub e) : (encExt0 l op sub e).extractLsb' 16 2 = e.hint :=
  (field_skip (m := 30) (n := 2) (BitVec.ofBool e.synA ++ BitVec.ofBool e.synB ++ BitVec.ofBool e.synC ++ e.scope ++ e.ord ++ e.rnd ++ BitVec.ofBool e.sat ++ e.sp ++ e.hint ++ BitVec.ofNat 5 sub ++ BitVec.ofNat 9 op) (l) 14 2).trans ((field_skip (m := 21) (n := 9) (BitVec.ofBool e.synA ++ BitVec.ofBool e.synB ++ BitVec.ofBool e.synC ++ e.scope ++ e.ord ++ e.rnd ++ BitVec.ofBool e.sat ++ e.sp ++ e.hint ++ BitVec.ofNat 5 sub) (BitVec.ofNat 9 op) 5 2).trans ((field_skip (m := 16) (n := 5) (BitVec.ofBool e.synA ++ BitVec.ofBool e.synB ++ BitVec.ofBool e.synC ++ e.scope ++ e.ord ++ e.rnd ++ BitVec.ofBool e.sat ++ e.sp ++ e.hint) (BitVec.ofNat 5 sub) 0 2).trans (field_low (m := 14) _ _)))
@[simp] theorem sp_ext0 (l op sub e) : (encExt0 l op sub e).extractLsb' 18 2 = e.sp :=
  (field_skip (m := 30) (n := 2) (BitVec.ofBool e.synA ++ BitVec.ofBool e.synB ++ BitVec.ofBool e.synC ++ e.scope ++ e.ord ++ e.rnd ++ BitVec.ofBool e.sat ++ e.sp ++ e.hint ++ BitVec.ofNat 5 sub ++ BitVec.ofNat 9 op) (l) 16 2).trans ((field_skip (m := 21) (n := 9) (BitVec.ofBool e.synA ++ BitVec.ofBool e.synB ++ BitVec.ofBool e.synC ++ e.scope ++ e.ord ++ e.rnd ++ BitVec.ofBool e.sat ++ e.sp ++ e.hint ++ BitVec.ofNat 5 sub) (BitVec.ofNat 9 op) 7 2).trans ((field_skip (m := 16) (n := 5) (BitVec.ofBool e.synA ++ BitVec.ofBool e.synB ++ BitVec.ofBool e.synC ++ e.scope ++ e.ord ++ e.rnd ++ BitVec.ofBool e.sat ++ e.sp ++ e.hint) (BitVec.ofNat 5 sub) 2 2).trans ((field_skip (m := 14) (n := 2) (BitVec.ofBool e.synA ++ BitVec.ofBool e.synB ++ BitVec.ofBool e.synC ++ e.scope ++ e.ord ++ e.rnd ++ BitVec.ofBool e.sat ++ e.sp) (e.hint) 0 2).trans (field_low (m := 12) _ _))))
@[simp] theorem sat_ext0 (l op sub e) : (encExt0 l op sub e).getLsbD 20 = e.sat :=
  bit_eq ((field_skip (m := 30) (n := 2) (BitVec.ofBool e.synA ++ BitVec.ofBool e.synB ++ BitVec.ofBool e.synC ++ e.scope ++ e.ord ++ e.rnd ++ BitVec.ofBool e.sat ++ e.sp ++ e.hint ++ BitVec.ofNat 5 sub ++ BitVec.ofNat 9 op) (l) 18 1).trans ((field_skip (m := 21) (n := 9) (BitVec.ofBool e.synA ++ BitVec.ofBool e.synB ++ BitVec.ofBool e.synC ++ e.scope ++ e.ord ++ e.rnd ++ BitVec.ofBool e.sat ++ e.sp ++ e.hint ++ BitVec.ofNat 5 sub) (BitVec.ofNat 9 op) 9 1).trans ((field_skip (m := 16) (n := 5) (BitVec.ofBool e.synA ++ BitVec.ofBool e.synB ++ BitVec.ofBool e.synC ++ e.scope ++ e.ord ++ e.rnd ++ BitVec.ofBool e.sat ++ e.sp ++ e.hint) (BitVec.ofNat 5 sub) 4 1).trans ((field_skip (m := 14) (n := 2) (BitVec.ofBool e.synA ++ BitVec.ofBool e.synB ++ BitVec.ofBool e.synC ++ e.scope ++ e.ord ++ e.rnd ++ BitVec.ofBool e.sat ++ e.sp) (e.hint) 2 1).trans ((field_skip (m := 12) (n := 2) (BitVec.ofBool e.synA ++ BitVec.ofBool e.synB ++ BitVec.ofBool e.synC ++ e.scope ++ e.ord ++ e.rnd ++ BitVec.ofBool e.sat) (e.sp) 0 1).trans (field_low (m := 11) _ _))))))
@[simp] theorem rnd_ext0 (l op sub e) : (encExt0 l op sub e).extractLsb' 21 3 = e.rnd :=
  (field_skip (m := 30) (n := 2) (BitVec.ofBool e.synA ++ BitVec.ofBool e.synB ++ BitVec.ofBool e.synC ++ e.scope ++ e.ord ++ e.rnd ++ BitVec.ofBool e.sat ++ e.sp ++ e.hint ++ BitVec.ofNat 5 sub ++ BitVec.ofNat 9 op) (l) 19 3).trans ((field_skip (m := 21) (n := 9) (BitVec.ofBool e.synA ++ BitVec.ofBool e.synB ++ BitVec.ofBool e.synC ++ e.scope ++ e.ord ++ e.rnd ++ BitVec.ofBool e.sat ++ e.sp ++ e.hint ++ BitVec.ofNat 5 sub) (BitVec.ofNat 9 op) 10 3).trans ((field_skip (m := 16) (n := 5) (BitVec.ofBool e.synA ++ BitVec.ofBool e.synB ++ BitVec.ofBool e.synC ++ e.scope ++ e.ord ++ e.rnd ++ BitVec.ofBool e.sat ++ e.sp ++ e.hint) (BitVec.ofNat 5 sub) 5 3).trans ((field_skip (m := 14) (n := 2) (BitVec.ofBool e.synA ++ BitVec.ofBool e.synB ++ BitVec.ofBool e.synC ++ e.scope ++ e.ord ++ e.rnd ++ BitVec.ofBool e.sat ++ e.sp) (e.hint) 3 3).trans ((field_skip (m := 12) (n := 2) (BitVec.ofBool e.synA ++ BitVec.ofBool e.synB ++ BitVec.ofBool e.synC ++ e.scope ++ e.ord ++ e.rnd ++ BitVec.ofBool e.sat) (e.sp) 1 3).trans ((field_skip (m := 11) (n := 1) (BitVec.ofBool e.synA ++ BitVec.ofBool e.synB ++ BitVec.ofBool e.synC ++ e.scope ++ e.ord ++ e.rnd) (BitVec.ofBool e.sat) 0 3).trans (field_low (m := 8) _ _))))))
@[simp] theorem ord_ext0 (l op sub e) : (encExt0 l op sub e).extractLsb' 24 2 = e.ord :=
  (field_skip (m := 30) (n := 2) (BitVec.ofBool e.synA ++ BitVec.ofBool e.synB ++ BitVec.ofBool e.synC ++ e.scope ++ e.ord ++ e.rnd ++ BitVec.ofBool e.sat ++ e.sp ++ e.hint ++ BitVec.ofNat 5 sub ++ BitVec.ofNat 9 op) (l) 22 2).trans ((field_skip (m := 21) (n := 9) (BitVec.ofBool e.synA ++ BitVec.ofBool e.synB ++ BitVec.ofBool e.synC ++ e.scope ++ e.ord ++ e.rnd ++ BitVec.ofBool e.sat ++ e.sp ++ e.hint ++ BitVec.ofNat 5 sub) (BitVec.ofNat 9 op) 13 2).trans ((field_skip (m := 16) (n := 5) (BitVec.ofBool e.synA ++ BitVec.ofBool e.synB ++ BitVec.ofBool e.synC ++ e.scope ++ e.ord ++ e.rnd ++ BitVec.ofBool e.sat ++ e.sp ++ e.hint) (BitVec.ofNat 5 sub) 8 2).trans ((field_skip (m := 14) (n := 2) (BitVec.ofBool e.synA ++ BitVec.ofBool e.synB ++ BitVec.ofBool e.synC ++ e.scope ++ e.ord ++ e.rnd ++ BitVec.ofBool e.sat ++ e.sp) (e.hint) 6 2).trans ((field_skip (m := 12) (n := 2) (BitVec.ofBool e.synA ++ BitVec.ofBool e.synB ++ BitVec.ofBool e.synC ++ e.scope ++ e.ord ++ e.rnd ++ BitVec.ofBool e.sat) (e.sp) 4 2).trans ((field_skip (m := 11) (n := 1) (BitVec.ofBool e.synA ++ BitVec.ofBool e.synB ++ BitVec.ofBool e.synC ++ e.scope ++ e.ord ++ e.rnd) (BitVec.ofBool e.sat) 3 2).trans ((field_skip (m := 8) (n := 3) (BitVec.ofBool e.synA ++ BitVec.ofBool e.synB ++ BitVec.ofBool e.synC ++ e.scope ++ e.ord) (e.rnd) 0 2).trans (field_low (m := 6) _ _)))))))
@[simp] theorem scope_ext0 (l op sub e) : (encExt0 l op sub e).extractLsb' 26 3 = e.scope :=
  (field_skip (m := 30) (n := 2) (BitVec.ofBool e.synA ++ BitVec.ofBool e.synB ++ BitVec.ofBool e.synC ++ e.scope ++ e.ord ++ e.rnd ++ BitVec.ofBool e.sat ++ e.sp ++ e.hint ++ BitVec.ofNat 5 sub ++ BitVec.ofNat 9 op) (l) 24 3).trans ((field_skip (m := 21) (n := 9) (BitVec.ofBool e.synA ++ BitVec.ofBool e.synB ++ BitVec.ofBool e.synC ++ e.scope ++ e.ord ++ e.rnd ++ BitVec.ofBool e.sat ++ e.sp ++ e.hint ++ BitVec.ofNat 5 sub) (BitVec.ofNat 9 op) 15 3).trans ((field_skip (m := 16) (n := 5) (BitVec.ofBool e.synA ++ BitVec.ofBool e.synB ++ BitVec.ofBool e.synC ++ e.scope ++ e.ord ++ e.rnd ++ BitVec.ofBool e.sat ++ e.sp ++ e.hint) (BitVec.ofNat 5 sub) 10 3).trans ((field_skip (m := 14) (n := 2) (BitVec.ofBool e.synA ++ BitVec.ofBool e.synB ++ BitVec.ofBool e.synC ++ e.scope ++ e.ord ++ e.rnd ++ BitVec.ofBool e.sat ++ e.sp) (e.hint) 8 3).trans ((field_skip (m := 12) (n := 2) (BitVec.ofBool e.synA ++ BitVec.ofBool e.synB ++ BitVec.ofBool e.synC ++ e.scope ++ e.ord ++ e.rnd ++ BitVec.ofBool e.sat) (e.sp) 6 3).trans ((field_skip (m := 11) (n := 1) (BitVec.ofBool e.synA ++ BitVec.ofBool e.synB ++ BitVec.ofBool e.synC ++ e.scope ++ e.ord ++ e.rnd) (BitVec.ofBool e.sat) 5 3).trans ((field_skip (m := 8) (n := 3) (BitVec.ofBool e.synA ++ BitVec.ofBool e.synB ++ BitVec.ofBool e.synC ++ e.scope ++ e.ord) (e.rnd) 2 3).trans ((field_skip (m := 6) (n := 2) (BitVec.ofBool e.synA ++ BitVec.ofBool e.synB ++ BitVec.ofBool e.synC ++ e.scope) (e.ord) 0 3).trans (field_low (m := 3) _ _))))))))
@[simp] theorem synC_ext0 (l op sub e) : (encExt0 l op sub e).getLsbD 29 = e.synC :=
  bit_eq ((field_skip (m := 30) (n := 2) (BitVec.ofBool e.synA ++ BitVec.ofBool e.synB ++ BitVec.ofBool e.synC ++ e.scope ++ e.ord ++ e.rnd ++ BitVec.ofBool e.sat ++ e.sp ++ e.hint ++ BitVec.ofNat 5 sub ++ BitVec.ofNat 9 op) (l) 27 1).trans ((field_skip (m := 21) (n := 9) (BitVec.ofBool e.synA ++ BitVec.ofBool e.synB ++ BitVec.ofBool e.synC ++ e.scope ++ e.ord ++ e.rnd ++ BitVec.ofBool e.sat ++ e.sp ++ e.hint ++ BitVec.ofNat 5 sub) (BitVec.ofNat 9 op) 18 1).trans ((field_skip (m := 16) (n := 5) (BitVec.ofBool e.synA ++ BitVec.ofBool e.synB ++ BitVec.ofBool e.synC ++ e.scope ++ e.ord ++ e.rnd ++ BitVec.ofBool e.sat ++ e.sp ++ e.hint) (BitVec.ofNat 5 sub) 13 1).trans ((field_skip (m := 14) (n := 2) (BitVec.ofBool e.synA ++ BitVec.ofBool e.synB ++ BitVec.ofBool e.synC ++ e.scope ++ e.ord ++ e.rnd ++ BitVec.ofBool e.sat ++ e.sp) (e.hint) 11 1).trans ((field_skip (m := 12) (n := 2) (BitVec.ofBool e.synA ++ BitVec.ofBool e.synB ++ BitVec.ofBool e.synC ++ e.scope ++ e.ord ++ e.rnd ++ BitVec.ofBool e.sat) (e.sp) 9 1).trans ((field_skip (m := 11) (n := 1) (BitVec.ofBool e.synA ++ BitVec.ofBool e.synB ++ BitVec.ofBool e.synC ++ e.scope ++ e.ord ++ e.rnd) (BitVec.ofBool e.sat) 8 1).trans ((field_skip (m := 8) (n := 3) (BitVec.ofBool e.synA ++ BitVec.ofBool e.synB ++ BitVec.ofBool e.synC ++ e.scope ++ e.ord) (e.rnd) 5 1).trans ((field_skip (m := 6) (n := 2) (BitVec.ofBool e.synA ++ BitVec.ofBool e.synB ++ BitVec.ofBool e.synC ++ e.scope) (e.ord) 3 1).trans ((field_skip (m := 3) (n := 3) (BitVec.ofBool e.synA ++ BitVec.ofBool e.synB ++ BitVec.ofBool e.synC) (e.scope) 0 1).trans (field_low (m := 2) _ _))))))))))
@[simp] theorem synB_ext0 (l op sub e) : (encExt0 l op sub e).getLsbD 30 = e.synB :=
  bit_eq ((field_skip (m := 30) (n := 2) (BitVec.ofBool e.synA ++ BitVec.ofBool e.synB ++ BitVec.ofBool e.synC ++ e.scope ++ e.ord ++ e.rnd ++ BitVec.ofBool e.sat ++ e.sp ++ e.hint ++ BitVec.ofNat 5 sub ++ BitVec.ofNat 9 op) (l) 28 1).trans ((field_skip (m := 21) (n := 9) (BitVec.ofBool e.synA ++ BitVec.ofBool e.synB ++ BitVec.ofBool e.synC ++ e.scope ++ e.ord ++ e.rnd ++ BitVec.ofBool e.sat ++ e.sp ++ e.hint ++ BitVec.ofNat 5 sub) (BitVec.ofNat 9 op) 19 1).trans ((field_skip (m := 16) (n := 5) (BitVec.ofBool e.synA ++ BitVec.ofBool e.synB ++ BitVec.ofBool e.synC ++ e.scope ++ e.ord ++ e.rnd ++ BitVec.ofBool e.sat ++ e.sp ++ e.hint) (BitVec.ofNat 5 sub) 14 1).trans ((field_skip (m := 14) (n := 2) (BitVec.ofBool e.synA ++ BitVec.ofBool e.synB ++ BitVec.ofBool e.synC ++ e.scope ++ e.ord ++ e.rnd ++ BitVec.ofBool e.sat ++ e.sp) (e.hint) 12 1).trans ((field_skip (m := 12) (n := 2) (BitVec.ofBool e.synA ++ BitVec.ofBool e.synB ++ BitVec.ofBool e.synC ++ e.scope ++ e.ord ++ e.rnd ++ BitVec.ofBool e.sat) (e.sp) 10 1).trans ((field_skip (m := 11) (n := 1) (BitVec.ofBool e.synA ++ BitVec.ofBool e.synB ++ BitVec.ofBool e.synC ++ e.scope ++ e.ord ++ e.rnd) (BitVec.ofBool e.sat) 9 1).trans ((field_skip (m := 8) (n := 3) (BitVec.ofBool e.synA ++ BitVec.ofBool e.synB ++ BitVec.ofBool e.synC ++ e.scope ++ e.ord) (e.rnd) 6 1).trans ((field_skip (m := 6) (n := 2) (BitVec.ofBool e.synA ++ BitVec.ofBool e.synB ++ BitVec.ofBool e.synC ++ e.scope) (e.ord) 4 1).trans ((field_skip (m := 3) (n := 3) (BitVec.ofBool e.synA ++ BitVec.ofBool e.synB ++ BitVec.ofBool e.synC) (e.scope) 1 1).trans ((field_skip (m := 2) (n := 1) (BitVec.ofBool e.synA ++ BitVec.ofBool e.synB) (BitVec.ofBool e.synC) 0 1).trans (field_low (m := 1) _ _)))))))))))
@[simp] theorem synA_ext0 (l op sub e) : (encExt0 l op sub e).getLsbD 31 = e.synA :=
  bit_eq ((field_skip (m := 30) (n := 2) (BitVec.ofBool e.synA ++ BitVec.ofBool e.synB ++ BitVec.ofBool e.synC ++ e.scope ++ e.ord ++ e.rnd ++ BitVec.ofBool e.sat ++ e.sp ++ e.hint ++ BitVec.ofNat 5 sub ++ BitVec.ofNat 9 op) (l) 29 1).trans ((field_skip (m := 21) (n := 9) (BitVec.ofBool e.synA ++ BitVec.ofBool e.synB ++ BitVec.ofBool e.synC ++ e.scope ++ e.ord ++ e.rnd ++ BitVec.ofBool e.sat ++ e.sp ++ e.hint ++ BitVec.ofNat 5 sub) (BitVec.ofNat 9 op) 20 1).trans ((field_skip (m := 16) (n := 5) (BitVec.ofBool e.synA ++ BitVec.ofBool e.synB ++ BitVec.ofBool e.synC ++ e.scope ++ e.ord ++ e.rnd ++ BitVec.ofBool e.sat ++ e.sp ++ e.hint) (BitVec.ofNat 5 sub) 15 1).trans ((field_skip (m := 14) (n := 2) (BitVec.ofBool e.synA ++ BitVec.ofBool e.synB ++ BitVec.ofBool e.synC ++ e.scope ++ e.ord ++ e.rnd ++ BitVec.ofBool e.sat ++ e.sp) (e.hint) 13 1).trans ((field_skip (m := 12) (n := 2) (BitVec.ofBool e.synA ++ BitVec.ofBool e.synB ++ BitVec.ofBool e.synC ++ e.scope ++ e.ord ++ e.rnd ++ BitVec.ofBool e.sat) (e.sp) 11 1).trans ((field_skip (m := 11) (n := 1) (BitVec.ofBool e.synA ++ BitVec.ofBool e.synB ++ BitVec.ofBool e.synC ++ e.scope ++ e.ord ++ e.rnd) (BitVec.ofBool e.sat) 10 1).trans ((field_skip (m := 8) (n := 3) (BitVec.ofBool e.synA ++ BitVec.ofBool e.synB ++ BitVec.ofBool e.synC ++ e.scope ++ e.ord) (e.rnd) 7 1).trans ((field_skip (m := 6) (n := 2) (BitVec.ofBool e.synA ++ BitVec.ofBool e.synB ++ BitVec.ofBool e.synC ++ e.scope) (e.ord) 5 1).trans ((field_skip (m := 3) (n := 3) (BitVec.ofBool e.synA ++ BitVec.ofBool e.synB ++ BitVec.ofBool e.synC) (e.scope) 2 1).trans ((field_skip (m := 2) (n := 1) (BitVec.ofBool e.synA ++ BitVec.ofBool e.synB) (BitVec.ofBool e.synC) 1 1).trans ((field_skip (m := 1) (n := 1) (BitVec.ofBool e.synA) (BitVec.ofBool e.synB) 0 1).trans (field_all _))))))))))))
@[simp] theorem d_ext1 (e : Ext) : (encExt1 e).extractLsb' 0 8 = e.d :=
  field_low (m := 24) _ _
@[simp] theorem a_ext1 (e : Ext) : (encExt1 e).extractLsb' 8 8 = e.a :=
  (field_skip (m := 24) (n := 8) (e.c ++ e.b ++ e.a) (e.d) 0 8).trans (field_low (m := 16) _ _)
@[simp] theorem b_ext1 (e : Ext) : (encExt1 e).extractLsb' 16 8 = e.b :=
  (field_skip (m := 24) (n := 8) (e.c ++ e.b ++ e.a) (e.d) 8 8).trans ((field_skip (m := 16) (n := 8) (e.c ++ e.b) (e.a) 0 8).trans (field_low (m := 8) _ _))
@[simp] theorem c_ext1 (e : Ext) : (encExt1 e).extractLsb' 24 8 = e.c :=
  (field_skip (m := 24) (n := 8) (e.c ++ e.b ++ e.a) (e.d) 16 8).trans ((field_skip (m := 16) (n := 8) (e.c ++ e.b) (e.a) 8 8).trans ((field_skip (m := 8) (n := 8) (e.c) (e.b) 0 8).trans (field_all _)))

theorem fields_enc (l op sub) (e : Ext) (imm) : decodeFields (encExt0 l op sub e) (encExt1 e) imm = { e with imm } := by
  simp only [decodeFields, a_ext1, b_ext1, c_ext1, d_ext1, synA_ext0, synB_ext0, synC_ext0, scope_ext0, ord_ext0, rnd_ext0,
    sat_ext0, sp_ext0, hint_ext0]

theorem split_join {m n : Nat} (v : BitVec (m + n)) : v.extractLsb' n m ++ v.extractLsb' 0 n = v := by
  simp

theorem join_lit (v : BitVec 64) : v.extractLsb' 32 32 ++ v.extractLsb' 0 32 = v := split_join (m := 32) (n := 32) v

/-! ### Whole formats -/

/-- What a decoding is worth after the checks of R65. -/
theorem decode_of_raw {ws rest i} (h : decodeRaw ws = .ok (i, rest)) (hw : i.wf = true) : decode ws = .ok (i, rest) := by
  have : i.check = none := by simpa [Instr.wf] using hw
  simp [decode, h, this]

theorem raw_base {w i} (rest) (hl : fLen w = 0#2) (h : decodeBase w = .ok i) : decodeRaw (w :: rest) = .ok (i, rest) := by
  simp [decodeRaw, hl, h, Except.map]

/-- A word of the base format decodes by the row of its OP. -/
theorem base_row {w : IWord} {op : Nat} {f : IWord → Except DecodeError Instr} {i} (h : (fOp w).toNat = op)
    (hd : ∀ w, (fOp w).toNat = op → decodeBase w = f w) (hf : f w = .ok i) : decodeBase w = .ok i := (hd w h).trans hf

theorem raw_lit {w i} {v : BitVec 64} (rest) (hl : fLen w = 1#2) (h : decodeLit w v = .ok i) :
    decodeRaw (w :: (encLit v ++ rest)) = .ok (i, rest) := by
  simp [decodeRaw, encLit, hl, join_lit, h, Except.map]

theorem raw_ext10 {op sub : Nat} {e : Ext} {v i} (rest) (hop : op < 512) (hi : e.imm = .imm10 v)
    (h : decodeExt op (BitVec.ofNat 5 sub) e = .ok i) : decodeRaw ([encExt0 2#2 op sub e, encExt1 e, v] ++ rest) = .ok (i, rest) := by
  obtain ⟨d, a, b, c, x, y, z, sc, o, r, st, sp, hint, imm⟩ := e
  subst hi
  simp [decodeRaw, fields_enc, Nat.mod_eq_of_lt hop, h, Except.map]

theorem raw_ext11 {op sub : Nat} {e : Ext} {v i} (rest) (hop : op < 512) (hi : e.imm = .lit11 v)
    (h : decodeExt op (BitVec.ofNat 5 sub) e = .ok i) :
    decodeRaw (encExt0 3#2 op sub e :: encExt1 e :: 0#32 :: encLit v ++ rest) = .ok (i, rest) := by
  obtain ⟨d, a, b, c, x, y, z, sc, o, r, st, sp, hint, imm⟩ := e
  subst hi
  simp [decodeRaw, fields_enc, Nat.mod_eq_of_lt hop, join_lit, encLit, h, Except.map]

/-- The round trip of an extended form, with the literal form shown separately. -/
theorem raw_ext {op sub : Nat} {fmt : IWord} {e : Ext} {i} (rest) (hop : op < 512)
    (h : decodeExt op (BitVec.ofNat 5 sub) e = .ok i)
    (hlit : ∀ v, e.imm = .lit01 v → fLen fmt = 1#2 ∧ decodeLit fmt v = .ok i) :
    decodeRaw (encExt op sub fmt e ++ rest) = .ok (i, rest) := by
  unfold encExt
  split
  · rename_i v hv
    exact raw_lit rest (hlit v hv).1 (hlit v hv).2
  · rename_i v hv; exact raw_ext10 rest hop hv h
  · rename_i v hv; exact raw_ext11 rest hop hv h

end Sys2Proof.Laws
end

