-- ==== Sys2Proof/Laws/Store.lean ====
section
/-! SUPPORT. The laws of maps in canonical form and of memory: reading after writing, writing elsewhere, and the canonical
form kept. -/

namespace Sys2Proof.Laws

open Sys2Proof.Machine

variable {α : Type}

@[simp] theorem find_nil (a : Nat) : Store.find ([] : Store α) a = none := rfl

@[simp] theorem find_put_same (m : Store α) (a : Nat) (v : α) : (m.put a v).find a = some v := by
  induction m with
  | nil => simp [Store.put, Store.find]
  | cons x r ih =>
    obtain ⟨k, w⟩ := x
    simp only [Store.put]
    split
    · simp [Store.find]
    · split
      · simp [Store.find]
      · rename_i h1 h2; simp [Store.find, Ne.symm h2, ih]

theorem find_put_other (m : Store α) {a b : Nat} (v : α) (h : b ≠ a) : (m.put a v).find b = m.find b := by
  induction m with
  | nil => simp [Store.put, Store.find, Ne.symm h]
  | cons x r ih =>
    obtain ⟨k, w⟩ := x
    simp only [Store.put]
    split
    · simp [Store.find, Ne.symm h]
    · split
      · rename_i h1 h2; subst h2; simp [Store.find, Ne.symm h]
      · by_cases hk : k = b <;> simp [Store.find, hk, ih]

@[simp] theorem find_drop_same (m : Store α) (a : Nat) : (m.drop a).find a = none := by
  induction m with
  | nil => rfl
  | cons x r ih =>
    obtain ⟨k, w⟩ := x
    by_cases hk : k = a <;> simp [Store.drop, Store.find, hk, ih]

theorem find_drop_other (m : Store α) {a b : Nat} (h : b ≠ a) : (m.drop a).find b = m.find b := by
  induction m with
  | nil => rfl
  | cons x r ih =>
    obtain ⟨k, w⟩ := x
    by_cases hk : k = a
    · simp [Store.drop, Store.find, hk, ih, Ne.symm h]
    · simp [Store.drop, Store.find, hk, ih]

@[simp] theorem get_put_same (m : Store α) (a : Nat) (v d : α) : (m.put a v).get a d = v := by simp [Store.get]

theorem get_put_other (m : Store α) {a b : Nat} (v d : α) (h : b ≠ a) : (m.put a v).get b d = m.get b d := by
  simp [Store.get, find_put_other m v h]

variable [DecidableEq α]

@[simp] theorem get_set_same (m : Store α) (a : Nat) (v d : α) : (m.set a v d).get a d = v := by
  unfold Store.set; split <;> simp_all [Store.get]

theorem get_set_other (m : Store α) {a b : Nat} (v d : α) (h : b ≠ a) : (m.set a v d).get b d = m.get b d := by
  unfold Store.set; split
  · simp [Store.get, find_drop_other m h]
  · exact get_put_other m v d h

/-! ### The canonical form -/

/-- Every key of the map is above `a`. -/
def above {α : Type} (m : Store α) (a : Nat) : Prop := ∀ x ∈ m, a < x.1

theorem sorted_cons {α : Type} {k : Nat} {v : α} {r : Store α} :
    Store.sorted ((k, v) :: r) = true ↔ above r k ∧ Store.sorted r = true := by
  induction r generalizing k v with
  | nil => simp [Store.sorted, above]
  | cons x r ih =>
    obtain ⟨k', v'⟩ := x
    simp only [Store.sorted, Bool.and_eq_true, decide_eq_true_eq, above, List.mem_cons]
    constructor
    · rintro ⟨h1, h2⟩
      refine ⟨?_, h2⟩
      rintro y (rfl | hy)
      · exact h1
      · exact Nat.lt_trans h1 ((ih.1 h2).1 y hy)
    · rintro ⟨h1, h2⟩
      exact ⟨h1 _ (Or.inl rfl), h2⟩

theorem above_put {α : Type} {m : Store α} {a k : Nat} {v : α} (h : above m k) (ha : k < a) : above (m.put a v) k := by
  induction m with
  | nil => simpa [Store.put, above] using ha
  | cons x r ih =>
    obtain ⟨j, w⟩ := x
    have hj : k < j := h (j, w) (List.mem_cons_self ..)
    have hr : above r k := fun y hy => h y (List.mem_cons_of_mem _ hy)
    simp only [Store.put]
    split
    · rintro y (_ | ⟨_, hy⟩); exact ha; exact h y hy
    · split
      · rintro y (_ | ⟨_, hy⟩); exact ha; exact hr y hy
      · rintro y (_ | ⟨_, hy⟩); exact hj; exact ih hr y hy

theorem above_drop {α : Type} {m : Store α} {a k : Nat} (h : above m k) : above (m.drop a) k := by
  induction m with
  | nil => exact h
  | cons x r ih =>
    obtain ⟨j, w⟩ := x
    have hr : above r k := fun y hy => h y (List.mem_cons_of_mem _ hy)
    simp only [Store.drop]
    split
    · exact ih hr
    · rintro y (_ | ⟨_, hy⟩); exact h _ (List.mem_cons_self ..); exact ih hr y hy

theorem sorted_put {α : Type} {m : Store α} (a : Nat) (v : α) (h : Store.sorted m = true) : Store.sorted (m.put a v) = true := by
  induction m with
  | nil => rfl
  | cons x r ih =>
    obtain ⟨k, w⟩ := x
    have hs := sorted_cons.1 h
    simp only [Store.put]
    split
    · rename_i hlt
      refine sorted_cons.2 ⟨?_, h⟩
      rintro y (_ | ⟨_, hy⟩)
      · exact hlt
      · exact Nat.lt_trans hlt (hs.1 y hy)
    · split
      · rename_i h1 h2; subst h2; exact sorted_cons.2 hs
      · exact sorted_cons.2 ⟨above_put hs.1 (by omega), ih hs.2⟩

theorem sorted_drop {α : Type} {m : Store α} (a : Nat) (h : Store.sorted m = true) : Store.sorted (m.drop a) = true := by
  induction m with
  | nil => rfl
  | cons x r ih =>
    obtain ⟨k, w⟩ := x
    have hs := sorted_cons.1 h
    simp only [Store.drop]
    split
    · exact ih hs.2
    · exact sorted_cons.2 ⟨above_drop hs.1, ih hs.2⟩

theorem lean_put {m : Store α} {a : Nat} {v d : α} (hv : v ≠ d) (h : Store.lean m d = true) : Store.lean (m.put a v) d = true := by
  induction m with
  | nil => simpa [Store.put, Store.lean] using hv
  | cons x r ih =>
    obtain ⟨k, w⟩ := x
    simp only [Store.lean, List.all_cons, Bool.and_eq_true] at h ih
    simp only [Store.put]
    split
    · simp only [Store.lean, List.all_cons, Bool.and_eq_true]; exact ⟨by simpa using hv, h⟩
    · split
      · simp only [Store.lean, List.all_cons, Bool.and_eq_true]; exact ⟨by simpa using hv, h.2⟩
      · simp only [Store.lean, List.all_cons, Bool.and_eq_true]; exact ⟨h.1, ih h.2⟩

theorem lean_drop {m : Store α} {a : Nat} {d : α} (h : Store.lean m d = true) : Store.lean (m.drop a) d = true := by
  induction m with
  | nil => rfl
  | cons x r ih =>
    obtain ⟨k, w⟩ := x
    simp only [Store.lean, List.all_cons, Bool.and_eq_true] at h ih
    simp only [Store.drop]
    split
    · exact ih h.2
    · simp only [Store.lean, List.all_cons, Bool.and_eq_true]; exact ⟨h.1, ih h.2⟩

/-- A write keeps the canonical form of a map. -/
theorem wf_set {m : Store α} {d : α} (a : Nat) (v : α) (h : Store.wf m d = true) : Store.wf (m.set a v d) d = true := by
  simp only [Store.wf, Bool.and_eq_true] at h ⊢
  unfold Store.set
  split
  · exact ⟨sorted_drop a h.1, lean_drop h.2⟩
  · rename_i hv; exact ⟨sorted_put a v h.1, lean_put hv h.2⟩

/-- A write of memory keeps its canonical form. -/
theorem wf_writeBytes {m : Store Byte} (a n v : Nat) (h : Memory.wf m = true) : Memory.wf (writeBytes m a n v) = true := by
  induction n generalizing m a v with
  | zero => exact h
  | succ n ih => exact ih _ _ (wf_set a _ h)

/-! ### Reading and writing bytes -/

/-- A write leaves every byte outside it alone. -/
theorem get_writeBytes_other {m : Store Byte} {a n v b : Nat} (h : b < a ∨ a + n ≤ b) : (writeBytes m a n v).get b 0 = m.get b 0 := by
  induction n generalizing m a v with
  | zero => rfl
  | succ n ih =>
    rw [writeBytes, ih (by omega), get_set_other _ _ _ (by omega)]

/-- Byte `i` of a write reads as byte `i` of the value. -/
theorem get_writeBytes {m : Store Byte} {a n v i : Nat} (h : i < n) :
    (writeBytes m a n v).get (a + i) 0 = BitVec.ofNat 8 (v / 256 ^ i) := by
  induction n generalizing m a v i with
  | zero => omega
  | succ n ih =>
    rw [writeBytes]
    cases i with
    | zero => rw [get_writeBytes_other (by omega)]; simp
    | succ i =>
      rw [show a + (i + 1) = a + 1 + i by omega, ih (by omega), Nat.div_div_eq_div_mul, Nat.pow_succ, Nat.mul_comm]

/-- What was read depends on the bytes read alone. -/
theorem readBytes_congr {m m' : Store Byte} {a n : Nat} (h : ∀ i, i < n → m.get (a + i) 0 = m'.get (a + i) 0) :
    readBytes m a n = readBytes m' a n := by
  induction n generalizing a with
  | zero => rfl
  | succ n ih =>
    have h0 := h 0 (by omega)
    simp only [Nat.add_zero] at h0
    rw [readBytes, readBytes, h0, ih]
    intro i hi
    have := h (i + 1) (by omega)
    rwa [show a + (i + 1) = a + 1 + i by omega] at this

/-- Reading elsewhere gives what it gave before the write. -/
theorem read_write_other {m : Store Byte} {a n v b k : Nat} (h : b + k ≤ a ∨ a + n ≤ b) :
    readBytes (writeBytes m a n v) b k = readBytes m b k :=
  readBytes_congr fun i hi => get_writeBytes_other (by omega)

/-- Reading after writing gives the value written. -/
theorem read_write_same {m : Store Byte} {a n v : Nat} : readBytes (writeBytes m a n v) a n = v % 256 ^ n := by
  induction n generalizing m a v with
  | zero => simp [readBytes, Nat.mod_one]
  | succ n ih =>
    rw [readBytes, writeBytes, get_writeBytes_other (by omega), get_set_same, ih]
    rw [BitVec.toNat_ofNat, show 256 ^ (n + 1) = 256 * 256 ^ n by rw [Nat.pow_succ, Nat.mul_comm], Nat.mod_mul]

end Sys2Proof.Laws
end

