-- ==== Sys2Proof/Laws/State.lean ====
section
/-! SUPPORT. What each update of the state leaves alone and what it makes of the parts it changes: one lemma for each field and
each update, so that no later proof unfolds a record. -/

namespace Sys2Proof.Laws

open Sys2Proof Sys2Proof.Machine

set_option Elab.async false


/-! ### `State.setCtxAt` -/

@[simp] theorem cores_setCtxAt (s : State) k x : (s.setCtxAt k x).cores = s.cores := rfl
@[simp] theorem dies_setCtxAt (s : State) k x : (s.setCtxAt k x).dies = s.dies := rfl
@[simp] theorem pkg_setCtxAt (s : State) k x : (s.setCtxAt k x).pkg = s.pkg := rfl
@[simp] theorem mem_setCtxAt (s : State) k x : (s.setCtxAt k x).mem = s.mem := rfl
@[simp] theorem cur_setCtxAt (s : State) k x : (s.setCtxAt k x).cur = s.cur := rfl
@[simp] theorem ir_setCtxAt (s : State) k x : (s.setCtxAt k x).ir = s.ir := rfl
@[simp] theorem turn_setCtxAt (s : State) k x : (s.setCtxAt k x).turn = s.turn := rfl
@[simp] theorem phase_setCtxAt (s : State) k x : (s.setCtxAt k x).phase = s.phase := rfl
@[simp] theorem passed_setCtxAt (s : State) k x : (s.setCtxAt k x).passed = s.passed := rfl
@[simp] theorem resume_setCtxAt (s : State) k x : (s.setCtxAt k x).resume = s.resume := rfl
@[simp] theorem before_setCtxAt (s : State) k x : (s.setCtxAt k x).before = s.before := rfl
@[simp] theorem agenda_setCtxAt (s : State) k x : (s.setCtxAt k x).agenda = s.agenda := rfl
@[simp] theorem free_setCtxAt (s : State) k x : (s.setCtxAt k x).free = s.free := rfl
@[simp] theorem nextTid_setCtxAt (s : State) k x : (s.setCtxAt k x).nextTid = s.nextTid := rfl

/-! ### `State.setMe` -/

@[simp] theorem cores_setMe (s : State) x : (s.setMe x).cores = s.cores := rfl
@[simp] theorem dies_setMe (s : State) x : (s.setMe x).dies = s.dies := rfl
@[simp] theorem pkg_setMe (s : State) x : (s.setMe x).pkg = s.pkg := rfl
@[simp] theorem mem_setMe (s : State) x : (s.setMe x).mem = s.mem := rfl
@[simp] theorem cur_setMe (s : State) x : (s.setMe x).cur = s.cur := rfl
@[simp] theorem ir_setMe (s : State) x : (s.setMe x).ir = s.ir := rfl
@[simp] theorem turn_setMe (s : State) x : (s.setMe x).turn = s.turn := rfl
@[simp] theorem phase_setMe (s : State) x : (s.setMe x).phase = s.phase := rfl
@[simp] theorem passed_setMe (s : State) x : (s.setMe x).passed = s.passed := rfl
@[simp] theorem resume_setMe (s : State) x : (s.setMe x).resume = s.resume := rfl
@[simp] theorem before_setMe (s : State) x : (s.setMe x).before = s.before := rfl
@[simp] theorem agenda_setMe (s : State) x : (s.setMe x).agenda = s.agenda := rfl
@[simp] theorem free_setMe (s : State) x : (s.setMe x).free = s.free := rfl
@[simp] theorem nextTid_setMe (s : State) x : (s.setMe x).nextTid = s.nextTid := rfl

/-! ### `State.setTask` -/

@[simp] theorem cores_setTask (s : State) t : (s.setTask t).cores = s.cores := rfl
@[simp] theorem dies_setTask (s : State) t : (s.setTask t).dies = s.dies := rfl
@[simp] theorem pkg_setTask (s : State) t : (s.setTask t).pkg = s.pkg := rfl
@[simp] theorem mem_setTask (s : State) t : (s.setTask t).mem = s.mem := rfl
@[simp] theorem cur_setTask (s : State) t : (s.setTask t).cur = s.cur := rfl
@[simp] theorem ir_setTask (s : State) t : (s.setTask t).ir = s.ir := rfl
@[simp] theorem turn_setTask (s : State) t : (s.setTask t).turn = s.turn := rfl
@[simp] theorem phase_setTask (s : State) t : (s.setTask t).phase = s.phase := rfl
@[simp] theorem passed_setTask (s : State) t : (s.setTask t).passed = s.passed := rfl
@[simp] theorem resume_setTask (s : State) t : (s.setTask t).resume = s.resume := rfl
@[simp] theorem before_setTask (s : State) t : (s.setTask t).before = s.before := rfl
@[simp] theorem agenda_setTask (s : State) t : (s.setTask t).agenda = s.agenda := rfl
@[simp] theorem free_setTask (s : State) t : (s.setTask t).free = s.free := rfl
@[simp] theorem nextTid_setTask (s : State) t : (s.setTask t).nextTid = s.nextTid := rfl

/-! ### `State.setTaskAt` -/

@[simp] theorem cores_setTaskAt (s : State) k t : (s.setTaskAt k t).cores = s.cores := rfl
@[simp] theorem dies_setTaskAt (s : State) k t : (s.setTaskAt k t).dies = s.dies := rfl
@[simp] theorem pkg_setTaskAt (s : State) k t : (s.setTaskAt k t).pkg = s.pkg := rfl
@[simp] theorem mem_setTaskAt (s : State) k t : (s.setTaskAt k t).mem = s.mem := rfl
@[simp] theorem cur_setTaskAt (s : State) k t : (s.setTaskAt k t).cur = s.cur := rfl
@[simp] theorem ir_setTaskAt (s : State) k t : (s.setTaskAt k t).ir = s.ir := rfl
@[simp] theorem turn_setTaskAt (s : State) k t : (s.setTaskAt k t).turn = s.turn := rfl
@[simp] theorem phase_setTaskAt (s : State) k t : (s.setTaskAt k t).phase = s.phase := rfl
@[simp] theorem passed_setTaskAt (s : State) k t : (s.setTaskAt k t).passed = s.passed := rfl
@[simp] theorem resume_setTaskAt (s : State) k t : (s.setTaskAt k t).resume = s.resume := rfl
@[simp] theorem before_setTaskAt (s : State) k t : (s.setTaskAt k t).before = s.before := rfl
@[simp] theorem agenda_setTaskAt (s : State) k t : (s.setTaskAt k t).agenda = s.agenda := rfl
@[simp] theorem free_setTaskAt (s : State) k t : (s.setTaskAt k t).free = s.free := rfl
@[simp] theorem nextTid_setTaskAt (s : State) k t : (s.setTaskAt k t).nextTid = s.nextTid := rfl

/-! ### `State.setCoreAt` -/

@[simp] theorem ctxs_setCoreAt (s : State) c x : (s.setCoreAt c x).ctxs = s.ctxs := rfl
@[simp] theorem dies_setCoreAt (s : State) c x : (s.setCoreAt c x).dies = s.dies := rfl
@[simp] theorem pkg_setCoreAt (s : State) c x : (s.setCoreAt c x).pkg = s.pkg := rfl
@[simp] theorem mem_setCoreAt (s : State) c x : (s.setCoreAt c x).mem = s.mem := rfl
@[simp] theorem cur_setCoreAt (s : State) c x : (s.setCoreAt c x).cur = s.cur := rfl
@[simp] theorem ir_setCoreAt (s : State) c x : (s.setCoreAt c x).ir = s.ir := rfl
@[simp] theorem turn_setCoreAt (s : State) c x : (s.setCoreAt c x).turn = s.turn := rfl
@[simp] theorem phase_setCoreAt (s : State) c x : (s.setCoreAt c x).phase = s.phase := rfl
@[simp] theorem passed_setCoreAt (s : State) c x : (s.setCoreAt c x).passed = s.passed := rfl
@[simp] theorem resume_setCoreAt (s : State) c x : (s.setCoreAt c x).resume = s.resume := rfl
@[simp] theorem before_setCoreAt (s : State) c x : (s.setCoreAt c x).before = s.before := rfl
@[simp] theorem agenda_setCoreAt (s : State) c x : (s.setCoreAt c x).agenda = s.agenda := rfl
@[simp] theorem free_setCoreAt (s : State) c x : (s.setCoreAt c x).free = s.free := rfl
@[simp] theorem nextTid_setCoreAt (s : State) c x : (s.setCoreAt c x).nextTid = s.nextTid := rfl

/-! ### `State.setDieAt` -/

@[simp] theorem ctxs_setDieAt (s : State) d x : (s.setDieAt d x).ctxs = s.ctxs := rfl
@[simp] theorem cores_setDieAt (s : State) d x : (s.setDieAt d x).cores = s.cores := rfl
@[simp] theorem pkg_setDieAt (s : State) d x : (s.setDieAt d x).pkg = s.pkg := rfl
@[simp] theorem mem_setDieAt (s : State) d x : (s.setDieAt d x).mem = s.mem := rfl
@[simp] theorem cur_setDieAt (s : State) d x : (s.setDieAt d x).cur = s.cur := rfl
@[simp] theorem ir_setDieAt (s : State) d x : (s.setDieAt d x).ir = s.ir := rfl
@[simp] theorem turn_setDieAt (s : State) d x : (s.setDieAt d x).turn = s.turn := rfl
@[simp] theorem phase_setDieAt (s : State) d x : (s.setDieAt d x).phase = s.phase := rfl
@[simp] theorem passed_setDieAt (s : State) d x : (s.setDieAt d x).passed = s.passed := rfl
@[simp] theorem resume_setDieAt (s : State) d x : (s.setDieAt d x).resume = s.resume := rfl
@[simp] theorem before_setDieAt (s : State) d x : (s.setDieAt d x).before = s.before := rfl
@[simp] theorem agenda_setDieAt (s : State) d x : (s.setDieAt d x).agenda = s.agenda := rfl
@[simp] theorem free_setDieAt (s : State) d x : (s.setDieAt d x).free = s.free := rfl
@[simp] theorem nextTid_setDieAt (s : State) d x : (s.setDieAt d x).nextTid = s.nextTid := rfl

/-! ### `State.setPkg` -/

@[simp] theorem ctxs_setPkg (s : State) x : (s.setPkg x).ctxs = s.ctxs := rfl
@[simp] theorem cores_setPkg (s : State) x : (s.setPkg x).cores = s.cores := rfl
@[simp] theorem dies_setPkg (s : State) x : (s.setPkg x).dies = s.dies := rfl
@[simp] theorem mem_setPkg (s : State) x : (s.setPkg x).mem = s.mem := rfl
@[simp] theorem cur_setPkg (s : State) x : (s.setPkg x).cur = s.cur := rfl
@[simp] theorem ir_setPkg (s : State) x : (s.setPkg x).ir = s.ir := rfl
@[simp] theorem turn_setPkg (s : State) x : (s.setPkg x).turn = s.turn := rfl
@[simp] theorem phase_setPkg (s : State) x : (s.setPkg x).phase = s.phase := rfl
@[simp] theorem passed_setPkg (s : State) x : (s.setPkg x).passed = s.passed := rfl
@[simp] theorem resume_setPkg (s : State) x : (s.setPkg x).resume = s.resume := rfl
@[simp] theorem before_setPkg (s : State) x : (s.setPkg x).before = s.before := rfl
@[simp] theorem agenda_setPkg (s : State) x : (s.setPkg x).agenda = s.agenda := rfl
@[simp] theorem free_setPkg (s : State) x : (s.setPkg x).free = s.free := rfl
@[simp] theorem nextTid_setPkg (s : State) x : (s.setPkg x).nextTid = s.nextTid := rfl

/-! ### `State.push` -/

@[simp] theorem ctxs_push (s : State) e : (s.push e).ctxs = s.ctxs := rfl
@[simp] theorem cores_push (s : State) e : (s.push e).cores = s.cores := rfl
@[simp] theorem dies_push (s : State) e : (s.push e).dies = s.dies := rfl
@[simp] theorem pkg_push (s : State) e : (s.push e).pkg = s.pkg := rfl
@[simp] theorem mem_push (s : State) e : (s.push e).mem = s.mem := rfl
@[simp] theorem cur_push (s : State) e : (s.push e).cur = s.cur := rfl
@[simp] theorem ir_push (s : State) e : (s.push e).ir = s.ir := rfl
@[simp] theorem turn_push (s : State) e : (s.push e).turn = s.turn := rfl
@[simp] theorem phase_push (s : State) e : (s.push e).phase = s.phase := rfl
@[simp] theorem passed_push (s : State) e : (s.push e).passed = s.passed := rfl
@[simp] theorem resume_push (s : State) e : (s.push e).resume = s.resume := rfl
@[simp] theorem before_push (s : State) e : (s.push e).before = s.before := rfl
@[simp] theorem free_push (s : State) e : (s.push e).free = s.free := rfl
@[simp] theorem nextTid_push (s : State) e : (s.push e).nextTid = s.nextTid := rfl

/-! ### `State.pushFront` -/

@[simp] theorem ctxs_pushFront (s : State) e : (s.pushFront e).ctxs = s.ctxs := rfl
@[simp] theorem cores_pushFront (s : State) e : (s.pushFront e).cores = s.cores := rfl
@[simp] theorem dies_pushFront (s : State) e : (s.pushFront e).dies = s.dies := rfl
@[simp] theorem pkg_pushFront (s : State) e : (s.pushFront e).pkg = s.pkg := rfl
@[simp] theorem mem_pushFront (s : State) e : (s.pushFront e).mem = s.mem := rfl
@[simp] theorem cur_pushFront (s : State) e : (s.pushFront e).cur = s.cur := rfl
@[simp] theorem ir_pushFront (s : State) e : (s.pushFront e).ir = s.ir := rfl
@[simp] theorem turn_pushFront (s : State) e : (s.pushFront e).turn = s.turn := rfl
@[simp] theorem phase_pushFront (s : State) e : (s.pushFront e).phase = s.phase := rfl
@[simp] theorem passed_pushFront (s : State) e : (s.pushFront e).passed = s.passed := rfl
@[simp] theorem resume_pushFront (s : State) e : (s.pushFront e).resume = s.resume := rfl
@[simp] theorem before_pushFront (s : State) e : (s.pushFront e).before = s.before := rfl
@[simp] theorem free_pushFront (s : State) e : (s.pushFront e).free = s.free := rfl
@[simp] theorem nextTid_pushFront (s : State) e : (s.pushFront e).nextTid = s.nextTid := rfl

/-! ### `State.setG` -/

@[simp] theorem cores_setG (s : State) r v : (s.setG r v).cores = s.cores := rfl
@[simp] theorem dies_setG (s : State) r v : (s.setG r v).dies = s.dies := rfl
@[simp] theorem pkg_setG (s : State) r v : (s.setG r v).pkg = s.pkg := rfl
@[simp] theorem mem_setG (s : State) r v : (s.setG r v).mem = s.mem := rfl
@[simp] theorem cur_setG (s : State) r v : (s.setG r v).cur = s.cur := rfl
@[simp] theorem ir_setG (s : State) r v : (s.setG r v).ir = s.ir := rfl
@[simp] theorem turn_setG (s : State) r v : (s.setG r v).turn = s.turn := rfl
@[simp] theorem phase_setG (s : State) r v : (s.setG r v).phase = s.phase := rfl
@[simp] theorem passed_setG (s : State) r v : (s.setG r v).passed = s.passed := rfl
@[simp] theorem resume_setG (s : State) r v : (s.setG r v).resume = s.resume := rfl
@[simp] theorem before_setG (s : State) r v : (s.setG r v).before = s.before := rfl
@[simp] theorem agenda_setG (s : State) r v : (s.setG r v).agenda = s.agenda := rfl
@[simp] theorem free_setG (s : State) r v : (s.setG r v).free = s.free := rfl
@[simp] theorem nextTid_setG (s : State) r v : (s.setG r v).nextTid = s.nextTid := rfl

/-! ### `State.setV` -/

@[simp] theorem cores_setV (s : State) r v : (s.setV r v).cores = s.cores := rfl
@[simp] theorem dies_setV (s : State) r v : (s.setV r v).dies = s.dies := rfl
@[simp] theorem pkg_setV (s : State) r v : (s.setV r v).pkg = s.pkg := rfl
@[simp] theorem mem_setV (s : State) r v : (s.setV r v).mem = s.mem := rfl
@[simp] theorem cur_setV (s : State) r v : (s.setV r v).cur = s.cur := rfl
@[simp] theorem ir_setV (s : State) r v : (s.setV r v).ir = s.ir := rfl
@[simp] theorem turn_setV (s : State) r v : (s.setV r v).turn = s.turn := rfl
@[simp] theorem phase_setV (s : State) r v : (s.setV r v).phase = s.phase := rfl
@[simp] theorem passed_setV (s : State) r v : (s.setV r v).passed = s.passed := rfl
@[simp] theorem resume_setV (s : State) r v : (s.setV r v).resume = s.resume := rfl
@[simp] theorem before_setV (s : State) r v : (s.setV r v).before = s.before := rfl
@[simp] theorem agenda_setV (s : State) r v : (s.setV r v).agenda = s.agenda := rfl
@[simp] theorem free_setV (s : State) r v : (s.setV r v).free = s.free := rfl
@[simp] theorem nextTid_setV (s : State) r v : (s.setV r v).nextTid = s.nextTid := rfl

/-! ### `State.advance` -/

@[simp] theorem cores_advance (s : State) n : (s.advance n).cores = s.cores := rfl
@[simp] theorem dies_advance (s : State) n : (s.advance n).dies = s.dies := rfl
@[simp] theorem pkg_advance (s : State) n : (s.advance n).pkg = s.pkg := rfl
@[simp] theorem mem_advance (s : State) n : (s.advance n).mem = s.mem := rfl
@[simp] theorem cur_advance (s : State) n : (s.advance n).cur = s.cur := rfl
@[simp] theorem ir_advance (s : State) n : (s.advance n).ir = s.ir := rfl
@[simp] theorem turn_advance (s : State) n : (s.advance n).turn = s.turn := rfl
@[simp] theorem phase_advance (s : State) n : (s.advance n).phase = s.phase := rfl
@[simp] theorem passed_advance (s : State) n : (s.advance n).passed = s.passed := rfl
@[simp] theorem resume_advance (s : State) n : (s.advance n).resume = s.resume := rfl
@[simp] theorem before_advance (s : State) n : (s.advance n).before = s.before := rfl
@[simp] theorem agenda_advance (s : State) n : (s.advance n).agenda = s.agenda := rfl
@[simp] theorem free_advance (s : State) n : (s.advance n).free = s.free := rfl
@[simp] theorem nextTid_advance (s : State) n : (s.advance n).nextTid = s.nextTid := rfl

/-! ### `State.mergeFlags` -/

@[simp] theorem cores_mergeFlags (s : State) f : (s.mergeFlags f).cores = s.cores := rfl
@[simp] theorem dies_mergeFlags (s : State) f : (s.mergeFlags f).dies = s.dies := rfl
@[simp] theorem pkg_mergeFlags (s : State) f : (s.mergeFlags f).pkg = s.pkg := rfl
@[simp] theorem mem_mergeFlags (s : State) f : (s.mergeFlags f).mem = s.mem := rfl
@[simp] theorem cur_mergeFlags (s : State) f : (s.mergeFlags f).cur = s.cur := rfl
@[simp] theorem ir_mergeFlags (s : State) f : (s.mergeFlags f).ir = s.ir := rfl
@[simp] theorem turn_mergeFlags (s : State) f : (s.mergeFlags f).turn = s.turn := rfl
@[simp] theorem phase_mergeFlags (s : State) f : (s.mergeFlags f).phase = s.phase := rfl
@[simp] theorem passed_mergeFlags (s : State) f : (s.mergeFlags f).passed = s.passed := rfl
@[simp] theorem resume_mergeFlags (s : State) f : (s.mergeFlags f).resume = s.resume := rfl
@[simp] theorem before_mergeFlags (s : State) f : (s.mergeFlags f).before = s.before := rfl
@[simp] theorem agenda_mergeFlags (s : State) f : (s.mergeFlags f).agenda = s.agenda := rfl
@[simp] theorem free_mergeFlags (s : State) f : (s.mergeFlags f).free = s.free := rfl
@[simp] theorem nextTid_mergeFlags (s : State) f : (s.mergeFlags f).nextTid = s.nextTid := rfl

/-! ### `State.bump` -/

@[simp] theorem ctxs_bump (s : State) c e n : (s.bump c e n).ctxs = s.ctxs := rfl
@[simp] theorem dies_bump (s : State) c e n : (s.bump c e n).dies = s.dies := rfl
@[simp] theorem pkg_bump (s : State) c e n : (s.bump c e n).pkg = s.pkg := rfl
@[simp] theorem mem_bump (s : State) c e n : (s.bump c e n).mem = s.mem := rfl
@[simp] theorem cur_bump (s : State) c e n : (s.bump c e n).cur = s.cur := rfl
@[simp] theorem ir_bump (s : State) c e n : (s.bump c e n).ir = s.ir := rfl
@[simp] theorem turn_bump (s : State) c e n : (s.bump c e n).turn = s.turn := rfl
@[simp] theorem phase_bump (s : State) c e n : (s.bump c e n).phase = s.phase := rfl
@[simp] theorem passed_bump (s : State) c e n : (s.bump c e n).passed = s.passed := rfl
@[simp] theorem resume_bump (s : State) c e n : (s.bump c e n).resume = s.resume := rfl
@[simp] theorem before_bump (s : State) c e n : (s.bump c e n).before = s.before := rfl
@[simp] theorem agenda_bump (s : State) c e n : (s.bump c e n).agenda = s.agenda := rfl
@[simp] theorem free_bump (s : State) c e n : (s.bump c e n).free = s.free := rfl
@[simp] theorem nextTid_bump (s : State) c e n : (s.bump c e n).nextTid = s.nextTid := rfl

/-! ### `State.wakeMe` -/

@[simp] theorem cores_wakeMe (s : State) : (s.wakeMe).cores = s.cores := rfl
@[simp] theorem dies_wakeMe (s : State) : (s.wakeMe).dies = s.dies := rfl
@[simp] theorem pkg_wakeMe (s : State) : (s.wakeMe).pkg = s.pkg := rfl
@[simp] theorem mem_wakeMe (s : State) : (s.wakeMe).mem = s.mem := rfl
@[simp] theorem cur_wakeMe (s : State) : (s.wakeMe).cur = s.cur := rfl
@[simp] theorem ir_wakeMe (s : State) : (s.wakeMe).ir = s.ir := rfl
@[simp] theorem turn_wakeMe (s : State) : (s.wakeMe).turn = s.turn := rfl
@[simp] theorem phase_wakeMe (s : State) : (s.wakeMe).phase = s.phase := rfl
@[simp] theorem passed_wakeMe (s : State) : (s.wakeMe).passed = s.passed := rfl
@[simp] theorem resume_wakeMe (s : State) : (s.wakeMe).resume = s.resume := rfl
@[simp] theorem before_wakeMe (s : State) : (s.wakeMe).before = s.before := rfl
@[simp] theorem agenda_wakeMe (s : State) : (s.wakeMe).agenda = s.agenda := rfl
@[simp] theorem free_wakeMe (s : State) : (s.wakeMe).free = s.free := rfl
@[simp] theorem nextTid_wakeMe (s : State) : (s.wakeMe).nextTid = s.nextTid := rfl

/-! ### `State.refull` -/

@[simp] theorem cores_refull (s : State) : (s.refull).cores = s.cores := rfl
@[simp] theorem dies_refull (s : State) : (s.refull).dies = s.dies := rfl
@[simp] theorem pkg_refull (s : State) : (s.refull).pkg = s.pkg := rfl
@[simp] theorem mem_refull (s : State) : (s.refull).mem = s.mem := rfl
@[simp] theorem cur_refull (s : State) : (s.refull).cur = s.cur := rfl
@[simp] theorem ir_refull (s : State) : (s.refull).ir = s.ir := rfl
@[simp] theorem turn_refull (s : State) : (s.refull).turn = s.turn := rfl
@[simp] theorem phase_refull (s : State) : (s.refull).phase = s.phase := rfl
@[simp] theorem passed_refull (s : State) : (s.refull).passed = s.passed := rfl
@[simp] theorem resume_refull (s : State) : (s.refull).resume = s.resume := rfl
@[simp] theorem before_refull (s : State) : (s.refull).before = s.before := rfl
@[simp] theorem agenda_refull (s : State) : (s.refull).agenda = s.agenda := rfl
@[simp] theorem free_refull (s : State) : (s.refull).free = s.free := rfl
@[simp] theorem nextTid_refull (s : State) : (s.refull).nextTid = s.nextTid := rfl

/-! ### `State.pushOnce`, `State.empty` and `State.pick` -/

@[simp] theorem ctxs_pushOnce (s : State) e : (s.pushOnce e).ctxs = s.ctxs := by unfold State.pushOnce; split <;> rfl
@[simp] theorem cores_pushOnce (s : State) e : (s.pushOnce e).cores = s.cores := by unfold State.pushOnce; split <;> rfl
@[simp] theorem dies_pushOnce (s : State) e : (s.pushOnce e).dies = s.dies := by unfold State.pushOnce; split <;> rfl
@[simp] theorem pkg_pushOnce (s : State) e : (s.pushOnce e).pkg = s.pkg := by unfold State.pushOnce; split <;> rfl
@[simp] theorem mem_pushOnce (s : State) e : (s.pushOnce e).mem = s.mem := by unfold State.pushOnce; split <;> rfl
@[simp] theorem cur_pushOnce (s : State) e : (s.pushOnce e).cur = s.cur := by unfold State.pushOnce; split <;> rfl
@[simp] theorem ir_pushOnce (s : State) e : (s.pushOnce e).ir = s.ir := by unfold State.pushOnce; split <;> rfl
@[simp] theorem turn_pushOnce (s : State) e : (s.pushOnce e).turn = s.turn := by unfold State.pushOnce; split <;> rfl
@[simp] theorem phase_pushOnce (s : State) e : (s.pushOnce e).phase = s.phase := by unfold State.pushOnce; split <;> rfl
@[simp] theorem passed_pushOnce (s : State) e : (s.pushOnce e).passed = s.passed := by unfold State.pushOnce; split <;> rfl
@[simp] theorem resume_pushOnce (s : State) e : (s.pushOnce e).resume = s.resume := by unfold State.pushOnce; split <;> rfl
@[simp] theorem before_pushOnce (s : State) e : (s.pushOnce e).before = s.before := by unfold State.pushOnce; split <;> rfl
@[simp] theorem free_pushOnce (s : State) e : (s.pushOnce e).free = s.free := by unfold State.pushOnce; split <;> rfl
@[simp] theorem nextTid_pushOnce (s : State) e : (s.pushOnce e).nextTid = s.nextTid := by unfold State.pushOnce; split <;> rfl
@[simp] theorem cores_empty (s : State) l : (s.empty l).cores = s.cores := by unfold State.empty; split <;> rfl
@[simp] theorem dies_empty (s : State) l : (s.empty l).dies = s.dies := by unfold State.empty; split <;> rfl
@[simp] theorem pkg_empty (s : State) l : (s.empty l).pkg = s.pkg := by unfold State.empty; split <;> rfl
@[simp] theorem mem_empty (s : State) l : (s.empty l).mem = s.mem := by unfold State.empty; split <;> rfl
@[simp] theorem cur_empty (s : State) l : (s.empty l).cur = s.cur := by unfold State.empty; split <;> rfl
@[simp] theorem ir_empty (s : State) l : (s.empty l).ir = s.ir := by unfold State.empty; split <;> rfl
@[simp] theorem turn_empty (s : State) l : (s.empty l).turn = s.turn := by unfold State.empty; split <;> rfl
@[simp] theorem phase_empty (s : State) l : (s.empty l).phase = s.phase := by unfold State.empty; split <;> rfl
@[simp] theorem passed_empty (s : State) l : (s.empty l).passed = s.passed := by unfold State.empty; split <;> rfl
@[simp] theorem resume_empty (s : State) l : (s.empty l).resume = s.resume := by unfold State.empty; split <;> rfl
@[simp] theorem before_empty (s : State) l : (s.empty l).before = s.before := by unfold State.empty; split <;> rfl
@[simp] theorem agenda_empty (s : State) l : (s.empty l).agenda = s.agenda := by unfold State.empty; split <;> rfl
@[simp] theorem free_empty (s : State) l : (s.empty l).free = s.free := by unfold State.empty; split <;> rfl
@[simp] theorem nextTid_empty (s : State) l : (s.empty l).nextTid = s.nextTid := by unfold State.empty; split <;> rfl
@[simp] theorem ctxs_pick (s : State) n : (s.pick n).2.ctxs = s.ctxs := rfl
@[simp] theorem cores_pick (s : State) n : (s.pick n).2.cores = s.cores := rfl
@[simp] theorem dies_pick (s : State) n : (s.pick n).2.dies = s.dies := rfl
@[simp] theorem pkg_pick (s : State) n : (s.pick n).2.pkg = s.pkg := rfl
@[simp] theorem mem_pick (s : State) n : (s.pick n).2.mem = s.mem := rfl
@[simp] theorem cur_pick (s : State) n : (s.pick n).2.cur = s.cur := rfl
@[simp] theorem ir_pick (s : State) n : (s.pick n).2.ir = s.ir := rfl
@[simp] theorem turn_pick (s : State) n : (s.pick n).2.turn = s.turn := rfl
@[simp] theorem phase_pick (s : State) n : (s.pick n).2.phase = s.phase := rfl
@[simp] theorem passed_pick (s : State) n : (s.pick n).2.passed = s.passed := rfl
@[simp] theorem resume_pick (s : State) n : (s.pick n).2.resume = s.resume := rfl
@[simp] theorem before_pick (s : State) n : (s.pick n).2.before = s.before := rfl
@[simp] theorem agenda_pick (s : State) n : (s.pick n).2.agenda = s.agenda := rfl
@[simp] theorem nextTid_pick (s : State) n : (s.pick n).2.nextTid = s.nextTid := rfl

/-! ### `Task.setG`, `Task.setV` and `Task.clearFull` -/

@[simp] theorem pc_taskSetG (t : Task) r v : (t.setG r v).pc = t.pc := by unfold Task.setG; split <;> rfl
@[simp] theorem s0_taskSetG (t : Task) r v : (t.setG r v).s0 = t.s0 := by unfold Task.setG; split <;> rfl
@[simp] theorem s1_taskSetG (t : Task) r v : (t.setG r v).s1 = t.s1 := by unfold Task.setG; split <;> rfl
@[simp] theorem s2_taskSetG (t : Task) r v : (t.setG r v).s2 = t.s2 := by unfold Task.setG; split <;> rfl
@[simp] theorem s3_taskSetG (t : Task) r v : (t.setG r v).s3 = t.s3 := by unfold Task.setG; split <;> rfl
@[simp] theorem mode_taskSetG (t : Task) r v : (t.setG r v).mode = t.mode := by unfold Task.setG; split <;> rfl
@[simp] theorem part_taskSetG (t : Task) r v : (t.setG r v).part = t.part := by unfold Task.setG; split <;> rfl
@[simp] theorem procid_taskSetG (t : Task) r v : (t.setG r v).procid = t.procid := by unfold Task.setG; split <;> rfl
@[simp] theorem annul_taskSetG (t : Task) r v : (t.setG r v).annul = t.annul := by unfold Task.setG; split <;> rfl
@[simp] theorem flags_taskSetG (t : Task) r v : (t.setG r v).flags = t.flags := by unfold Task.setG; split <;> rfl
@[simp] theorem skey_taskSetG (t : Task) r v : (t.setG r v).skey = t.skey := by unfold Task.setG; split <;> rfl
@[simp] theorem taskidx_taskSetG (t : Task) r v : (t.setG r v).taskidx = t.taskidx := by unfold Task.setG; split <;> rfl
@[simp] theorem storecnt_taskSetG (t : Task) r v : (t.setG r v).storecnt = t.storecnt := by unfold Task.setG; split <;> rfl
@[simp] theorem holder_taskSetG (t : Task) r v : (t.setG r v).holder = t.holder := by unfold Task.setG; split <;> rfl
@[simp] theorem image_taskSetG (t : Task) r v : (t.setG r v).image = t.image := by unfold Task.setG; split <;> rfl
@[simp] theorem liveg_taskSetG (t : Task) r v : (t.setG r v).liveg = t.liveg := by unfold Task.setG; split <;> rfl
@[simp] theorem livev_taskSetG (t : Task) r v : (t.setG r v).livev = t.livev := by unfold Task.setG; split <;> rfl
@[simp] theorem vtime_taskSetG (t : Task) r v : (t.setG r v).vtime = t.vtime := by unfold Task.setG; split <;> rfl
@[simp] theorem pend_taskSetG (t : Task) r v : (t.setG r v).pend = t.pend := by unfold Task.setG; split <;> rfl
@[simp] theorem v_taskSetG (t : Task) r v : (t.setG r v).v = t.v := by unfold Task.setG; split <;> rfl
@[simp] theorem epc_taskSetG (t : Task) r v : (t.setG r v).epc = t.epc := by unfold Task.setG; split <;> rfl
@[simp] theorem ecause_taskSetG (t : Task) r v : (t.setG r v).ecause = t.ecause := by unfold Task.setG; split <;> rfl
@[simp] theorem einfo_taskSetG (t : Task) r v : (t.setG r v).einfo = t.einfo := by unfold Task.setG; split <;> rfl
@[simp] theorem barph_taskSetG (t : Task) r v : (t.setG r v).barph = t.barph := by unfold Task.setG; split <;> rfl
@[simp] theorem lsave_taskSetG (t : Task) r v : (t.setG r v).lsave = t.lsave := by unfold Task.setG; split <;> rfl
@[simp] theorem lheldSlots_taskSetG (t : Task) r v : (t.setG r v).lheldSlots = t.lheldSlots := by unfold Task.setG; split <;> rfl
@[simp] theorem lheldAccs_taskSetG (t : Task) r v : (t.setG r v).lheldAccs = t.lheldAccs := by unfold Task.setG; split <;> rfl
@[simp] theorem lheldCore_taskSetG (t : Task) r v : (t.setG r v).lheldCore = t.lheldCore := by unfold Task.setG; split <;> rfl
@[simp] theorem lheldV_taskSetG (t : Task) r v : (t.setG r v).lheldV = t.lheldV := by unfold Task.setG; split <;> rfl
@[simp] theorem theld_taskSetG (t : Task) r v : (t.setG r v).theld = t.theld := by unfold Task.setG; split <;> rfl
@[simp] theorem progNext_taskSetG (t : Task) r v : (t.setG r v).progNext = t.progNext := by unfold Task.setG; split <;> rfl
@[simp] theorem progV_taskSetG (t : Task) r v : (t.setG r v).progV = t.progV := by unfold Task.setG; split <;> rfl
@[simp] theorem progPc_taskSetG (t : Task) r v : (t.setG r v).progPc = t.progPc := by unfold Task.setG; split <;> rfl
@[simp] theorem ring_taskSetG (t : Task) r v : (t.setG r v).ring = t.ring := by unfold Task.setG; split <;> rfl
@[simp] theorem saveBuf_taskSetG (t : Task) r v : (t.setG r v).saveBuf = t.saveBuf := by unfold Task.setG; split <;> rfl
@[simp] theorem msgOpen_taskSetG (t : Task) r v : (t.setG r v).msgOpen = t.msgOpen := by unfold Task.setG; split <;> rfl
@[simp] theorem rcore_taskSetG (t : Task) r v : (t.setG r v).rcore = t.rcore := by unfold Task.setG; split <;> rfl
@[simp] theorem rctx_taskSetG (t : Task) r v : (t.setG r v).rctx = t.rctx := by unfold Task.setG; split <;> rfl
@[simp] theorem sendq_taskSetG (t : Task) r v : (t.setG r v).sendq = t.sendq := by unfold Task.setG; split <;> rfl
@[simp] theorem sendOut_taskSetG (t : Task) r v : (t.setG r v).sendOut = t.sendOut := by unfold Task.setG; split <;> rfl
@[simp] theorem sendRefused_taskSetG (t : Task) r v : (t.setG r v).sendRefused = t.sendRefused := by unfold Task.setG; split <;> rfl
@[simp] theorem tlp_taskSetG (t : Task) r v : (t.setG r v).tlp = t.tlp := by unfold Task.setG; split <;> rfl
@[simp] theorem evaddr_taskSetG (t : Task) r v : (t.setG r v).evaddr = t.evaddr := by unfold Task.setG; split <;> rfl
@[simp] theorem inEvent_taskSetG (t : Task) r v : (t.setG r v).inEvent = t.inEvent := by unfold Task.setG; split <;> rfl
@[simp] theorem atTnext_taskSetG (t : Task) r v : (t.setG r v).atTnext = t.atTnext := by unfold Task.setG; split <;> rfl
@[simp] theorem group_taskSetG (t : Task) r v : (t.setG r v).group = t.group := by unfold Task.setG; split <;> rfl
@[simp] theorem launch_taskSetG (t : Task) r v : (t.setG r v).launch = t.launch := by unfold Task.setG; split <;> rfl
@[simp] theorem ls_taskSetG (t : Task) r v : (t.setG r v).ls = t.ls := by unfold Task.setG; split <;> rfl
@[simp] theorem node_taskSetG (t : Task) r v : (t.setG r v).node = t.node := by unfold Task.setG; split <;> rfl
@[simp] theorem bounded_taskSetG (t : Task) r v : (t.setG r v).bounded = t.bounded := by unfold Task.setG; split <;> rfl
@[simp] theorem waits_taskSetG (t : Task) r v : (t.setG r v).waits = t.waits := by unfold Task.setG; split <;> rfl
@[simp] theorem killed_taskSetG (t : Task) r v : (t.setG r v).killed = t.killed := by unfold Task.setG; split <;> rfl
@[simp] theorem started_taskSetG (t : Task) r v : (t.setG r v).started = t.started := by unfold Task.setG; split <;> rfl
@[simp] theorem tokHeld_taskSetG (t : Task) r v : (t.setG r v).tokHeld = t.tokHeld := by unfold Task.setG; split <;> rfl
@[simp] theorem tokReq_taskSetG (t : Task) r v : (t.setG r v).tokReq = t.tokReq := by unfold Task.setG; split <;> rfl
@[simp] theorem pins_taskSetG (t : Task) r v : (t.setG r v).pins = t.pins := by unfold Task.setG; split <;> rfl
@[simp] theorem subUnacked_taskSetG (t : Task) r v : (t.setG r v).subUnacked = t.subUnacked := by unfold Task.setG; split <;> rfl
@[simp] theorem tid_taskSetG (t : Task) r v : (t.setG r v).tid = t.tid := by unfold Task.setG; split <;> rfl
@[simp] theorem pendingError_taskSetG (t : Task) r v : (t.setG r v).pendingError = t.pendingError := by unfold Task.setG; split <;> rfl
@[simp] theorem absent_taskSetG (t : Task) r v : (t.setG r v).absent = t.absent := by unfold Task.setG; split <;> rfl
@[simp] theorem home_taskSetG (t : Task) r v : (t.setG r v).home = t.home := by unfold Task.setG; split <;> rfl
@[simp] theorem fwd_taskSetG (t : Task) r v : (t.setG r v).fwd = t.fwd := by unfold Task.setG; split <;> rfl
@[simp] theorem spillAt_taskSetG (t : Task) r v : (t.setG r v).spillAt = t.spillAt := by unfold Task.setG; split <;> rfl
@[simp] theorem pendingClass_taskSetG (t : Task) r v : (t.setG r v).pendingClass = t.pendingClass := by unfold Task.setG; split <;> rfl
@[simp] theorem badVecs_taskSetG (t : Task) r v : (t.setG r v).badVecs = t.badVecs := by unfold Task.setG; split <;> rfl
@[simp] theorem pc_taskSetV (t : Task) r v : (t.setV r v).pc = t.pc := rfl
@[simp] theorem s0_taskSetV (t : Task) r v : (t.setV r v).s0 = t.s0 := rfl
@[simp] theorem s1_taskSetV (t : Task) r v : (t.setV r v).s1 = t.s1 := rfl
@[simp] theorem s2_taskSetV (t : Task) r v : (t.setV r v).s2 = t.s2 := rfl
@[simp] theorem s3_taskSetV (t : Task) r v : (t.setV r v).s3 = t.s3 := rfl
@[simp] theorem mode_taskSetV (t : Task) r v : (t.setV r v).mode = t.mode := rfl
@[simp] theorem part_taskSetV (t : Task) r v : (t.setV r v).part = t.part := rfl
@[simp] theorem procid_taskSetV (t : Task) r v : (t.setV r v).procid = t.procid := rfl
@[simp] theorem annul_taskSetV (t : Task) r v : (t.setV r v).annul = t.annul := rfl
@[simp] theorem flags_taskSetV (t : Task) r v : (t.setV r v).flags = t.flags := rfl
@[simp] theorem skey_taskSetV (t : Task) r v : (t.setV r v).skey = t.skey := rfl
@[simp] theorem taskidx_taskSetV (t : Task) r v : (t.setV r v).taskidx = t.taskidx := rfl
@[simp] theorem storecnt_taskSetV (t : Task) r v : (t.setV r v).storecnt = t.storecnt := rfl
@[simp] theorem holder_taskSetV (t : Task) r v : (t.setV r v).holder = t.holder := rfl
@[simp] theorem image_taskSetV (t : Task) r v : (t.setV r v).image = t.image := rfl
@[simp] theorem liveg_taskSetV (t : Task) r v : (t.setV r v).liveg = t.liveg := rfl
@[simp] theorem livev_taskSetV (t : Task) r v : (t.setV r v).livev = t.livev := rfl
@[simp] theorem vtime_taskSetV (t : Task) r v : (t.setV r v).vtime = t.vtime := rfl
@[simp] theorem full_taskSetV (t : Task) r v : (t.setV r v).full = t.full := rfl
@[simp] theorem pend_taskSetV (t : Task) r v : (t.setV r v).pend = t.pend := rfl
@[simp] theorem oplog_taskSetV (t : Task) r v : (t.setV r v).oplog = t.oplog := rfl
@[simp] theorem logptr_taskSetV (t : Task) r v : (t.setV r v).logptr = t.logptr := rfl
@[simp] theorem g_taskSetV (t : Task) r v : (t.setV r v).g = t.g := rfl
@[simp] theorem epc_taskSetV (t : Task) r v : (t.setV r v).epc = t.epc := rfl
@[simp] theorem ecause_taskSetV (t : Task) r v : (t.setV r v).ecause = t.ecause := rfl
@[simp] theorem einfo_taskSetV (t : Task) r v : (t.setV r v).einfo = t.einfo := rfl
@[simp] theorem barph_taskSetV (t : Task) r v : (t.setV r v).barph = t.barph := rfl
@[simp] theorem lsave_taskSetV (t : Task) r v : (t.setV r v).lsave = t.lsave := rfl
@[simp] theorem lheldSlots_taskSetV (t : Task) r v : (t.setV r v).lheldSlots = t.lheldSlots := rfl
@[simp] theorem lheldAccs_taskSetV (t : Task) r v : (t.setV r v).lheldAccs = t.lheldAccs := rfl
@[simp] theorem lheldCore_taskSetV (t : Task) r v : (t.setV r v).lheldCore = t.lheldCore := rfl
@[simp] theorem lheldV_taskSetV (t : Task) r v : (t.setV r v).lheldV = t.lheldV := rfl
@[simp] theorem theld_taskSetV (t : Task) r v : (t.setV r v).theld = t.theld := rfl
@[simp] theorem progNext_taskSetV (t : Task) r v : (t.setV r v).progNext = t.progNext := rfl
@[simp] theorem progV_taskSetV (t : Task) r v : (t.setV r v).progV = t.progV := rfl
@[simp] theorem progPc_taskSetV (t : Task) r v : (t.setV r v).progPc = t.progPc := rfl
@[simp] theorem ring_taskSetV (t : Task) r v : (t.setV r v).ring = t.ring := rfl
@[simp] theorem saveBuf_taskSetV (t : Task) r v : (t.setV r v).saveBuf = t.saveBuf := rfl
@[simp] theorem msgOpen_taskSetV (t : Task) r v : (t.setV r v).msgOpen = t.msgOpen := rfl
@[simp] theorem rcore_taskSetV (t : Task) r v : (t.setV r v).rcore = t.rcore := rfl
@[simp] theorem rctx_taskSetV (t : Task) r v : (t.setV r v).rctx = t.rctx := rfl
@[simp] theorem sendq_taskSetV (t : Task) r v : (t.setV r v).sendq = t.sendq := rfl
@[simp] theorem sendOut_taskSetV (t : Task) r v : (t.setV r v).sendOut = t.sendOut := rfl
@[simp] theorem sendRefused_taskSetV (t : Task) r v : (t.setV r v).sendRefused = t.sendRefused := rfl
@[simp] theorem tlp_taskSetV (t : Task) r v : (t.setV r v).tlp = t.tlp := rfl
@[simp] theorem evaddr_taskSetV (t : Task) r v : (t.setV r v).evaddr = t.evaddr := rfl
@[simp] theorem inEvent_taskSetV (t : Task) r v : (t.setV r v).inEvent = t.inEvent := rfl
@[simp] theorem atTnext_taskSetV (t : Task) r v : (t.setV r v).atTnext = t.atTnext := rfl
@[simp] theorem group_taskSetV (t : Task) r v : (t.setV r v).group = t.group := rfl
@[simp] theorem launch_taskSetV (t : Task) r v : (t.setV r v).launch = t.launch := rfl
@[simp] theorem ls_taskSetV (t : Task) r v : (t.setV r v).ls = t.ls := rfl
@[simp] theorem node_taskSetV (t : Task) r v : (t.setV r v).node = t.node := rfl
@[simp] theorem bounded_taskSetV (t : Task) r v : (t.setV r v).bounded = t.bounded := rfl
@[simp] theorem waits_taskSetV (t : Task) r v : (t.setV r v).waits = t.waits := rfl
@[simp] theorem killed_taskSetV (t : Task) r v : (t.setV r v).killed = t.killed := rfl
@[simp] theorem started_taskSetV (t : Task) r v : (t.setV r v).started = t.started := rfl
@[simp] theorem tokHeld_taskSetV (t : Task) r v : (t.setV r v).tokHeld = t.tokHeld := rfl
@[simp] theorem tokReq_taskSetV (t : Task) r v : (t.setV r v).tokReq = t.tokReq := rfl
@[simp] theorem pins_taskSetV (t : Task) r v : (t.setV r v).pins = t.pins := rfl
@[simp] theorem subUnacked_taskSetV (t : Task) r v : (t.setV r v).subUnacked = t.subUnacked := rfl
@[simp] theorem tid_taskSetV (t : Task) r v : (t.setV r v).tid = t.tid := rfl
@[simp] theorem pendingError_taskSetV (t : Task) r v : (t.setV r v).pendingError = t.pendingError := rfl
@[simp] theorem absent_taskSetV (t : Task) r v : (t.setV r v).absent = t.absent := rfl
@[simp] theorem home_taskSetV (t : Task) r v : (t.setV r v).home = t.home := rfl
@[simp] theorem fwd_taskSetV (t : Task) r v : (t.setV r v).fwd = t.fwd := rfl
@[simp] theorem spillAt_taskSetV (t : Task) r v : (t.setV r v).spillAt = t.spillAt := rfl
@[simp] theorem pendingClass_taskSetV (t : Task) r v : (t.setV r v).pendingClass = t.pendingClass := rfl
@[simp] theorem badRegs_taskSetV (t : Task) r v : (t.setV r v).badRegs = t.badRegs := rfl
@[simp] theorem pc_clearFull (t : Task) l : (t.clearFull l).pc = t.pc := rfl
@[simp] theorem s0_clearFull (t : Task) l : (t.clearFull l).s0 = t.s0 := rfl
@[simp] theorem s1_clearFull (t : Task) l : (t.clearFull l).s1 = t.s1 := rfl
@[simp] theorem s2_clearFull (t : Task) l : (t.clearFull l).s2 = t.s2 := rfl
@[simp] theorem s3_clearFull (t : Task) l : (t.clearFull l).s3 = t.s3 := rfl
@[simp] theorem mode_clearFull (t : Task) l : (t.clearFull l).mode = t.mode := rfl
@[simp] theorem part_clearFull (t : Task) l : (t.clearFull l).part = t.part := rfl
@[simp] theorem procid_clearFull (t : Task) l : (t.clearFull l).procid = t.procid := rfl
@[simp] theorem annul_clearFull (t : Task) l : (t.clearFull l).annul = t.annul := rfl
@[simp] theorem flags_clearFull (t : Task) l : (t.clearFull l).flags = t.flags := rfl
@[simp] theorem skey_clearFull (t : Task) l : (t.clearFull l).skey = t.skey := rfl
@[simp] theorem taskidx_clearFull (t : Task) l : (t.clearFull l).taskidx = t.taskidx := rfl
@[simp] theorem storecnt_clearFull (t : Task) l : (t.clearFull l).storecnt = t.storecnt := rfl
@[simp] theorem holder_clearFull (t : Task) l : (t.clearFull l).holder = t.holder := rfl
@[simp] theorem image_clearFull (t : Task) l : (t.clearFull l).image = t.image := rfl
@[simp] theorem liveg_clearFull (t : Task) l : (t.clearFull l).liveg = t.liveg := rfl
@[simp] theorem livev_clearFull (t : Task) l : (t.clearFull l).livev = t.livev := rfl
@[simp] theorem vtime_clearFull (t : Task) l : (t.clearFull l).vtime = t.vtime := rfl
@[simp] theorem pend_clearFull (t : Task) l : (t.clearFull l).pend = t.pend := rfl
@[simp] theorem oplog_clearFull (t : Task) l : (t.clearFull l).oplog = t.oplog := rfl
@[simp] theorem logptr_clearFull (t : Task) l : (t.clearFull l).logptr = t.logptr := rfl
@[simp] theorem g_clearFull (t : Task) l : (t.clearFull l).g = t.g := rfl
@[simp] theorem v_clearFull (t : Task) l : (t.clearFull l).v = t.v := rfl
@[simp] theorem epc_clearFull (t : Task) l : (t.clearFull l).epc = t.epc := rfl
@[simp] theorem ecause_clearFull (t : Task) l : (t.clearFull l).ecause = t.ecause := rfl
@[simp] theorem einfo_clearFull (t : Task) l : (t.clearFull l).einfo = t.einfo := rfl
@[simp] theorem barph_clearFull (t : Task) l : (t.clearFull l).barph = t.barph := rfl
@[simp] theorem lsave_clearFull (t : Task) l : (t.clearFull l).lsave = t.lsave := rfl
@[simp] theorem lheldSlots_clearFull (t : Task) l : (t.clearFull l).lheldSlots = t.lheldSlots := rfl
@[simp] theorem lheldAccs_clearFull (t : Task) l : (t.clearFull l).lheldAccs = t.lheldAccs := rfl
@[simp] theorem lheldCore_clearFull (t : Task) l : (t.clearFull l).lheldCore = t.lheldCore := rfl
@[simp] theorem lheldV_clearFull (t : Task) l : (t.clearFull l).lheldV = t.lheldV := rfl
@[simp] theorem theld_clearFull (t : Task) l : (t.clearFull l).theld = t.theld := rfl
@[simp] theorem progNext_clearFull (t : Task) l : (t.clearFull l).progNext = t.progNext := rfl
@[simp] theorem progV_clearFull (t : Task) l : (t.clearFull l).progV = t.progV := rfl
@[simp] theorem progPc_clearFull (t : Task) l : (t.clearFull l).progPc = t.progPc := rfl
@[simp] theorem ring_clearFull (t : Task) l : (t.clearFull l).ring = t.ring := rfl
@[simp] theorem saveBuf_clearFull (t : Task) l : (t.clearFull l).saveBuf = t.saveBuf := rfl
@[simp] theorem msgOpen_clearFull (t : Task) l : (t.clearFull l).msgOpen = t.msgOpen := rfl
@[simp] theorem rcore_clearFull (t : Task) l : (t.clearFull l).rcore = t.rcore := rfl
@[simp] theorem rctx_clearFull (t : Task) l : (t.clearFull l).rctx = t.rctx := rfl
@[simp] theorem sendq_clearFull (t : Task) l : (t.clearFull l).sendq = t.sendq := rfl
@[simp] theorem sendOut_clearFull (t : Task) l : (t.clearFull l).sendOut = t.sendOut := rfl
@[simp] theorem sendRefused_clearFull (t : Task) l : (t.clearFull l).sendRefused = t.sendRefused := rfl
@[simp] theorem tlp_clearFull (t : Task) l : (t.clearFull l).tlp = t.tlp := rfl
@[simp] theorem evaddr_clearFull (t : Task) l : (t.clearFull l).evaddr = t.evaddr := rfl
@[simp] theorem inEvent_clearFull (t : Task) l : (t.clearFull l).inEvent = t.inEvent := rfl
@[simp] theorem atTnext_clearFull (t : Task) l : (t.clearFull l).atTnext = t.atTnext := rfl
@[simp] theorem group_clearFull (t : Task) l : (t.clearFull l).group = t.group := rfl
@[simp] theorem launch_clearFull (t : Task) l : (t.clearFull l).launch = t.launch := rfl
@[simp] theorem ls_clearFull (t : Task) l : (t.clearFull l).ls = t.ls := rfl
@[simp] theorem node_clearFull (t : Task) l : (t.clearFull l).node = t.node := rfl
@[simp] theorem bounded_clearFull (t : Task) l : (t.clearFull l).bounded = t.bounded := rfl
@[simp] theorem waits_clearFull (t : Task) l : (t.clearFull l).waits = t.waits := rfl
@[simp] theorem killed_clearFull (t : Task) l : (t.clearFull l).killed = t.killed := rfl
@[simp] theorem started_clearFull (t : Task) l : (t.clearFull l).started = t.started := rfl
@[simp] theorem tokHeld_clearFull (t : Task) l : (t.clearFull l).tokHeld = t.tokHeld := rfl
@[simp] theorem tokReq_clearFull (t : Task) l : (t.clearFull l).tokReq = t.tokReq := rfl
@[simp] theorem pins_clearFull (t : Task) l : (t.clearFull l).pins = t.pins := rfl
@[simp] theorem subUnacked_clearFull (t : Task) l : (t.clearFull l).subUnacked = t.subUnacked := rfl
@[simp] theorem tid_clearFull (t : Task) l : (t.clearFull l).tid = t.tid := rfl
@[simp] theorem pendingError_clearFull (t : Task) l : (t.clearFull l).pendingError = t.pendingError := rfl
@[simp] theorem absent_clearFull (t : Task) l : (t.clearFull l).absent = t.absent := rfl
@[simp] theorem home_clearFull (t : Task) l : (t.clearFull l).home = t.home := rfl
@[simp] theorem fwd_clearFull (t : Task) l : (t.clearFull l).fwd = t.fwd := rfl
@[simp] theorem spillAt_clearFull (t : Task) l : (t.clearFull l).spillAt = t.spillAt := rfl
@[simp] theorem pendingClass_clearFull (t : Task) l : (t.clearFull l).pendingClass = t.pendingClass := rfl
@[simp] theorem badRegs_clearFull (t : Task) l : (t.clearFull l).badRegs = t.badRegs := rfl
@[simp] theorem badVecs_clearFull (t : Task) l : (t.clearFull l).badVecs = t.badVecs := rfl

/-! ### Contexts, cores and dies after an update -/

variable (s : State)

@[simp] theorem ctxAt_setCtxAt_same (k x) : (s.setCtxAt k x).ctxAt k = x := get_put_same ..
theorem ctxAt_setCtxAt_other {k j} (x) (h : j ≠ k) : (s.setCtxAt k x).ctxAt j = s.ctxAt j := get_put_other _ _ _ h
@[simp] theorem coreAt_setCoreAt_same (c x) : (s.setCoreAt c x).coreAt c = x := get_put_same ..
theorem coreAt_setCoreAt_other {c j} (x) (h : j ≠ c) : (s.setCoreAt c x).coreAt j = s.coreAt j := get_put_other _ _ _ h
@[simp] theorem dieAt_setDieAt_same (d x) : (s.setDieAt d x).dieAt d = x := get_put_same ..
theorem dieAt_setDieAt_other {d j} (x) (h : j ≠ d) : (s.setDieAt d x).dieAt j = s.dieAt j := get_put_other _ _ _ h

@[simp] theorem ctxAt_setCoreAt (c x k) : (s.setCoreAt c x).ctxAt k = s.ctxAt k := rfl
@[simp] theorem ctxAt_setDieAt (d x k) : (s.setDieAt d x).ctxAt k = s.ctxAt k := rfl
@[simp] theorem ctxAt_setPkg (x k) : (s.setPkg x).ctxAt k = s.ctxAt k := rfl
@[simp] theorem ctxAt_push (e k) : (s.push e).ctxAt k = s.ctxAt k := rfl
@[simp] theorem coreAt_setCtxAt (k x c) : (s.setCtxAt k x).coreAt c = s.coreAt c := rfl
@[simp] theorem coreAt_setMe (x c) : (s.setMe x).coreAt c = s.coreAt c := rfl
@[simp] theorem coreAt_setTask (t c) : (s.setTask t).coreAt c = s.coreAt c := rfl
@[simp] theorem coreAt_setDieAt (d x c) : (s.setDieAt d x).coreAt c = s.coreAt c := rfl
@[simp] theorem coreAt_push (e c) : (s.push e).coreAt c = s.coreAt c := rfl
@[simp] theorem dieAt_setCtxAt (k x d) : (s.setCtxAt k x).dieAt d = s.dieAt d := rfl
@[simp] theorem dieAt_setMe (x d) : (s.setMe x).dieAt d = s.dieAt d := rfl
@[simp] theorem dieAt_setTask (t d) : (s.setTask t).dieAt d = s.dieAt d := rfl
@[simp] theorem dieAt_setCoreAt (c x d) : (s.setCoreAt c x).dieAt d = s.dieAt d := rfl
@[simp] theorem dieAt_push (e d) : (s.push e).dieAt d = s.dieAt d := rfl

/-! ### The executing context after an update -/

@[simp] theorem me_setMe (x) : (s.setMe x).me = x := ctxAt_setCtxAt_same ..
@[simp] theorem me_setTask (t) : (s.setTask t).me = { s.me with task := t } := me_setMe ..
@[simp] theorem task_setTask (t) : (s.setTask t).task = t := by simp [State.task]
@[simp] theorem task_setMe (x) : (s.setMe x).task = x.task := by simp [State.task]
@[simp] theorem me_setCoreAt (c x) : (s.setCoreAt c x).me = s.me := rfl
@[simp] theorem me_setDieAt (d x) : (s.setDieAt d x).me = s.me := rfl
@[simp] theorem me_setPkg (x) : (s.setPkg x).me = s.me := rfl
@[simp] theorem me_push (e) : (s.push e).me = s.me := rfl
@[simp] theorem task_setCoreAt (c x) : (s.setCoreAt c x).task = s.task := rfl
@[simp] theorem task_setDieAt (d x) : (s.setDieAt d x).task = s.task := rfl
@[simp] theorem task_setPkg (x) : (s.setPkg x).task = s.task := rfl
@[simp] theorem task_push (e) : (s.push e).task = s.task := rfl
@[simp] theorem task_setG (r v) : (s.setG r v).task = s.task.setG r v := task_setTask ..
@[simp] theorem task_setV (r v) : (s.setV r v).task = s.task.setV r v := task_setTask ..
@[simp] theorem task_mergeFlags (f) : (s.mergeFlags f).task = { s.task with flags := s.task.flags ||| f } := task_setTask ..
@[simp] theorem task_advance (n) : (s.advance n).task = { s.task with pc := s.task.pc + BitVec.ofNat 64 (4 * n) } := task_setTask ..

@[simp] theorem me_setG (r v) : (s.setG r v).me = { s.me with task := s.task.setG r v } := me_setTask ..
@[simp] theorem me_setV (r v) : (s.setV r v).me = { s.me with task := s.task.setV r v } := me_setTask ..
@[simp] theorem me_mergeFlags (f) : (s.mergeFlags f).me = { s.me with task := { s.task with flags := s.task.flags ||| f } } := me_setTask ..
@[simp] theorem me_advance (n) : (s.advance n).me = { s.me with task := { s.task with pc := s.task.pc + BitVec.ofNat 64 (4 * n) } } :=
  me_setTask ..

/-- An update of the executing context leaves every other context alone. -/
theorem ctxAt_setMe_other {k} (x) (h : k ≠ s.cur) : (s.setMe x).ctxAt k = s.ctxAt k := ctxAt_setCtxAt_other _ _ h
theorem ctxAt_setTask_other {k} (t) (h : k ≠ s.cur) : (s.setTask t).ctxAt k = s.ctxAt k := ctxAt_setCtxAt_other _ _ h

/-! ### Registers after a write -/

/-- A general register after a write: the value in the register written, unless it is g0. -/
theorem gr_setG (t : Task) (r v q) : (t.setG r v).gr q = if q = r ∧ r ≠ 0 then v else t.gr q := by
  unfold Task.setG Task.gr
  by_cases hr : r = 0
  · simp [hr]
  · by_cases hq : q = r
    · simp [hr, hq]
    · simp only [hr, hq, if_false, false_and]
      split
      · rfl
      · exact get_set_other _ _ _ hq

@[simp] theorem gr_zero (t : Task) : t.gr 0 = 0 := rfl

/-- A vector register after a write. -/
theorem vr_setV (t : Task) (r x q) : (t.setV r x).vr q = if q = r then x else t.vr q := by
  unfold Task.setV Task.vr
  by_cases hq : q = r
  · simp [hq]
  · simp only [hq, if_false]; exact get_set_other _ _ _ hq

/-- A written register is full; the others keep their full bits (R83). -/
theorem isFull_setG (t : Task) (r v q) (hr : r < 256) : (t.setG r v).isFull q = (decide (q = r) || t.isFull q) := by
  unfold Task.setG Task.isFull
  by_cases h0 : r = 0
  · subst h0; by_cases hq : q = 0 <;> simp [hq]
  · by_cases hq : q = r
    · subst hq; simp [h0, bit256, hr]
    · by_cases h : q < r
      · simp [h0, hq, bit256, h]
      · simp [h0, hq, bit256, show q - r ≠ 0 by omega]

end Sys2Proof.Laws
end

