-- ==== Sys2Proof/Laws/Ops.lean ====
section
/-! SUPPORT. What each shared operation of `Ops` can do, said once: how an instruction passes its checks and where it stops, and
what a register result leaves. -/

namespace Sys2Proof.Laws

open Sys2Proof Sys2Proof.Machine

variable {s : State}

@[simp] theorem settle_ok (s t : State) : s.settle (.ok t) = t := rfl
@[simp] theorem settle_trap (s : State) (cls cause : Nat) (sel : BitVec 16) (info : Word) :
    s.settle (.error (.trap cls cause sel info)) = s.trap cls cause sel info := rfl

@[simp] theorem empty_nil (s : State) : s.empty [] = s := rfl

theorem task_empty (s : State) (syn : List Nat) : (s.empty syn).task = s.task.clearFull syn := by
  unfold State.empty; split
  · simp_all [Machine.Task.clearFull]
  · simp

@[simp] theorem g_empty (s : State) (syn r) : (s.empty syn).g r = s.g r := by
  simp only [State.g, task_empty]; rfl

@[simp] theorem vreg_empty (s : State) (syn r) : (s.empty syn).vreg r = s.vreg r := by
  simp only [State.vreg, task_empty]; rfl

theorem sync_none {syn : List Nat} (h : allFull s syn) : syncRule s.task syn = none := by
  have : (syn.filter fun r => !s.task.isFull r) = [] := by
    simp only [List.filter_eq_nil_iff]; intro r hr; simp [h r hr]
  simp [syncRule, this]

theorem parity_none {gs vs : List Nat} {k} (hg : ∀ r ∈ gs, r ∉ s.task.badRegs) (hv : ∀ r ∈ vs, r ∉ s.task.badVecs) :
    s.parity gs vs k = k s := by
  have h1 : (gs.eraseDups.filter fun r => r ≠ 0 && r ∈ s.task.badRegs) = [] := by
    simp only [List.filter_eq_nil_iff]
    intro r hr; have := hg r (by simpa using hr); simp [this]
  have h2 : (vs.find? fun r => r ∈ s.task.badVecs) = none := by
    simp only [List.find?_eq_none]; intro r hr; simpa using hv r hr
  simp only [State.parity, h1, List.find?_nil, List.foldl_nil, h2]

/-- An instruction whose checks pass has its effect on the state with its synchronised registers empty. -/
theorem instr_ok {gs vs syn wr vwr : List Nat} {priv : Bool} {k} (hs : sound s gs wr vs vwr) (hp : priv = true → s.task.mode = true)
    (hf : allFull s syn) : s.instr gs vs syn priv k wr vwr = s.settle (k (s.empty syn)) := by
  have : (priv && !s.task.mode) = false := by cases priv <;> simp_all
  simp [State.instr, this, hs.within, hs.present, parity_none hs.goodG hs.goodV, sync_none hf]

/-- A register outside the partition raises the illegal-instruction trap (R48, R65). -/
theorem instr_outside {gs vs syn wr vwr : List Nat} {priv held : Bool} {k} (h : s.part.holds (gs ++ wr) (vs ++ vwr) = false) :
    s.instr gs vs syn priv k wr vwr held = s.trap 1 0 0 (s.ir.zeroExtend 64) := by
  simp [State.instr, h, State.illegal]

/-- An instruction that names a register line that is absent starts the fills of its lines and gives up the turn (R72, R81). -/
theorem instr_absent {gs vs syn wr vwr : List Nat} {priv held : Bool} {k} (h : s.part.holds (gs ++ wr) (vs ++ vwr) = true)
    (hp : priv = true → s.task.mode = true) (hm : s.task.missing (gs ++ wr) (vs ++ vwr) ≠ []) :
    s.instr gs vs syn priv k wr vwr held = s.missLines (s.task.missing (gs ++ wr) (vs ++ vwr)) := by
  have : (priv && !s.task.mode) = false := by cases priv <;> simp_all
  simp [State.instr, h, this, hm]

/-- A privileged instruction in user mode raises the privilege trap (R64). -/
theorem instr_user {gs vs syn wr vwr : List Nat} {held : Bool} {k} (h : s.part.holds (gs ++ wr) (vs ++ vwr) = true)
    (hm : s.task.mode = false) : s.instr gs vs syn true k wr vwr held = s.trap 2 0 0 (s.ir.zeroExtend 64) := by
  simp [State.instr, h, hm, State.privilege]

theorem isFull_clear (t : Machine.Task) (syn : List Nat) (r : Nat) (hr : r < 256) :
    (t.clearFull syn).isFull r = (r = 0 || (t.isFull r && !decide (r ∈ syn))) := by
  have key : ∀ (l : List Nat) (m : BitVec 256), (l.foldl (fun m r => m &&& ~~~bit256 r) m).getLsbD r = (m.getLsbD r && !decide (r ∈ l)) := by
    intro l; induction l with
    | nil => intro m; simp
    | cons a l ih =>
      intro m
      rw [List.foldl_cons, ih]
      by_cases ha : r = a
      · subst ha; simp [bit256, hr]
      · by_cases h : r < a
        · simp [bit256, hr, h, ha]
        · simp [bit256, hr, ha, show r - a ≠ 0 by omega]
  unfold Machine.Task.isFull Machine.Task.clearFull
  simp only [key]
  by_cases h0 : r = 0 <;> simp [h0]

theorem cur_setCtx_other (s : State) {k : Nat} (hk : k ≠ s.cur) (syn : List Nat) : (s.empty syn).ctxAt k = s.ctxAt k := by
  unfold State.empty; split
  · rfl
  · exact ctxAt_setMe_other _ _ hk

theorem me_empty (s : State) (syn : List Nat) : ∃ q, (s.empty syn).me = { s.me with syn := q, task := s.task.clearFull syn } := by
  unfold State.empty; split
  · rename_i h; refine ⟨s.me.syn, ?_⟩
    have : syn = [] := by simpa using h
    subst this; rfl
  · exact ⟨syn, me_setMe ..⟩

/-- A change of the executing task, after the synchronised registers are emptied, leaves everything else alone. -/
theorem task_change (s : State) (syn : List Nat) (t : Machine.Task) :
    onlyMine s ((s.empty syn).setTask t) ∧
      { ((s.empty syn).setTask t).me with task := s.task, syn := s.me.syn } = s.me ∧ ((s.empty syn).setTask t).task = t := by
  refine ⟨⟨?_, ?_⟩, ?_, task_setTask ..⟩
  · unfold State.empty; split <;> rfl
  · intro k hk
    exact (ctxAt_setTask_other _ _ (by simpa using hk)).trans (cur_setCtx_other s hk syn)
  · obtain ⟨q, hq⟩ := me_empty s syn
    rw [me_setTask, hq]; rfl

/-- Two changes of the executing context are the second one. -/
theorem put_put {α : Type} (m : Store α) (a : Nat) (v w : α) : (m.put a v).put a w = m.put a w := by
  induction m with
  | nil => simp [Store.put]
  | cons x r ih =>
    obtain ⟨k, u⟩ := x
    simp only [Store.put]
    split
    · simp [Store.put]
    · split
      · simp [Store.put]
      · rename_i h1 h2; simp [Store.put, h1, h2, ih]

theorem setMe_setMe (s : State) (x y : Context) : (s.setMe x).setMe y = s.setMe y := by
  show ({ s with ctxs := (s.ctxs.put s.cur x).put s.cur y } : State) = _
  rw [put_put]; rfl

theorem setTask_setTask (s : State) (t u : Machine.Task) : (s.setTask t).setTask u = s.setTask u := by
  rw [State.setTask, State.setTask, setMe_setMe, me_setMe]; rfl

/-- A register result after the synchronised registers are emptied, with PC set, is what `wroteG` says. -/
theorem wroteG_pc {s : State} {syn : List Nat} {d : Nat} (v pc : Word) (hd : d < 256) :
    wroteG s (((s.empty syn).setG d v).setTask { ((s.empty syn).setG d v).task with pc }) syn d v pc := by
  have hm : ((s.empty syn).setG d v).setTask { ((s.empty syn).setG d v).task with pc } =
      (s.empty syn).setTask { (s.task.clearFull syn).setG d v with pc } := by
    rw [State.setG, setTask_setTask, task_setTask, task_empty]
  obtain ⟨h1, h2, h3⟩ := task_change s syn { (s.task.clearFull syn).setG d v with pc }
  rw [hm]
  have hg : ∀ r, ((s.empty syn).setTask { (s.task.clearFull syn).setG d v with pc }).g r = ((s.task.clearFull syn).setG d v).gr r := by
    intro r; rw [State.g, h3]; rfl
  refine ⟨h1, h2, ?_, ?_, ?_, ?_, ?_⟩
  · rw [h3]; unfold Machine.Task.setG; split <;> rfl
  · rw [h3]
  · rw [hg, gr_setG]; by_cases h0 : d = 0 <;> simp [h0]
  · intro r hr; rw [hg, gr_setG]; simp [hr]; rfl
  · intro r hr
    rw [h3]; show ((s.task.clearFull syn).setG d v).isFull r = true ↔ _
    rw [isFull_setG _ _ _ _ hd, isFull_clear _ _ _ hr]
    simp only [Bool.or_eq_true, decide_eq_true_eq, Bool.and_eq_true, Bool.not_eq_true', decide_eq_false_iff_not]
    constructor
    · rintro (h | h | h)
      · exact .inr (.inl h)
      · exact .inl h
      · exact .inr (.inr h)
    · rintro (h | h | h)
      · exact .inr (.inl h)
      · exact .inl h
      · exact .inr (.inr h)

/-- A register result after the synchronised registers are emptied is what `wroteG` says. -/
theorem wroteG_intro {s : State} {syn : List Nat} {d n : Nat} (v : Word) (hd : d < 256) :
    wroteG s (((s.empty syn).setG d v).advance n) syn d v (s.task.pc + BitVec.ofNat 64 (4 * n)) := by
  have : ((s.empty syn).setG d v).task.pc = s.task.pc := by rw [task_setG, pc_taskSetG, task_empty]; rfl
  rw [State.advance, this]; exact wroteG_pc v _ hd

/-- PC set after the synchronised registers are emptied. -/
theorem wentTo_intro {s : State} {syn : List Nat} (pc : Word) : wentTo s ((s.empty syn).setTask { (s.empty syn).task with pc }) syn pc := by
  obtain ⟨h1, h2, h3⟩ := task_change s syn { (s.empty syn).task with pc }
  refine ⟨h1, h2, ?_, ?_, ?_⟩
  · rw [h3, task_empty]; rfl
  · rw [h3]
  · intro r hr; rw [h3, task_empty]; show (s.task.clearFull syn).isFull r = true ↔ _
    rw [isFull_clear _ _ _ hr]; simp

end Sys2Proof.Laws
end

