-- ==== Sys2Proof/Laws/Stops.lean ====
section
/-! SUPPORT. What taking a trap, reporting a recoverable fault and parking do (R71, R113, R383), once for each, and what
`settle` makes of each stop. -/

namespace Sys2Proof.Laws

open Sys2Proof Sys2Proof.Machine

set_option Elab.async false

variable (s : State)

/-! ### Records and parks -/

@[simp] theorem mem_report (r : FaultRec) : (s.report r).mem = s.mem := by unfold State.report; split <;> rfl
@[simp] theorem ctxs_report (r : FaultRec) : (s.report r).ctxs = s.ctxs := by unfold State.report; split <;> rfl
@[simp] theorem cores_report (r : FaultRec) : (s.report r).cores = s.cores := by unfold State.report; split <;> rfl
@[simp] theorem dies_report (r : FaultRec) : (s.report r).dies = s.dies := by unfold State.report; split <;> rfl
@[simp] theorem cur_report (r : FaultRec) : (s.report r).cur = s.cur := by unfold State.report; split <;> rfl
@[simp] theorem phase_report (r : FaultRec) : (s.report r).phase = s.phase := by unfold State.report; split <;> rfl
@[simp] theorem me_report (r : FaultRec) : (s.report r).me = s.me := by simp [State.me, State.ctxAt]
@[simp] theorem task_report (r : FaultRec) : (s.report r).task = s.task := by simp [State.task]

/-- A record other than one of KIND 8 is never dropped. -/
theorem records_report {r : FaultRec} (h : r.kind ≠ 8) : (s.report r).pkg = { s.pkg with records := s.pkg.records ++ [r] } := by
  simp [State.report, h, State.setPkg, State.push]

@[simp] theorem mem_park (why : Nat) (w : Wait) : (s.park why w).mem = s.mem := by unfold State.park; split <;> rfl
@[simp] theorem cores_park (why : Nat) (w : Wait) : (s.park why w).cores = s.cores := by unfold State.park; split <;> rfl
@[simp] theorem dies_park (why : Nat) (w : Wait) : (s.park why w).dies = s.dies := by unfold State.park; split <;> rfl
@[simp] theorem pkg_park (why : Nat) (w : Wait) : (s.park why w).pkg = s.pkg := by unfold State.park; split <;> rfl
@[simp] theorem cur_park (why : Nat) (w : Wait) : (s.park why w).cur = s.cur := by unfold State.park; split <;> rfl
@[simp] theorem agenda_park (why : Nat) (w : Wait) : (s.park why w).agenda = s.agenda := by unfold State.park; split <;> rfl
@[simp] theorem task_park (why : Nat) (w : Wait) : (s.park why w).task = s.task := by
  unfold State.park
  split <;> rw [State.task, me_setMe, State.task]

/-- A park changes nothing but what the context waits for. -/
theorem me_park (why : Nat) (w : Wait) (h : s.me.state ≠ .stopped) :
    (s.park why w).me = { s.me with state := .parked, parkwhy := why, wait := w } := by
  rw [State.park, if_neg h, me_setMe]

theorem ctx_park_other {k : Nat} (hk : k ≠ s.cur) (why : Nat) (w : Wait) : (s.park why w).ctxAt k = s.ctxAt k := by
  unfold State.park
  split <;> simp [State.setMe, State.ctxAt, State.setCtxAt, get_put_other _ _ _ hk]

/-- An accepted memory instruction parks until its core's next turn (R74, R107). -/
theorem me_accepted (words : Nat) (h : s.me.state ≠ .stopped) :
    (s.accepted words).me = { s.me with state := .parked, parkwhy := 1, wait := .accepted words } := me_park s 1 _ h

@[simp] theorem mem_accepted (words : Nat) : (s.accepted words).mem = s.mem := mem_park s 1 _

/-! ### Traps -/

/-- The saved registers after a trap (R381, R383). -/
theorem saved_trap (cls cause : Nat) (sel : BitVec 16) (info : Word) : let t := (s.trap cls cause sel info).task
    t.epc = s.task.pc &&& ~~~3#64 ∧ t.ecause = ecauseOf cls cause s.task.mode sel ∧ t.einfo = info := by
  unfold State.trap
  dsimp only
  split <;> simp [task_setTask]

/-- Where a trap goes: the handler of TVEC in privileged mode, or the context stays where it is. -/
theorem target_trap (cls cause : Nat) (sel : BitVec 16) (info : Word) : let t := (s.trap cls cause sel info).task
    let d := s.dieAt (dieOf s.curCore)
    if s.task.mode = false ∧ d.tvec.getLsbD 0 then t.pc = tvecTarget d.tvec ∧ t.mode = true else t.pc = s.task.pc ∧ t.mode = s.task.mode := by
  intro t d
  show if _ then (s.trap cls cause sel info).task.pc = _ ∧ (s.trap cls cause sel info).task.mode = true
    else (s.trap cls cause sel info).task.pc = _ ∧ (s.trap cls cause sel info).task.mode = _
  have e : s.trap cls cause sel info = if s.task.mode = false ∧ d.tvec.getLsbD 0 then _ else _ := rfl
  by_cases h : s.task.mode = false ∧ d.tvec.getLsbD 0
  · rw [if_pos h, e, if_pos h, task_setTask]
    exact ⟨rfl, rfl⟩
  · rw [if_neg h, e, if_neg h]
    simp

/-- A trap changes no register and nothing in memory, cores and dies. -/
theorem kept_trap (cls cause : Nat) (sel : BitVec 16) (info : Word) : let t := s.trap cls cause sel info
    t.mem = s.mem ∧ t.cores = s.cores ∧ t.dies = s.dies ∧ t.task.g = s.task.g ∧ t.task.v = s.task.v ∧ t.task.full = s.task.full ∧
    t.task.flags = s.task.flags := by
  unfold State.trap
  dsimp only
  split <;> simp [task_setTask]

theorem ctx_trap_other {k : Nat} (hk : k ≠ s.cur) (cls cause : Nat) (sel : BitVec 16) (info : Word) :
    (s.trap cls cause sel info).ctxAt k = s.ctxAt k := by
  unfold State.trap
  dsimp only
  split
  · simp [State.setTask, State.setMe, State.ctxAt, State.setCtxAt, get_put_other _ _ _ hk]
  · rw [ctx_park_other _ (by simpa using hk)]
    simp [State.setTask, State.setMe, State.ctxAt, State.setCtxAt, get_put_other _ _ _ hk]

/-! ### `settle` -/

@[simp] theorem mem_reportMiss (r : FaultRec) : (s.reportMiss r).mem = s.mem := by simp [State.reportMiss]

@[simp] theorem mem_askHost (line : Nat) : (s.askHost line).mem = s.mem := by
  unfold State.askHost
  simp only [List.foldl_cons, List.foldl_nil]
  split <;> split <;> rfl

@[simp] theorem mem_recoverable (sel : BitVec 16) (off : Word) (w x : Bool) : (s.recoverable sel off w x).mem = s.mem := by
  simp [State.recoverable]

@[simp] theorem mem_noteWait (w : Wait) : (s.noteWait w).mem = s.mem := by
  unfold State.noteWait
  split
  · split <;> rfl
  · split <;> rfl
  · split <;> rfl
  · simp
  · rfl

@[simp] theorem mem_slotFaulted (core slot : Nat) (off : Word) (sel : BitVec 16) : (s.slotFaulted core slot off sel).mem = s.mem := by
  unfold State.slotFaulted
  dsimp only
  split <;> simp

/-- A stop changes nothing in memory. -/
theorem mem_settle_error (e : Stop) : (s.settle (.error e)).mem = s.mem := by
  cases e <;> simp [State.settle]
  exact (kept_trap s _ _ _ _).1

end Sys2Proof.Laws
end

