-- ==== Sys2Proof/Laws/Memory.lean ====
section
/-! SUPPORT. The canonical form of memory: reset has it, and every operation that writes memory keeps it. What the operations
that write bytes make of memory. -/

namespace Sys2Proof.Laws

open Sys2Proof Sys2Proof.Machine

set_option Elab.async false

/-! ### The canonical form -/

theorem memOk_reset : State.reset.memOk := by
  show Memory.wf [] = true
  rfl

theorem memOk_of_mem {s t : State} (h : s.memOk) (e : t.mem = s.mem) : t.memOk := by
  simpa [State.memOk, e] using h

/-- Dropping bytes keeps the form. -/
theorem wf_filter {m : Store Byte} (p : Nat × Byte → Bool) (h : Memory.wf m = true) : Memory.wf (m.filter p) = true := by
  simp only [Memory.wf, Store.wf, Bool.and_eq_true] at h ⊢
  refine ⟨?_, ?_⟩
  · obtain ⟨h, -⟩ := h
    induction m with
    | nil => rfl
    | cons x r ih =>
      obtain ⟨k, v⟩ := x
      obtain ⟨h1, h2⟩ := sorted_cons.1 h
      simp only [List.filter_cons]
      split
      · exact sorted_cons.2 ⟨fun y hy => h1 y (List.mem_filter.1 hy).1, ih h2⟩
      · exact ih h2
  · obtain ⟨-, h⟩ := h
    simp only [Store.lean, List.all_eq_true] at h ⊢
    exact fun x hx => h x (List.mem_filter.1 hx).1

theorem memOk_write {s : State} (a n v : Nat) (h : s.memOk) : State.memOk { s with mem := writeBytes s.mem a n v } :=
  wf_writeBytes a n v h

theorem memOk_writePa {s : State} (pa n v : Nat) (h : s.memOk) : (s.writePa pa n v).memOk := by
  unfold State.writePa
  split
  · exact memOk_write pa n v h
  · exact h

theorem memOk_zeroScratch {s : State} (core base n : Nat) (h : s.memOk) : (s.zeroScratch core base n).memOk := wf_filter _ h

theorem memOk_survivors {s : State} (cold : Bool) (h : s.memOk) : (s.survivors cold).memOk := wf_filter _ h

theorem memOk_placeWord {s : State} (pc : Word) (i : Nat) (w : IWord) (h : s.memOk) : (s.placeWord pc i w).memOk :=
  memOk_of_mem (memOk_write (s.placedAt pc i) 4 w.toNat h) rfl

theorem memOk_placeWords {s : State} (pc : Word) (i : Nat) (ws : List IWord) (h : s.memOk) : (s.placeWords pc i ws).memOk := by
  induction ws generalizing s i with
  | nil => exact h
  | cons w r ih => exact ih (i + 1) (memOk_placeWord pc i w h)

theorem memOk_withFetchWord {s : State} (nbits w : Nat) (h : s.memOk) : (s.withFetchWord nbits w).memOk := by
  unfold State.withFetchWord
  show Memory.wf (State.placeWords _ _ _ _).mem = true
  exact memOk_placeWords _ 0 _ (memOk_of_mem (s := s) h rfl)

/-! ### What writes leave alone -/

theorem mem_foldl {α : Type} (f : State → α → State) (h : ∀ s x, (f s x).mem = s.mem) (l : List α) (s : State) :
    (l.foldl f s).mem = s.mem := by
  induction l generalizing s with
  | nil => rfl
  | cons x r ih => rw [List.foldl_cons, ih, h]

@[simp] theorem mem_mapTask (s : State) (tid : Nat) (f : Machine.Task → Machine.Task) : (s.mapTask tid f).mem = s.mem := rfl

@[simp] theorem mem_wakeWatchers (s : State) (p : Place) : (s.wakeWatchers p).mem = s.mem := by
  unfold State.wakeWatchers
  exact mem_foldl _ (fun s x => by split <;> rfl) _ _

@[simp] theorem mem_sendPacket (s : State) (net src dest : Nat) (e : Instr) : (s.sendPacket net src dest e).mem = s.mem := by
  unfold State.sendPacket
  dsimp only
  split
  · unfold State.emitOn
    dsimp only
    split <;> rfl
  · rfl

@[simp] theorem mem_sendLine (s : State) (core : Nat) (e : Source) (l : CoLine) : (s.sendLine core e l).mem = s.mem := by
  unfold State.sendLine
  refine mem_foldl _ (fun s b => ?_) _ _
  rw [mem_sendPacket, mem_foldl _ (fun s w => mem_mapTask s w _)]
  split <;> rfl

@[simp] theorem mem_coalesce (s : State) (core k pos b writer : Nat) : (s.coalesce core k pos b writer).mem = s.mem := by
  unfold State.coalesce
  dsimp only
  split
  · rfl
  · split
    · rfl
    · split
      · split
        · rfl
        · rw [mem_sendLine]; rfl
      · rfl

@[simp] theorem mem_forwardBytes (s : State) (core off n v writer : Nat) : (s.forwardBytes core off n v writer).mem = s.mem := by
  unfold State.forwardBytes
  refine mem_foldl _ (fun s x => ?_) _ _
  split
  · rfl
  · exact mem_foldl _ (fun s i => by split <;> simp) _ _

/-- A scratchpad write makes these bytes of memory, and no others, what is written. -/
theorem mem_writeScratch (s : State) (core off n v writer : Nat) :
    (s.writeScratch core off n v writer).mem = writeBytes s.mem (sramKey core off) n v := by
  simp [State.writeScratch]

theorem memOk_writeScratch {s : State} (core off n v writer : Nat) (h : s.memOk) : (s.writeScratch core off n v writer).memOk := by
  simpa [State.memOk, mem_writeScratch] using wf_writeBytes _ _ _ h

/-- A physical write makes these bytes what is written, where memory is fitted. -/
theorem readPa_writePa {s : State} {pa n v : Nat} (h : s.backed pa = true) : (s.writePa pa n v).readPa pa n = v % 256 ^ n := by
  have : State.backed { s with mem := writeBytes s.mem pa n v } pa = true := h
  simp [State.writePa, State.readPa, h, this, read_write_same]

/-- Other bytes keep their value. -/
theorem readPa_writePa_other {s : State} {pa n v b k : Nat} (h : b + k ≤ pa ∨ pa + n ≤ b) : (s.writePa pa n v).readPa b k = s.readPa b k := by
  unfold State.writePa
  split
  · show (if s.backed b then readBytes (writeBytes s.mem pa n v) b k else 0) = s.readPa b k
    rw [read_write_other h]
    rfl
  · rfl

/-! ### Instructions -/

@[simp] theorem mem_passOn (s : State) : s.passOn.mem = s.mem := by unfold State.passOn; split <;> rfl

@[simp] theorem mem_missLines (s : State) (ls : List Nat) : (s.missLines ls).mem = s.mem := by
  rw [State.missLines, mem_passOn]; exact mem_park s 4 (.lines ls)

/-- A stop keeps the form; so does an effect that does. -/
theorem memOk_settle {s : State} {r : Result} (h : s.memOk) (hr : ∀ t, r = .ok t → t.memOk) : (s.settle r).memOk := by
  cases r with
  | ok t => exact hr t rfl
  | error e => exact memOk_of_mem h (mem_settle_error s e)

/-- An instruction keeps the form if its effect does, on every state with the same memory. -/
theorem memOk_instr {s : State} {gs vs syn wr vwr : List Nat} {priv held : Bool} {k : State → Result} (h : s.memOk)
    (hk : ∀ u t, u.mem = s.mem → k u = .ok t → t.memOk) : (s.instr gs vs syn priv k wr vwr held).memOk := by
  unfold State.instr
  split
  · exact memOk_of_mem h (mem_settle_error s _)
  · split
    · exact memOk_of_mem h (mem_settle_error s _)
    · split
      · exact memOk_of_mem h (mem_missLines s _)
      · split
        · exact memOk_of_mem h (mem_passOn s)
        · unfold State.parity
          dsimp only
          have e := mem_foldl (fun s r => (s.setTask (s.task.repair r ((s.task.logged r).getD 0))).bump s.curCore 6 1)
            (fun _ _ => rfl) ((gs.eraseDups.filter fun r => r ≠ 0 && r ∈ s.task.badRegs)) s
          split
          · exact memOk_of_mem h (kept_trap s _ _ _ _).1
          · split
            · exact memOk_of_mem h ((kept_trap _ _ _ _ _).1.trans e)
            · split
              · exact memOk_of_mem h (by rw [mem_passOn, mem_settle_error, e])
              · exact memOk_settle (memOk_of_mem h e) fun t ht => hk _ t ((mem_empty _ syn).trans e) ht

end Sys2Proof.Laws
end

