-- ==== Sys2Proof/Laws/PerInstr.lean ====
section
/-! SUPPORT. The family F of statements made for each instruction: decoding the words of a well-formed instruction gives it
back, with every word after it untouched. One lemma for each constructor. -/

namespace Sys2Proof.Laws

open Sys2Proof

set_option Elab.async false

/-- Decoding the words of `i`, with any words after them, gives `i` and those words; an event has no words. -/
def F.Statement (i : Instr) : Prop := i.wf = true → encode i ≠ [] → ∀ rest, decode (encode i ++ rest) = .ok (i, rest)

/-! ### What the checks of R65 leave -/

theorem first_none {x : Option DecodeError} {l} (h : firstError (x :: l) = none) : x = none ∧ firstError l = none := by
  cases x <;> simp_all [firstError]

theorem row_check {i : Instr} {r e} (hr : i.row = some r) (he : i.ext = some e) (hw : i.wf = true) : e.check r = none := by
  have h : i.check = none := by simpa [Instr.wf] using hw
  unfold Instr.check at h; rw [hr, he] at h; exact (first_none h).1

theorem special_check {i : Instr} (hw : i.wf = true) : i.special = none := by
  have h : i.check = none := by simpa [Instr.wf] using hw
  exact (first_none (first_none (first_none h).2).2).1

theorem no_lit {i : Instr} {r e} (hr : i.row = some r) (he : i.ext = some e) (hl : r.lit01 = false) (hw : i.wf = true)
    {fmt} (v) (hv : e.imm = .lit01 v) : fLen fmt = 1#2 ∧ decodeLit fmt v = .ok i := by
  have h := (first_none (row_check hr he hw)).1
  simp [Ext.immCheck, hv, hl] at h

theorem class_no {r : BitVec 8} (h : FieldClass.check .no r = none) : r = 0 := by
  simp only [FieldClass.check] at h; split at h <;> simp_all

/-- A literal form is its registers, its space register and its literal. -/
theorem lit_form {r : Row} {e : Ext} {v} (h : e.check r = none) (hv : e.imm = .lit01 v) :
    e = { d := (e.d.setWidth 7).zeroExtend 8, a := (e.a.setWidth 7).zeroExtend 8, c := (e.c.setWidth 7).zeroExtend 8,
          sp := e.sp, imm := .lit01 v } := by
  have h1 := (first_none h).1
  obtain ⟨d, a, b, c, x, y, z, sc, o, rn, st, sp, hint, imm⟩ := e
  simp only at hv; subst hv
  simp only [Ext.immCheck] at h1
  split at h1
  · cases h1
  · split at h1
    · rename_i hc
      obtain ⟨hd, ha, hcc, hb, hx, hy, hz, hs, ho, hr, ht, hh⟩ := hc
      have f : ∀ q : BitVec 8, q.toNat < 128 → (q.setWidth 7).zeroExtend 8 = q := by
        intro q hq; apply BitVec.eq_of_toNat_eq; simp; omega
      simp_all
    · cases h1

theorem check_d {r : Row} {e : Ext} (h : e.check r = none) : r.d.check e.d = none := (first_none (first_none h).2).1
theorem check_a {r : Row} {e : Ext} (h : e.check r = none) : r.a.check e.a = none :=
  (first_none (first_none (first_none h).2).2).1
theorem check_c {r : Row} {e : Ext} (h : e.check r = none) : r.c.check e.c = none :=
  (first_none (first_none (first_none (first_none (first_none h).2).2).2).2).1
theorem check_sp {r : Row} {e : Ext} (h : e.check r = none) (hs : r.space = false) : e.sp = 0 := by
  have := (first_none (first_none (first_none (first_none (first_none (first_none (first_none (first_none (first_none
    (first_none (first_none (first_none h).2).2).2).2).2).2).2).2).2).2).2).1
  simp [hs] at this; exact this

/-- The literal form of an immediate operation. -/
theorem lit_rri {op : Nat} {mk : Ext → Instr} {r : Row} {e : Ext} (hr : (mk e).row = some r) (he : (mk e).ext = some e)
    (hop : op < 512) (hc : r.c = .no) (hs : r.space = false) (hw : (mk e).wf = true)
    (hd : ∀ w v, (fOp w).toNat = op →
      decodeLit w v = zeroed (fB w = 0) (mk { d := (fD w).zeroExtend 8, a := (fA w).zeroExtend 8, imm := .lit01 v }))
    (v) (hv : e.imm = .lit01 v) : fLen (litRRI op e) = 1#2 ∧ decodeLit (litRRI op e) v = .ok (mk e) := by
  have h := row_check hr he hw
  have hf := lit_form h hv
  have hc0 : e.c = 0 := class_no (by rw [← hc]; exact check_c h)
  rw [hc0, check_sp h hs] at hf
  refine ⟨fLen_rrr .., ?_⟩
  rw [hd _ _ (by simp [litRRI, Nat.mod_eq_of_lt hop])]
  simp only [litRRI, fB_rrr, fD_rrr, fA_rrr, zeroed]
  exact congrArg (fun x => Except.ok (mk x)) hf.symm

/-- The literal form of a constant. -/
theorem lit_ri {op : Nat} {mk : Ext → Instr} {r : Row} {e : Ext} (hr : (mk e).row = some r) (he : (mk e).ext = some e)
    (hop : op < 512) (hc : r.c = .no) (ha : r.a = .no) (hs : r.space = false) (hw : (mk e).wf = true)
    (hd : ∀ w v, (fOp w).toNat = op → decodeLit w v = zeroed (fI14 w = 0) (mk { d := (fD w).zeroExtend 8, imm := .lit01 v }))
    (v) (hv : e.imm = .lit01 v) : fLen (litRRI op e) = 1#2 ∧ decodeLit (litRRI op e) v = .ok (mk e) := by
  have h := row_check hr he hw
  have hf := lit_form h hv
  have ha0 : e.a = 0 := class_no (by rw [← ha]; exact check_a h)
  have hc0 : e.c = 0 := class_no (by rw [← hc]; exact check_c h)
  rw [hc0, check_sp h hs, ha0] at hf
  refine ⟨fLen_rrr .., ?_⟩
  rw [hd _ _ (by simp [litRRI, Nat.mod_eq_of_lt hop])]
  simp only [litRRI, fI14_rrr, fD_rrr, zeroed, ha0]
  exact congrArg (fun x => Except.ok (mk x)) hf.symm

/-- The literal form of a load. -/
theorem lit_load {op : Nat} {mk : Ext → Instr} {r : Row} {e : Ext} (hr : (mk e).row = some r) (he : (mk e).ext = some e)
    (hop : op < 512) (hc : r.c = .no) (hw : (mk e).wf = true)
    (hd : ∀ w v, (fOp w).toNat = op → decodeLit w v =
      zeroed (fI5 w = 0) (mk { d := (fD w).zeroExtend 8, a := (fA w).zeroExtend 8, sp := fSP w, imm := .lit01 v }))
    (v) (hv : e.imm = .lit01 v) : fLen (litLoad op e) = 1#2 ∧ decodeLit (litLoad op e) v = .ok (mk e) := by
  have h := row_check hr he hw
  have hf := lit_form h hv
  have hc0 : e.c = 0 := class_no (by rw [← hc]; exact check_c h)
  rw [hc0] at hf
  refine ⟨fLen_m .., ?_⟩
  rw [hd _ _ (by simp [litLoad, Nat.mod_eq_of_lt hop])]
  simp only [litLoad, fI5_m, fD_m, fA_m, fSP_m, zeroed]
  exact congrArg (fun x => Except.ok (mk x)) hf.symm

/-- The literal form of a store. -/
theorem lit_store {op : Nat} {mk : Ext → Instr} {r : Row} {e : Ext} (hr : (mk e).row = some r) (he : (mk e).ext = some e)
    (hop : op < 512) (hdn : r.d = .no) (hw : (mk e).wf = true)
    (hd : ∀ w v, (fOp w).toNat = op → decodeLit w v =
      zeroed (fI5 w = 0) (mk { c := (fD w).zeroExtend 8, a := (fA w).zeroExtend 8, sp := fSP w, imm := .lit01 v }))
    (v) (hv : e.imm = .lit01 v) : fLen (litStore op e) = 1#2 ∧ decodeLit (litStore op e) v = .ok (mk e) := by
  have h := row_check hr he hw
  have hf := lit_form h hv
  have hd0 : e.d = 0 := class_no (by rw [← hdn]; exact check_d h)
  rw [hd0] at hf
  refine ⟨fLen_m .., ?_⟩
  rw [hd _ _ (by simp [litStore, Nat.mod_eq_of_lt hop])]
  simp only [litStore, fI5_m, fD_m, fA_m, fSP_m, zeroed]
  exact congrArg (fun x => Except.ok (mk x)) hf.symm

/-- The literal form of an operation on a line. -/
theorem lit_line {op : Nat} {mk : Ext → Instr} {r : Row} {e : Ext} (hr : (mk e).row = some r) (he : (mk e).ext = some e)
    (hop : op < 512) (hdn : r.d = .no) (hc : r.c = .no) (hw : (mk e).wf = true)
    (hd : ∀ w v, (fOp w).toNat = op → decodeLit w v =
      zeroed (fI5 w = 0 ∧ fD w = 0) (mk { a := (fA w).zeroExtend 8, sp := fSP w, imm := .lit01 v }))
    (v) (hv : e.imm = .lit01 v) : fLen (litStore op e) = 1#2 ∧ decodeLit (litStore op e) v = .ok (mk e) := by
  have h := row_check hr he hw
  have hf := lit_form h hv
  have hc0 : e.c = 0 := class_no (by rw [← hc]; exact check_c h)
  have hd0 : e.d = 0 := class_no (by rw [← hdn]; exact check_d h)
  rw [hd0, hc0] at hf
  refine ⟨fLen_m .., ?_⟩
  rw [hd _ _ (by simp [litStore, Nat.mod_eq_of_lt hop])]
  simp only [litStore, fI5_m, fD_m, fA_m, fSP_m, zeroed, hc0]
  exact congrArg (fun x => Except.ok (mk x)) hf.symm

theorem F.issueTurn (core) : F.Statement (.issueTurn core) := fun _ h => absurd rfl h
theorem F.fillArrive (core) (ctx) : F.Statement (.fillArrive core ctx) := fun _ h => absurd rfl h
theorem F.imageRecall (core) (ctx) : F.Statement (.imageRecall core ctx) := fun _ h => absurd rfl h
theorem F.divideDone (core) (ctx) : F.Statement (.divideDone core ctx) := fun _ h => absurd rfl h
theorem F.vectorLongDone (core) : F.Statement (.vectorLongDone core) := fun _ h => absurd rfl h
theorem F.loadReply (core) (ctx) : F.Statement (.loadReply core ctx) := fun _ h => absurd rfl h
theorem F.storeAck (core) (ctx) : F.Statement (.storeAck core ctx) := fun _ h => absurd rfl h
theorem F.splitLoadReply (core) (n) : F.Statement (.splitLoadReply core n) := fun _ h => absurd rfl h
theorem F.splitLoadForward (core) (wts) (dest) (reg) (value) (tid) : F.Statement (.splitLoadForward core wts dest reg value tid) := fun _ h => absurd rfl h
theorem F.wtneLineWrite (core) (ctx) : F.Statement (.wtneLineWrite core ctx) := fun _ h => absurd rfl h
theorem F.shuttleDepart (core) (ctx) : F.Statement (.shuttleDepart core ctx) := fun _ h => absurd rfl h
theorem F.shuttleArrive (tid) : F.Statement (.shuttleArrive tid) := fun _ h => absurd rfl h
theorem F.waymaskGrowDone (core) : F.Statement (.waymaskGrowDone core) := fun _ h => absurd rfl h
theorem F.waymaskShrink (core) : F.Statement (.waymaskShrink core) := fun _ h => absurd rfl h
theorem F.rfpartRepartition (core) : F.Statement (.rfpartRepartition core) := fun _ h => absurd rfl h
theorem F.granaryReply (core) (ctx) : F.Statement (.granaryReply core ctx) := fun _ h => absurd rfl h
theorem F.lclkTick (die) : F.Statement (.lclkTick die) := fun _ h => absurd rfl h
theorem F.sliceLoad (core) (ctx) : F.Statement (.sliceLoad core ctx) := fun _ h => absurd rfl h
theorem F.sliceWrite (core) : F.Statement (.sliceWrite core) := fun _ h => absurd rfl h
theorem F.homeAtomic (core) (ctx) : F.Statement (.homeAtomic core ctx) := fun _ h => absurd rfl h
theorem F.outboundWriteApply (die) : F.Statement (.outboundWriteApply die) := fun _ h => absurd rfl h
theorem F.crossDieReply (core) (ctx) : F.Statement (.crossDieReply core ctx) := fun _ h => absurd rfl h
theorem F.doneepPublish (die) : F.Statement (.doneepPublish die) := fun _ h => absurd rfl h
theorem F.doneepReceive (die) (src) (epoch) : F.Statement (.doneepReceive die src epoch) := fun _ h => absurd rfl h
theorem F.visitorExpire (die) (line) : F.Statement (.visitorExpire die line) := fun _ h => absurd rfl h
theorem F.peerLineExpire (line) : F.Statement (.peerLineExpire line) := fun _ h => absurd rfl h
theorem F.clockWrapBegin (die) : F.Statement (.clockWrapBegin die) := fun _ h => absurd rfl h
theorem F.clockWrapDone (die) : F.Statement (.clockWrapDone die) := fun _ h => absurd rfl h
theorem F.hostRead (port) (pa) : F.Statement (.hostRead port pa) := fun _ h => absurd rfl h
theorem F.hostTakesOwnership (port) (pa) : F.Statement (.hostTakesOwnership port pa) := fun _ h => absurd rfl h
theorem F.backInvalidationAck (port) (pa) (data) : F.Statement (.backInvalidationAck port pa data) := fun _ h => absurd rfl h
theorem F.sliceEviction (pa) : F.Statement (.sliceEviction pa) := fun _ h => absurd rfl h
theorem F.peerAccessArrive (a) : F.Statement (.peerAccessArrive a) := fun _ h => absurd rfl h
theorem F.peerLinkDown : F.Statement (.peerLinkDown) := fun _ h => absurd rfl h
theorem F.peerLinkUp : F.Statement .peerLinkUp := fun _ h => absurd rfl h
theorem F.peerRequestTimeout (core) (ctx) : F.Statement (.peerRequestTimeout core ctx) := fun _ h => absurd rfl h
theorem F.packetArrive (n) : F.Statement (.packetArrive n) := fun _ h => absurd rfl h
theorem F.packetResend (n) : F.Statement (.packetResend n) := fun _ h => absurd rfl h
theorem F.streamAck (src) (net) (stream) : F.Statement (.streamAck src net stream) := fun _ h => absurd rfl h
theorem F.refreshWindowEnd (die) (bank) : F.Statement (.refreshWindowEnd die bank) := fun _ h => absurd rfl h
theorem F.loomCmdStart (core) : F.Statement (.loomCmdStart core) := fun _ h => absurd rfl h
theorem F.loomCmdDone (core) (serial) : F.Statement (.loomCmdDone core serial) := fun _ h => absurd rfl h
theorem F.mmamSliceDone (core) (serial) : F.Statement (.mmamSliceDone core serial) := fun _ h => absurd rfl h
theorem F.loomClaimRetry (core) (holder) : F.Statement (.loomClaimRetry core holder) := fun _ h => absurd rfl h
theorem F.loomRecallDone (core) (ctx) : F.Statement (.loomRecallDone core ctx) := fun _ h => absurd rfl h
theorem F.loomRestoreDone (core) (ctx) : F.Statement (.loomRestoreDone core ctx) := fun _ h => absurd rfl h
theorem F.copyStart (core) : F.Statement (.copyStart core) := fun _ h => absurd rfl h
theorem F.copyLineWritten (core) (serial) : F.Statement (.copyLineWritten core serial) := fun _ h => absurd rfl h
theorem F.copyComplete (core) (serial) : F.Statement (.copyComplete core serial) := fun _ h => absurd rfl h
theorem F.copyTfault (core) (serial) (sel) (off) (w) : F.Statement (.copyTfault core serial sel off w) := fun _ h => absurd rfl h
theorem F.copyRunFault (core) (serial) (cause) : F.Statement (.copyRunFault core serial cause) := fun _ h => absurd rfl h
theorem F.apertureStore (core) (ch) (value) (ack) : F.Statement (.apertureStore core ch value ack) := fun _ h => absurd rfl h
theorem F.chownWrite (core) (ch) (value) : F.Statement (.chownWrite core ch value) := fun _ h => absurd rfl h
theorem F.postArrive (p) : F.Statement (.postArrive p) := fun _ h => absurd rfl h
theorem F.mwaitWake (core) (m) : F.Statement (.mwaitWake core m) := fun _ h => absurd rfl h
theorem F.msgDeliver (p) : F.Statement (.msgDeliver p) := fun _ h => absurd rfl h
theorem F.sendReply (core) (ctx) (tid) (code) : F.Statement (.sendReply core ctx tid code) := fun _ h => absurd rfl h
theorem F.sendReoffer (core) (ctx) (tid) : F.Statement (.sendReoffer core ctx tid) := fun _ h => absurd rfl h
theorem F.spawnArrive (p) : F.Statement (.spawnArrive p) := fun _ h => absurd rfl h
theorem F.spawnReply (core) (ctx) (tid) (value) : F.Statement (.spawnReply core ctx tid value) := fun _ h => absurd rfl h
theorem F.subRequestArrive (p) : F.Statement (.subRequestArrive p) := fun _ h => absurd rfl h
theorem F.subUpdateApply (core) (entry) (off) (data) (mask) (writers) : F.Statement (.subUpdateApply core entry off data mask writers) := fun _ h => absurd rfl h
theorem F.subLineTimeout (core) (entry) (off) : F.Statement (.subLineTimeout core entry off) := fun _ h => absurd rfl h
theorem F.cbindWrite (core) (m) (value) : F.Statement (.cbindWrite core m value) := fun _ h => absurd rfl h
theorem F.cirqWrite (core) (m) (value) : F.Statement (.cirqWrite core m value) := fun _ h => absurd rfl h
theorem F.counterPageStore (core) (m) (value) (ack) : F.Statement (.counterPageStore core m value ack) := fun _ h => absurd rfl h
theorem F.tmsgArrive (m) : F.Statement (.tmsgArrive m) := fun _ h => absurd rfl h
theorem F.tmsgReoffer (core) (slot) : F.Statement (.tmsgReoffer core slot) := fun _ h => absurd rfl h
theorem F.antiMsgArrive (m) : F.Statement (.antiMsgArrive m) := fun _ h => absurd rfl h
theorem F.gvtStart (procid) : F.Statement (.gvtStart procid) := fun _ h => absurd rfl h
theorem F.gvtPublish (procid) : F.Statement (.gvtPublish procid) := fun _ h => absurd rfl h
theorem F.pdsyncWrite (n) : F.Statement (.pdsyncWrite n) := fun _ h => absurd rfl h
theorem F.qsyncWrite (n) : F.Statement (.qsyncWrite n) := fun _ h => absurd rfl h
theorem F.doorbellWridx (q) (value) : F.Statement (.doorbellWridx q value) := fun _ h => absurd rfl h
theorem F.doorbellRdidx (q) (value) : F.Statement (.doorbellRdidx q value) := fun _ h => absurd rfl h
theorem F.doorbellResume (q) : F.Statement (.doorbellResume q) := fun _ h => absurd rfl h
theorem F.doorbellDrop (q) : F.Statement (.doorbellDrop q) := fun _ h => absurd rfl h
theorem F.queueRead : F.Statement (.queueRead) := fun _ h => absurd rfl h
theorem F.headerRepoll (q) : F.Statement (.headerRepoll q) := fun _ h => absurd rfl h
theorem F.entryStart (procid) : F.Statement (.entryStart procid) := fun _ h => absurd rfl h
theorem F.periodStart (q) : F.Statement (.periodStart q) := fun _ h => absurd rfl h
theorem F.entryComplete (id) : F.Statement (.entryComplete id) := fun _ h => absurd rfl h
theorem F.takeWork (core) : F.Statement (.takeWork core) := fun _ h => absurd rfl h
theorem F.theftRequest (core) (ctx) (victim) (procid) : F.Statement (.theftRequest core ctx victim procid) := fun _ h => absurd rfl h
theorem F.theftReply (core) (ctx) (victim) (procid) (granted) : F.Statement (.theftReply core ctx victim procid granted) := fun _ h => absurd rfl h
theorem F.quantumBoundary (die) : F.Statement (.quantumBoundary die) := fun _ h => absurd rfl h
theorem F.preempt (core) (ctx) : F.Statement (.preempt core ctx) := fun _ h => absurd rfl h
theorem F.allocSwapOut (procid) (cluster) : F.Statement (.allocSwapOut procid cluster) := fun _ h => absurd rfl h
theorem F.allocSwapIn (procid) (cluster) : F.Statement (.allocSwapIn procid cluster) := fun _ h => absurd rfl h
theorem F.nodeFire (launch) (addr) : F.Statement (.nodeFire launch addr) := fun _ h => absurd rfl h
theorem F.nodeComplete (launch) (addr) : F.Statement (.nodeComplete launch addr) := fun _ h => absurd rfl h
theorem F.nodeFault (launch) (addr) (cause) : F.Statement (.nodeFault launch addr cause) := fun _ h => absurd rfl h
theorem F.weightGateOpen (id) : F.Statement (.weightGateOpen id) := fun _ h => absurd rfl h
theorem F.tokenRedivision : F.Statement (.tokenRedivision) := fun _ h => absurd rfl h
theorem F.boundedCostExpire (core) (ctx) (tid) : F.Statement (.boundedCostExpire core ctx tid) := fun _ h => absurd rfl h
theorem F.faultRecordWrite : F.Statement (.faultRecordWrite) := fun _ h => absurd rfl h
theorem F.xrespResume (value) : F.Statement (.xrespResume value) := fun _ h => absurd rfl h
theorem F.xrespResumeAt (value) : F.Statement (.xrespResumeAt value) := fun _ h => absurd rfl h
theorem F.xrespTerminate (value) : F.Statement (.xrespTerminate value) := fun _ h => absurd rfl h
theorem F.hctlStop (dom) : F.Statement (.hctlStop dom) := fun _ h => absurd rfl h
theorem F.hctlRestart (dom) : F.Statement (.hctlRestart dom) := fun _ h => absurd rfl h
theorem F.uncorrectableError (core) (tids) : F.Statement (.uncorrectableError core tids) := fun _ h => absurd rfl h
theorem F.serviceCallStart (die) : F.Statement (.serviceCallStart die) := fun _ h => absurd rfl h
theorem F.sysReply (die) : F.Statement (.sysReply die) := fun _ h => absurd rfl h
theorem F.leaseWrite (port) (value) : F.Statement (.leaseWrite port value) := fun _ h => absurd rfl h
theorem F.leaseExpire : F.Statement (.leaseExpire) := fun _ h => absurd rfl h
theorem F.standbyStoreDrop : F.Statement (.standbyStoreDrop) := fun _ h => absurd rfl h
theorem F.lrchownWrite (k) (value) : F.Statement (.lrchownWrite k value) := fun _ h => absurd rfl h
theorem F.lrChannelStore (k) (value) (ack) : F.Statement (.lrChannelStore k value ack) := fun _ h => absurd rfl h
theorem F.lrPairStart (k) (partner) : F.Statement (.lrPairStart k partner) := fun _ h => absurd rfl h
theorem F.lrComplete (k) : F.Statement (.lrComplete k) := fun _ h => absurd rfl h
theorem F.registerWrite (off) (value) (size) (ack) : F.Statement (.registerWrite off value size ack) := fun _ h => absurd rfl h
theorem F.coldReset (env) : F.Statement (.coldReset env) := fun _ h => absurd rfl h
theorem F.bootctlReset (env) : F.Statement (.bootctlReset env) := fun _ h => absurd rfl h
theorem F.thermalHoldEnter (die) : F.Statement (.thermalHoldEnter die) := fun _ h => absurd rfl h
theorem F.thermalHoldExit (die) : F.Statement (.thermalHoldExit die) := fun _ h => absurd rfl h
theorem F.subReply (p) (code) : F.Statement (.subReply p code) := fun _ h => absurd rfl h
theorem F.peerWindowAccess (core) (ctx) : F.Statement (.peerWindowAccess core ctx) := fun _ h => absurd rfl h
theorem F.weightStoreAccess (core) (ctx) : F.Statement (.weightStoreAccess core ctx) := fun _ h => absurd rfl h
theorem F.counterLoadArrive (core) (ctx) : F.Statement (.counterLoadArrive core ctx) := fun _ h => absurd rfl h
theorem F.translationWalkDone (procid) (priv) (off) : F.Statement (.translationWalkDone procid priv off) := fun _ h => absurd rfl h
theorem F.hostWriteback (port) (pa) (data) (keep) : F.Statement (.hostWriteback port pa data keep) := fun _ h => absurd rfl h
theorem F.add (d) (a) (b) : F.Statement (.add d a b) := fun hw _ rest =>
  decode_of_raw (raw_base rest (fLen_rrr ..) (base_row (op := 0x001) (f := fun w => .ok (.add (fD w) (fA w) (fB w))) (by simp) (fun w h => by rw [decodeBase, h]; rfl) (by simp))) hw
theorem F.sub (d) (a) (b) : F.Statement (.sub d a b) := fun hw _ rest =>
  decode_of_raw (raw_base rest (fLen_rrr ..) (base_row (op := 0x002) (f := fun w => .ok (.sub (fD w) (fA w) (fB w))) (by simp) (fun w h => by rw [decodeBase, h]; rfl) (by simp))) hw
theorem F.mul (d) (a) (b) : F.Statement (.mul d a b) := fun hw _ rest =>
  decode_of_raw (raw_base rest (fLen_rrr ..) (base_row (op := 0x003) (f := fun w => .ok (.mul (fD w) (fA w) (fB w))) (by simp) (fun w h => by rw [decodeBase, h]; rfl) (by simp))) hw
theorem F.mulh (d) (a) (b) : F.Statement (.mulh d a b) := fun hw _ rest =>
  decode_of_raw (raw_base rest (fLen_rrr ..) (base_row (op := 0x004) (f := fun w => .ok (.mulh (fD w) (fA w) (fB w))) (by simp) (fun w h => by rw [decodeBase, h]; rfl) (by simp))) hw
theorem F.mulhu (d) (a) (b) : F.Statement (.mulhu d a b) := fun hw _ rest =>
  decode_of_raw (raw_base rest (fLen_rrr ..) (base_row (op := 0x005) (f := fun w => .ok (.mulhu (fD w) (fA w) (fB w))) (by simp) (fun w h => by rw [decodeBase, h]; rfl) (by simp))) hw
theorem F.div (d) (a) (b) : F.Statement (.div d a b) := fun hw _ rest =>
  decode_of_raw (raw_base rest (fLen_rrr ..) (base_row (op := 0x006) (f := fun w => .ok (.div (fD w) (fA w) (fB w))) (by simp) (fun w h => by rw [decodeBase, h]; rfl) (by simp))) hw
theorem F.divu (d) (a) (b) : F.Statement (.divu d a b) := fun hw _ rest =>
  decode_of_raw (raw_base rest (fLen_rrr ..) (base_row (op := 0x007) (f := fun w => .ok (.divu (fD w) (fA w) (fB w))) (by simp) (fun w h => by rw [decodeBase, h]; rfl) (by simp))) hw
theorem F.rem (d) (a) (b) : F.Statement (.rem d a b) := fun hw _ rest =>
  decode_of_raw (raw_base rest (fLen_rrr ..) (base_row (op := 0x008) (f := fun w => .ok (.rem (fD w) (fA w) (fB w))) (by simp) (fun w h => by rw [decodeBase, h]; rfl) (by simp))) hw
theorem F.remu (d) (a) (b) : F.Statement (.remu d a b) := fun hw _ rest =>
  decode_of_raw (raw_base rest (fLen_rrr ..) (base_row (op := 0x009) (f := fun w => .ok (.remu (fD w) (fA w) (fB w))) (by simp) (fun w h => by rw [decodeBase, h]; rfl) (by simp))) hw
theorem F.and (d) (a) (b) : F.Statement (.and d a b) := fun hw _ rest =>
  decode_of_raw (raw_base rest (fLen_rrr ..) (base_row (op := 0x00A) (f := fun w => .ok (.and (fD w) (fA w) (fB w))) (by simp) (fun w h => by rw [decodeBase, h]; rfl) (by simp))) hw
theorem F.or (d) (a) (b) : F.Statement (.or d a b) := fun hw _ rest =>
  decode_of_raw (raw_base rest (fLen_rrr ..) (base_row (op := 0x00B) (f := fun w => .ok (.or (fD w) (fA w) (fB w))) (by simp) (fun w h => by rw [decodeBase, h]; rfl) (by simp))) hw
theorem F.xor (d) (a) (b) : F.Statement (.xor d a b) := fun hw _ rest =>
  decode_of_raw (raw_base rest (fLen_rrr ..) (base_row (op := 0x00C) (f := fun w => .ok (.xor (fD w) (fA w) (fB w))) (by simp) (fun w h => by rw [decodeBase, h]; rfl) (by simp))) hw
theorem F.andn (d) (a) (b) : F.Statement (.andn d a b) := fun hw _ rest =>
  decode_of_raw (raw_base rest (fLen_rrr ..) (base_row (op := 0x00D) (f := fun w => .ok (.andn (fD w) (fA w) (fB w))) (by simp) (fun w h => by rw [decodeBase, h]; rfl) (by simp))) hw
theorem F.orn (d) (a) (b) : F.Statement (.orn d a b) := fun hw _ rest =>
  decode_of_raw (raw_base rest (fLen_rrr ..) (base_row (op := 0x00E) (f := fun w => .ok (.orn (fD w) (fA w) (fB w))) (by simp) (fun w h => by rw [decodeBase, h]; rfl) (by simp))) hw
theorem F.shl (d) (a) (b) : F.Statement (.shl d a b) := fun hw _ rest =>
  decode_of_raw (raw_base rest (fLen_rrr ..) (base_row (op := 0x00F) (f := fun w => .ok (.shl (fD w) (fA w) (fB w))) (by simp) (fun w h => by rw [decodeBase, h]; rfl) (by simp))) hw
theorem F.shr (d) (a) (b) : F.Statement (.shr d a b) := fun hw _ rest =>
  decode_of_raw (raw_base rest (fLen_rrr ..) (base_row (op := 0x010) (f := fun w => .ok (.shr (fD w) (fA w) (fB w))) (by simp) (fun w h => by rw [decodeBase, h]; rfl) (by simp))) hw
theorem F.sra (d) (a) (b) : F.Statement (.sra d a b) := fun hw _ rest =>
  decode_of_raw (raw_base rest (fLen_rrr ..) (base_row (op := 0x011) (f := fun w => .ok (.sra (fD w) (fA w) (fB w))) (by simp) (fun w h => by rw [decodeBase, h]; rfl) (by simp))) hw
theorem F.rotl (d) (a) (b) : F.Statement (.rotl d a b) := fun hw _ rest =>
  decode_of_raw (raw_base rest (fLen_rrr ..) (base_row (op := 0x012) (f := fun w => .ok (.rotl (fD w) (fA w) (fB w))) (by simp) (fun w h => by rw [decodeBase, h]; rfl) (by simp))) hw
theorem F.min (d) (a) (b) : F.Statement (.min d a b) := fun hw _ rest =>
  decode_of_raw (raw_base rest (fLen_rrr ..) (base_row (op := 0x013) (f := fun w => .ok (.min (fD w) (fA w) (fB w))) (by simp) (fun w h => by rw [decodeBase, h]; rfl) (by simp))) hw
theorem F.max (d) (a) (b) : F.Statement (.max d a b) := fun hw _ rest =>
  decode_of_raw (raw_base rest (fLen_rrr ..) (base_row (op := 0x014) (f := fun w => .ok (.max (fD w) (fA w) (fB w))) (by simp) (fun w h => by rw [decodeBase, h]; rfl) (by simp))) hw
theorem F.minu (d) (a) (b) : F.Statement (.minu d a b) := fun hw _ rest =>
  decode_of_raw (raw_base rest (fLen_rrr ..) (base_row (op := 0x015) (f := fun w => .ok (.minu (fD w) (fA w) (fB w))) (by simp) (fun w h => by rw [decodeBase, h]; rfl) (by simp))) hw
theorem F.maxu (d) (a) (b) : F.Statement (.maxu d a b) := fun hw _ rest =>
  decode_of_raw (raw_base rest (fLen_rrr ..) (base_row (op := 0x016) (f := fun w => .ok (.maxu (fD w) (fA w) (fB w))) (by simp) (fun w h => by rw [decodeBase, h]; rfl) (by simp))) hw
theorem F.addw (d) (a) (b) : F.Statement (.addw d a b) := fun hw _ rest =>
  decode_of_raw (raw_base rest (fLen_rrr ..) (base_row (op := 0x017) (f := fun w => .ok (.addw (fD w) (fA w) (fB w))) (by simp) (fun w h => by rw [decodeBase, h]; rfl) (by simp))) hw
theorem F.subw (d) (a) (b) : F.Statement (.subw d a b) := fun hw _ rest =>
  decode_of_raw (raw_base rest (fLen_rrr ..) (base_row (op := 0x018) (f := fun w => .ok (.subw (fD w) (fA w) (fB w))) (by simp) (fun w h => by rw [decodeBase, h]; rfl) (by simp))) hw
theorem F.mulw (d) (a) (b) : F.Statement (.mulw d a b) := fun hw _ rest =>
  decode_of_raw (raw_base rest (fLen_rrr ..) (base_row (op := 0x019) (f := fun w => .ok (.mulw (fD w) (fA w) (fB w))) (by simp) (fun w h => by rw [decodeBase, h]; rfl) (by simp))) hw
theorem F.shlw (d) (a) (b) : F.Statement (.shlw d a b) := fun hw _ rest =>
  decode_of_raw (raw_base rest (fLen_rrr ..) (base_row (op := 0x01A) (f := fun w => .ok (.shlw (fD w) (fA w) (fB w))) (by simp) (fun w h => by rw [decodeBase, h]; rfl) (by simp))) hw
theorem F.shrw (d) (a) (b) : F.Statement (.shrw d a b) := fun hw _ rest =>
  decode_of_raw (raw_base rest (fLen_rrr ..) (base_row (op := 0x01B) (f := fun w => .ok (.shrw (fD w) (fA w) (fB w))) (by simp) (fun w h => by rw [decodeBase, h]; rfl) (by simp))) hw
theorem F.sraw (d) (a) (b) : F.Statement (.sraw d a b) := fun hw _ rest =>
  decode_of_raw (raw_base rest (fLen_rrr ..) (base_row (op := 0x01C) (f := fun w => .ok (.sraw (fD w) (fA w) (fB w))) (by simp) (fun w h => by rw [decodeBase, h]; rfl) (by simp))) hw
theorem F.bext (d) (a) (b) : F.Statement (.bext d a b) := fun hw _ rest =>
  decode_of_raw (raw_base rest (fLen_rrr ..) (base_row (op := 0x01D) (f := fun w => .ok (.bext (fD w) (fA w) (fB w))) (by simp) (fun w h => by rw [decodeBase, h]; rfl) (by simp))) hw
theorem F.bins (d) (a) (b) : F.Statement (.bins d a b) := fun hw _ rest =>
  decode_of_raw (raw_base rest (fLen_rrr ..) (base_row (op := 0x01E) (f := fun w => .ok (.bins (fD w) (fA w) (fB w))) (by simp) (fun w h => by rw [decodeBase, h]; rfl) (by simp))) hw
theorem F.bset (d) (a) (b) : F.Statement (.bset d a b) := fun hw _ rest =>
  decode_of_raw (raw_base rest (fLen_rrr ..) (base_row (op := 0x01F) (f := fun w => .ok (.bset (fD w) (fA w) (fB w))) (by simp) (fun w h => by rw [decodeBase, h]; rfl) (by simp))) hw
theorem F.bclr (d) (a) (b) : F.Statement (.bclr d a b) := fun hw _ rest =>
  decode_of_raw (raw_base rest (fLen_rrr ..) (base_row (op := 0x020) (f := fun w => .ok (.bclr (fD w) (fA w) (fB w))) (by simp) (fun w h => by rw [decodeBase, h]; rfl) (by simp))) hw
theorem F.seq (d) (a) (b) : F.Statement (.seq d a b) := fun hw _ rest =>
  decode_of_raw (raw_base rest (fLen_rrr ..) (base_row (op := 0x021) (f := fun w => .ok (.seq (fD w) (fA w) (fB w))) (by simp) (fun w h => by rw [decodeBase, h]; rfl) (by simp))) hw
theorem F.sne (d) (a) (b) : F.Statement (.sne d a b) := fun hw _ rest =>
  decode_of_raw (raw_base rest (fLen_rrr ..) (base_row (op := 0x022) (f := fun w => .ok (.sne (fD w) (fA w) (fB w))) (by simp) (fun w h => by rw [decodeBase, h]; rfl) (by simp))) hw
theorem F.slt (d) (a) (b) : F.Statement (.slt d a b) := fun hw _ rest =>
  decode_of_raw (raw_base rest (fLen_rrr ..) (base_row (op := 0x023) (f := fun w => .ok (.slt (fD w) (fA w) (fB w))) (by simp) (fun w h => by rw [decodeBase, h]; rfl) (by simp))) hw
theorem F.sltu (d) (a) (b) : F.Statement (.sltu d a b) := fun hw _ rest =>
  decode_of_raw (raw_base rest (fLen_rrr ..) (base_row (op := 0x024) (f := fun w => .ok (.sltu (fD w) (fA w) (fB w))) (by simp) (fun w h => by rw [decodeBase, h]; rfl) (by simp))) hw
theorem F.sle (d) (a) (b) : F.Statement (.sle d a b) := fun hw _ rest =>
  decode_of_raw (raw_base rest (fLen_rrr ..) (base_row (op := 0x025) (f := fun w => .ok (.sle (fD w) (fA w) (fB w))) (by simp) (fun w h => by rw [decodeBase, h]; rfl) (by simp))) hw
theorem F.sleu (d) (a) (b) : F.Statement (.sleu d a b) := fun hw _ rest =>
  decode_of_raw (raw_base rest (fLen_rrr ..) (base_row (op := 0x026) (f := fun w => .ok (.sleu (fD w) (fA w) (fB w))) (by simp) (fun w h => by rw [decodeBase, h]; rfl) (by simp))) hw
theorem F.not (d) (a) : F.Statement (.not d a) := fun hw _ rest =>
  decode_of_raw (raw_base rest (fLen_rrr ..) (base_row (op := 0x027) (f := fun w => zeroed (fB w = 0) (.not (fD w) (fA w))) (by simp) (fun w h => by rw [decodeBase, h]; rfl) (by simp [zeroed]))) hw
theorem F.neg (d) (a) : F.Statement (.neg d a) := fun hw _ rest =>
  decode_of_raw (raw_base rest (fLen_rrr ..) (base_row (op := 0x028) (f := fun w => zeroed (fB w = 0) (.neg (fD w) (fA w))) (by simp) (fun w h => by rw [decodeBase, h]; rfl) (by simp [zeroed]))) hw
theorem F.clz (d) (a) : F.Statement (.clz d a) := fun hw _ rest =>
  decode_of_raw (raw_base rest (fLen_rrr ..) (base_row (op := 0x029) (f := fun w => zeroed (fB w = 0) (.clz (fD w) (fA w))) (by simp) (fun w h => by rw [decodeBase, h]; rfl) (by simp [zeroed]))) hw
theorem F.ctz (d) (a) : F.Statement (.ctz d a) := fun hw _ rest =>
  decode_of_raw (raw_base rest (fLen_rrr ..) (base_row (op := 0x02A) (f := fun w => zeroed (fB w = 0) (.ctz (fD w) (fA w))) (by simp) (fun w h => by rw [decodeBase, h]; rfl) (by simp [zeroed]))) hw
theorem F.popc (d) (a) : F.Statement (.popc d a) := fun hw _ rest =>
  decode_of_raw (raw_base rest (fLen_rrr ..) (base_row (op := 0x02B) (f := fun w => zeroed (fB w = 0) (.popc (fD w) (fA w))) (by simp) (fun w h => by rw [decodeBase, h]; rfl) (by simp [zeroed]))) hw
theorem F.sextb (d) (a) : F.Statement (.sextb d a) := fun hw _ rest =>
  decode_of_raw (raw_base rest (fLen_rrr ..) (base_row (op := 0x02C) (f := fun w => zeroed (fB w = 0) (.sextb (fD w) (fA w))) (by simp) (fun w h => by rw [decodeBase, h]; rfl) (by simp [zeroed]))) hw
theorem F.sexth (d) (a) : F.Statement (.sexth d a) := fun hw _ rest =>
  decode_of_raw (raw_base rest (fLen_rrr ..) (base_row (op := 0x02D) (f := fun w => zeroed (fB w = 0) (.sexth (fD w) (fA w))) (by simp) (fun w h => by rw [decodeBase, h]; rfl) (by simp [zeroed]))) hw
theorem F.sextw (d) (a) : F.Statement (.sextw d a) := fun hw _ rest =>
  decode_of_raw (raw_base rest (fLen_rrr ..) (base_row (op := 0x02E) (f := fun w => zeroed (fB w = 0) (.sextw (fD w) (fA w))) (by simp) (fun w h => by rw [decodeBase, h]; rfl) (by simp [zeroed]))) hw
theorem F.zextb (d) (a) : F.Statement (.zextb d a) := fun hw _ rest =>
  decode_of_raw (raw_base rest (fLen_rrr ..) (base_row (op := 0x02F) (f := fun w => zeroed (fB w = 0) (.zextb (fD w) (fA w))) (by simp) (fun w h => by rw [decodeBase, h]; rfl) (by simp [zeroed]))) hw
theorem F.zexth (d) (a) : F.Statement (.zexth d a) := fun hw _ rest =>
  decode_of_raw (raw_base rest (fLen_rrr ..) (base_row (op := 0x030) (f := fun w => zeroed (fB w = 0) (.zexth (fD w) (fA w))) (by simp) (fun w h => by rw [decodeBase, h]; rfl) (by simp [zeroed]))) hw
theorem F.zextw (d) (a) : F.Statement (.zextw d a) := fun hw _ rest =>
  decode_of_raw (raw_base rest (fLen_rrr ..) (base_row (op := 0x031) (f := fun w => zeroed (fB w = 0) (.zextw (fD w) (fA w))) (by simp) (fun w h => by rw [decodeBase, h]; rfl) (by simp [zeroed]))) hw
theorem F.bswap (d) (a) : F.Statement (.bswap d a) := fun hw _ rest =>
  decode_of_raw (raw_base rest (fLen_rrr ..) (base_row (op := 0x032) (f := fun w => zeroed (fB w = 0) (.bswap (fD w) (fA w))) (by simp) (fun w h => by rw [decodeBase, h]; rfl) (by simp [zeroed]))) hw
theorem F.addi (d) (a) (i) : F.Statement (.addi d a i) := fun hw _ rest =>
  decode_of_raw (raw_base rest (fLen_rrr ..) (base_row (op := 0x033) (f := fun w => .ok (.addi (fD w) (fA w) (fB w))) (by simp) (fun w h => by rw [decodeBase, h]; rfl) (by simp))) hw
theorem F.andi (d) (a) (i) : F.Statement (.andi d a i) := fun hw _ rest =>
  decode_of_raw (raw_base rest (fLen_rrr ..) (base_row (op := 0x034) (f := fun w => .ok (.andi (fD w) (fA w) (fB w))) (by simp) (fun w h => by rw [decodeBase, h]; rfl) (by simp))) hw
theorem F.ori (d) (a) (i) : F.Statement (.ori d a i) := fun hw _ rest =>
  decode_of_raw (raw_base rest (fLen_rrr ..) (base_row (op := 0x035) (f := fun w => .ok (.ori (fD w) (fA w) (fB w))) (by simp) (fun w h => by rw [decodeBase, h]; rfl) (by simp))) hw
theorem F.xori (d) (a) (i) : F.Statement (.xori d a i) := fun hw _ rest =>
  decode_of_raw (raw_base rest (fLen_rrr ..) (base_row (op := 0x036) (f := fun w => .ok (.xori (fD w) (fA w) (fB w))) (by simp) (fun w h => by rw [decodeBase, h]; rfl) (by simp))) hw
theorem F.shli (d) (a) (i) : F.Statement (.shli d a i) := fun hw _ rest =>
  decode_of_raw (raw_base rest (fLen_rrr ..) (base_row (op := 0x037) (f := fun w => .ok (.shli (fD w) (fA w) (fB w))) (by simp) (fun w h => by rw [decodeBase, h]; rfl) (by simp))) hw
theorem F.shri (d) (a) (i) : F.Statement (.shri d a i) := fun hw _ rest =>
  decode_of_raw (raw_base rest (fLen_rrr ..) (base_row (op := 0x038) (f := fun w => .ok (.shri (fD w) (fA w) (fB w))) (by simp) (fun w h => by rw [decodeBase, h]; rfl) (by simp))) hw
theorem F.srai (d) (a) (i) : F.Statement (.srai d a i) := fun hw _ rest =>
  decode_of_raw (raw_base rest (fLen_rrr ..) (base_row (op := 0x039) (f := fun w => .ok (.srai (fD w) (fA w) (fB w))) (by simp) (fun w h => by rw [decodeBase, h]; rfl) (by simp))) hw
theorem F.rotli (d) (a) (i) : F.Statement (.rotli d a i) := fun hw _ rest =>
  decode_of_raw (raw_base rest (fLen_rrr ..) (base_row (op := 0x03A) (f := fun w => .ok (.rotli (fD w) (fA w) (fB w))) (by simp) (fun w h => by rw [decodeBase, h]; rfl) (by simp))) hw
theorem F.muli (d) (a) (i) : F.Statement (.muli d a i) := fun hw _ rest =>
  decode_of_raw (raw_base rest (fLen_rrr ..) (base_row (op := 0x03B) (f := fun w => .ok (.muli (fD w) (fA w) (fB w))) (by simp) (fun w h => by rw [decodeBase, h]; rfl) (by simp))) hw
theorem F.li (d) (i) : F.Statement (.li d i) := fun hw _ rest =>
  decode_of_raw (raw_base rest (fLen_ri ..) (base_row (op := 0x03C) (f := fun w => .ok (.li (fD w) (fI14 w))) (by simp) (fun w h => by rw [decodeBase, h]; rfl) (by simp))) hw
theorem F.lpc (d) (i) : F.Statement (.lpc d i) := fun hw _ rest =>
  decode_of_raw (raw_base rest (fLen_ri ..) (base_row (op := 0x03D) (f := fun w => .ok (.lpc (fD w) (fI14 w))) (by simp) (fun w h => by rw [decodeBase, h]; rfl) (by simp))) hw
theorem F.skp (a) (b) (cc) (k) (ib) : F.Statement (.skp a b cc k ib) := fun hw _ rest =>
  decode_of_raw (raw_base rest (fLen_cs ..) (base_row (op := 0x03E) (f := fun w => .ok (.skp (fD w) (fA w) (fCC w) (fK w) (fIB w))) (by simp) (fun w h => by rw [decodeBase, h]; rfl) (by simp))) hw
theorem F.br (i) : F.Statement (.br i) := fun hw _ rest =>
  decode_of_raw (raw_base rest (fLen_j ..) (base_row (op := 0x03F) (f := fun w => .ok (.br (fI21 w))) (by simp) (fun w h => by rw [decodeBase, h]; rfl) (by simp))) hw
theorem F.call (i) : F.Statement (.call i) := fun hw _ rest =>
  decode_of_raw (raw_base rest (fLen_j ..) (base_row (op := 0x040) (f := fun w => .ok (.call (fI21 w))) (by simp) (fun w h => by rw [decodeBase, h]; rfl) (by simp))) hw
theorem F.jmp (a) (i) : F.Statement (.jmp a i) := fun hw _ rest =>
  decode_of_raw (raw_base rest (fLen_rrr ..) (base_row (op := 0x041) (f := fun w => zeroed (fD w = 0) (.jmp (fA w) (fB w))) (by simp) (fun w h => by rw [decodeBase, h]; rfl) (by simp [zeroed]))) hw
theorem F.callr (d) (a) (i) : F.Statement (.callr d a i) := fun hw _ rest =>
  decode_of_raw (raw_base rest (fLen_rrr ..) (base_row (op := 0x042) (f := fun w => .ok (.callr (fD w) (fA w) (fB w))) (by simp) (fun w h => by rw [decodeBase, h]; rfl) (by simp))) hw
theorem F.ret : F.Statement (.ret) := fun hw _ rest =>
  decode_of_raw (raw_base rest (fLen_rrr ..) (base_row (op := 0x043) (f := fun w => zeroed (fI21 w = 0) (.ret)) (by simp) (fun w h => by rw [decodeBase, h]; rfl) (by simp [zeroed]))) hw
theorem F.dbnz (d) (i) : F.Statement (.dbnz d i) := fun hw _ rest =>
  decode_of_raw (raw_base rest (fLen_ri ..) (base_row (op := 0x044) (f := fun w => .ok (.dbnz (fD w) (fI14 w))) (by simp) (fun w h => by rw [decodeBase, h]; rfl) (by simp))) hw
theorem F.mfs (d) (i) : F.Statement (.mfs d i) := fun hw _ rest =>
  decode_of_raw (raw_base rest (fLen_ri ..) (base_row (op := 0x045) (f := fun w => .ok (.mfs (fD w) (fI14 w))) (by simp) (fun w h => by rw [decodeBase, h]; rfl) (by simp))) hw
theorem F.mts (d) (i) : F.Statement (.mts d i) := fun hw _ rest =>
  decode_of_raw (raw_base rest (fLen_ri ..) (base_row (op := 0x046) (f := fun w => .ok (.mts (fD w) (fI14 w))) (by simp) (fun w h => by rw [decodeBase, h]; rfl) (by simp))) hw
theorem F.fset (d) : F.Statement (.fset d) := fun hw _ rest =>
  decode_of_raw (raw_base rest (fLen_rrr ..) (base_row (op := 0x047) (f := fun w => zeroed (fB w = 0 ∧ fA w = 0) (.fset (fD w))) (by simp) (fun w h => by rw [decodeBase, h]; rfl) (by simp [zeroed]))) hw
theorem F.fclr (d) : F.Statement (.fclr d) := fun hw _ rest =>
  decode_of_raw (raw_base rest (fLen_rrr ..) (base_row (op := 0x048) (f := fun w => zeroed (fB w = 0 ∧ fA w = 0) (.fclr (fD w))) (by simp) (fun w h => by rw [decodeBase, h]; rfl) (by simp [zeroed]))) hw
theorem F.ldb (d) (a) (sp) (i) : F.Statement (.ldb d a sp i) := fun hw _ rest =>
  decode_of_raw (raw_base rest (fLen_m ..) (base_row (op := 0x050) (f := fun w => .ok (.ldb (fD w) (fA w) (fSP w) (fI5 w))) (by simp) (fun w h => by rw [decodeBase, h]; rfl) (by simp))) hw
theorem F.ldbu (d) (a) (sp) (i) : F.Statement (.ldbu d a sp i) := fun hw _ rest =>
  decode_of_raw (raw_base rest (fLen_m ..) (base_row (op := 0x051) (f := fun w => .ok (.ldbu (fD w) (fA w) (fSP w) (fI5 w))) (by simp) (fun w h => by rw [decodeBase, h]; rfl) (by simp))) hw
theorem F.ldh (d) (a) (sp) (i) : F.Statement (.ldh d a sp i) := fun hw _ rest =>
  decode_of_raw (raw_base rest (fLen_m ..) (base_row (op := 0x052) (f := fun w => .ok (.ldh (fD w) (fA w) (fSP w) (fI5 w))) (by simp) (fun w h => by rw [decodeBase, h]; rfl) (by simp))) hw
theorem F.ldhu (d) (a) (sp) (i) : F.Statement (.ldhu d a sp i) := fun hw _ rest =>
  decode_of_raw (raw_base rest (fLen_m ..) (base_row (op := 0x053) (f := fun w => .ok (.ldhu (fD w) (fA w) (fSP w) (fI5 w))) (by simp) (fun w h => by rw [decodeBase, h]; rfl) (by simp))) hw
theorem F.ldw (d) (a) (sp) (i) : F.Statement (.ldw d a sp i) := fun hw _ rest =>
  decode_of_raw (raw_base rest (fLen_m ..) (base_row (op := 0x054) (f := fun w => .ok (.ldw (fD w) (fA w) (fSP w) (fI5 w))) (by simp) (fun w h => by rw [decodeBase, h]; rfl) (by simp))) hw
theorem F.ldwu (d) (a) (sp) (i) : F.Statement (.ldwu d a sp i) := fun hw _ rest =>
  decode_of_raw (raw_base rest (fLen_m ..) (base_row (op := 0x055) (f := fun w => .ok (.ldwu (fD w) (fA w) (fSP w) (fI5 w))) (by simp) (fun w h => by rw [decodeBase, h]; rfl) (by simp))) hw
theorem F.ldd (d) (a) (sp) (i) : F.Statement (.ldd d a sp i) := fun hw _ rest =>
  decode_of_raw (raw_base rest (fLen_m ..) (base_row (op := 0x056) (f := fun w => .ok (.ldd (fD w) (fA w) (fSP w) (fI5 w))) (by simp) (fun w h => by rw [decodeBase, h]; rfl) (by simp))) hw
theorem F.stb (d) (a) (sp) (i) : F.Statement (.stb d a sp i) := fun hw _ rest =>
  decode_of_raw (raw_base rest (fLen_m ..) (base_row (op := 0x057) (f := fun w => .ok (.stb (fD w) (fA w) (fSP w) (fI5 w))) (by simp) (fun w h => by rw [decodeBase, h]; rfl) (by simp))) hw
theorem F.sth (d) (a) (sp) (i) : F.Statement (.sth d a sp i) := fun hw _ rest =>
  decode_of_raw (raw_base rest (fLen_m ..) (base_row (op := 0x058) (f := fun w => .ok (.sth (fD w) (fA w) (fSP w) (fI5 w))) (by simp) (fun w h => by rw [decodeBase, h]; rfl) (by simp))) hw
theorem F.stw (d) (a) (sp) (i) : F.Statement (.stw d a sp i) := fun hw _ rest =>
  decode_of_raw (raw_base rest (fLen_m ..) (base_row (op := 0x059) (f := fun w => .ok (.stw (fD w) (fA w) (fSP w) (fI5 w))) (by simp) (fun w h => by rw [decodeBase, h]; rfl) (by simp))) hw
theorem F.std (d) (a) (sp) (i) : F.Statement (.std d a sp i) := fun hw _ rest =>
  decode_of_raw (raw_base rest (fLen_m ..) (base_row (op := 0x05A) (f := fun w => .ok (.std (fD w) (fA w) (fSP w) (fI5 w))) (by simp) (fun w h => by rw [decodeBase, h]; rfl) (by simp))) hw
theorem F.ldp (d) (a) (sp) (i) : F.Statement (.ldp d a sp i) := fun hw _ rest =>
  decode_of_raw (raw_base rest (fLen_m ..) (base_row (op := 0x05B) (f := fun w => .ok (.ldp (fD w) (fA w) (fSP w) (fI5 w))) (by simp) (fun w h => by rw [decodeBase, h]; rfl) (by simp))) hw
theorem F.stp (d) (a) (sp) (i) : F.Statement (.stp d a sp i) := fun hw _ rest =>
  decode_of_raw (raw_base rest (fLen_m ..) (base_row (op := 0x05C) (f := fun w => .ok (.stp (fD w) (fA w) (fSP w) (fI5 w))) (by simp) (fun w h => by rw [decodeBase, h]; rfl) (by simp))) hw
theorem F.ldf (d) (a) (sp) (i) : F.Statement (.ldf d a sp i) := fun hw _ rest =>
  decode_of_raw (raw_base rest (fLen_m ..) (base_row (op := 0x05D) (f := fun w => .ok (.ldf (fD w) (fA w) (fSP w) (fI5 w))) (by simp) (fun w h => by rw [decodeBase, h]; rfl) (by simp))) hw
theorem F.ldfw (d) (a) (sp) (i) : F.Statement (.ldfw d a sp i) := fun hw _ rest =>
  decode_of_raw (raw_base rest (fLen_m ..) (base_row (op := 0x05E) (f := fun w => .ok (.ldfw (fD w) (fA w) (fSP w) (fI5 w))) (by simp) (fun w h => by rw [decodeBase, h]; rfl) (by simp))) hw
theorem F.wtne (d) (a) (sp) (i) : F.Statement (.wtne d a sp i) := fun hw _ rest =>
  decode_of_raw (raw_base rest (fLen_m ..) (base_row (op := 0x061) (f := fun w => .ok (.wtne (fD w) (fA w) (fSP w) (fI5 w))) (by simp) (fun w h => by rw [decodeBase, h]; rfl) (by simp))) hw
theorem F.pin (a) (sp) (i) : F.Statement (.pin a sp i) := fun hw _ rest =>
  decode_of_raw (raw_base rest (fLen_m ..) (base_row (op := 0x062) (f := fun w => zeroed (fD w = 0) (.pin (fA w) (fSP w) (fI5 w))) (by simp) (fun w h => by rw [decodeBase, h]; rfl) (by simp [zeroed]))) hw
theorem F.unpin (a) (sp) (i) : F.Statement (.unpin a sp i) := fun hw _ rest =>
  decode_of_raw (raw_base rest (fLen_m ..) (base_row (op := 0x063) (f := fun w => zeroed (fD w = 0) (.unpin (fA w) (fSP w) (fI5 w))) (by simp) (fun w h => by rw [decodeBase, h]; rfl) (by simp [zeroed]))) hw
theorem F.flush (a) (sp) (i) : F.Statement (.flush a sp i) := fun hw _ rest =>
  decode_of_raw (raw_base rest (fLen_m ..) (base_row (op := 0x064) (f := fun w => zeroed (fD w = 0) (.flush (fA w) (fSP w) (fI5 w))) (by simp) (fun w h => by rw [decodeBase, h]; rfl) (by simp [zeroed]))) hw
theorem F.pref (a) (sp) (i) : F.Statement (.pref a sp i) := fun hw _ rest =>
  decode_of_raw (raw_base rest (fLen_m ..) (base_row (op := 0x065) (f := fun w => zeroed (fD w = 0) (.pref (fA w) (fSP w) (fI5 w))) (by simp) (fun w h => by rw [decodeBase, h]; rfl) (by simp [zeroed]))) hw
theorem F.alloc (d) (a) : F.Statement (.alloc d a) := fun hw _ rest =>
  decode_of_raw (raw_base rest (fLen_rrr ..) (base_row (op := 0x066) (f := fun w => zeroed (fB w = 0) (.alloc (fD w) (fA w))) (by simp) (fun w h => by rw [decodeBase, h]; rfl) (by simp [zeroed]))) hw
theorem F.free (a) : F.Statement (.free a) := fun hw _ rest =>
  decode_of_raw (raw_base rest (fLen_rrr ..) (base_row (op := 0x067) (f := fun w => zeroed (fB w = 0 ∧ fD w = 0) (.free (fA w))) (by simp) (fun w h => by rw [decodeBase, h]; rfl) (by simp [zeroed]))) hw
theorem F.go (a) (sp) (i) : F.Statement (.go a sp i) := fun hw _ rest =>
  decode_of_raw (raw_base rest (fLen_m ..) (base_row (op := 0x068) (f := fun w => zeroed (fD w = 0) (.go (fA w) (fSP w) (fI5 w))) (by simp) (fun w h => by rw [decodeBase, h]; rfl) (by simp [zeroed]))) hw
theorem F.bara (i) : F.Statement (.bara i) := fun hw _ rest =>
  decode_of_raw (raw_base rest (fLen_ri ..) (base_row (op := 0x069) (f := fun w => zeroed (fD w = 0) (.bara (fI14 w))) (by simp) (fun w h => by rw [decodeBase, h]; rfl) (by simp [zeroed]))) hw
theorem F.barw (i) : F.Statement (.barw i) := fun hw _ rest =>
  decode_of_raw (raw_base rest (fLen_ri ..) (base_row (op := 0x06A) (f := fun w => zeroed (fD w = 0) (.barw (fI14 w))) (by simp) (fun w h => by rw [decodeBase, h]; rfl) (by simp [zeroed]))) hw
theorem F.barset (a) (i) : F.Statement (.barset a i) := fun hw _ rest =>
  decode_of_raw (raw_base rest (fLen_rrr ..) (base_row (op := 0x06B) (f := fun w => zeroed (fD w = 0) (.barset (fA w) (fB w))) (by simp) (fun w h => by rw [decodeBase, h]; rfl) (by simp [zeroed]))) hw
theorem F.wsref (d) : F.Statement (.wsref d) := fun hw _ rest =>
  decode_of_raw (raw_base rest (fLen_rrr ..) (base_row (op := 0x1C8) (f := fun w => zeroed (fB w = 0 ∧ fA w = 0) (.wsref (fD w))) (by simp) (fun w h => by rw [decodeBase, h]; rfl) (by simp [zeroed]))) hw
theorem F.join (a) : F.Statement (.join a) := fun hw _ rest =>
  decode_of_raw (raw_base rest (fLen_rrr ..) (base_row (op := 0x101) (f := fun w => zeroed (fB w = 0 ∧ fD w = 0) (.join (fA w))) (by simp) (fun w h => by rw [decodeBase, h]; rfl) (by simp [zeroed]))) hw
theorem F.exit : F.Statement (.exit) := fun hw _ rest =>
  decode_of_raw (raw_base rest (fLen_rrr ..) (base_row (op := 0x102) (f := fun w => zeroed (fI21 w = 0) (.exit)) (by simp) (fun w h => by rw [decodeBase, h]; rfl) (by simp [zeroed]))) hw
theorem F.yield : F.Statement (.yield) := fun hw _ rest =>
  decode_of_raw (raw_base rest (fLen_rrr ..) (base_row (op := 0x103) (f := fun w => zeroed (fI21 w = 0) (.yield)) (by simp) (fun w h => by rw [decodeBase, h]; rfl) (by simp [zeroed]))) hw
theorem F.ndone (a) : F.Statement (.ndone a) := fun hw _ rest =>
  decode_of_raw (raw_base rest (fLen_rrr ..) (base_row (op := 0x104) (f := fun w => zeroed (fB w = 0 ∧ fD w = 0) (.ndone (fA w))) (by simp) (fun w h => by rw [decodeBase, h]; rfl) (by simp [zeroed]))) hw
theorem F.trap (i) : F.Statement (.trap i) := fun hw _ rest =>
  decode_of_raw (raw_base rest (fLen_ri ..) (base_row (op := 0x1C0) (f := fun w => zeroed (fD w = 0) (.trap (fI14 w))) (by simp) (fun w h => by rw [decodeBase, h]; rfl) (by simp [zeroed]))) hw
theorem F.sys (i) : F.Statement (.sys i) := fun hw _ rest =>
  decode_of_raw (raw_base rest (fLen_ri ..) (base_row (op := 0x1C1) (f := fun w => zeroed (fD w = 0) (.sys (fI14 w))) (by simp) (fun w h => by rw [decodeBase, h]; rfl) (by simp [zeroed]))) hw
theorem F.eret : F.Statement (.eret) := fun hw _ rest =>
  decode_of_raw (raw_base rest (fLen_rrr ..) (base_row (op := 0x1C2) (f := fun w => zeroed (fI21 w = 0) (.eret)) (by simp) (fun w h => by rw [decodeBase, h]; rfl) (by simp [zeroed]))) hw
theorem F.halt : F.Statement (.halt) := fun hw _ rest =>
  decode_of_raw (raw_base rest (fLen_rrr ..) (base_row (op := 0x1C3) (f := fun w => zeroed (fI21 w = 0) (.halt)) (by simp) (fun w h => by rw [decodeBase, h]; rfl) (by simp [zeroed]))) hw
theorem F.brk : F.Statement (.brk) := fun hw _ rest =>
  decode_of_raw (raw_base rest (fLen_rrr ..) (base_row (op := 0x1C4) (f := fun w => zeroed (fI21 w = 0) (.brk)) (by simp) (fun w h => by rw [decodeBase, h]; rfl) (by simp [zeroed]))) hw
theorem F.rfpart (i) : F.Statement (.rfpart i) := fun hw _ rest =>
  decode_of_raw (raw_base rest (fLen_ri ..) (base_row (op := 0x1C5) (f := fun w => zeroed (fD w = 0) (.rfpart (fI14 w))) (by simp) (fun w h => by rw [decodeBase, h]; rfl) (by simp [zeroed]))) hw
theorem F.wmask (i) : F.Statement (.wmask i) := fun hw _ rest =>
  decode_of_raw (raw_base rest (fLen_ri ..) (base_row (op := 0x1C6) (f := fun w => zeroed (fD w = 0) (.wmask (fI14 w))) (by simp) (fun w h => by rw [decodeBase, h]; rfl) (by simp [zeroed]))) hw
theorem F.ctrrd (d) (a) : F.Statement (.ctrrd d a) := fun hw _ rest =>
  decode_of_raw (raw_base rest (fLen_rrr ..) (base_row (op := 0x1C9) (f := fun w => zeroed (fB w = 0) (.ctrrd (fD w) (fA w))) (by simp) (fun w h => by rw [decodeBase, h]; rfl) (by simp [zeroed]))) hw
theorem F.ctrcfg (a) (b) : F.Statement (.ctrcfg a b) := fun hw _ rest =>
  decode_of_raw (raw_base rest (fLen_rrr ..) (base_row (op := 0x1CA) (f := fun w => zeroed (fD w = 0) (.ctrcfg (fA w) (fB w))) (by simp) (fun w h => by rw [decodeBase, h]; rfl) (by simp [zeroed]))) hw
theorem F.addX (e) : F.Statement (.addX e) := fun hw _ rest =>
  decode_of_raw (raw_ext rest (by decide) rfl (no_lit rfl rfl rfl hw)) hw
theorem F.subX (e) : F.Statement (.subX e) := fun hw _ rest =>
  decode_of_raw (raw_ext rest (by decide) rfl (no_lit rfl rfl rfl hw)) hw
theorem F.mulX (e) : F.Statement (.mulX e) := fun hw _ rest =>
  decode_of_raw (raw_ext rest (by decide) rfl (no_lit rfl rfl rfl hw)) hw
theorem F.mulhX (e) : F.Statement (.mulhX e) := fun hw _ rest =>
  decode_of_raw (raw_ext rest (by decide) rfl (no_lit rfl rfl rfl hw)) hw
theorem F.mulhuX (e) : F.Statement (.mulhuX e) := fun hw _ rest =>
  decode_of_raw (raw_ext rest (by decide) rfl (no_lit rfl rfl rfl hw)) hw
theorem F.divX (e) : F.Statement (.divX e) := fun hw _ rest =>
  decode_of_raw (raw_ext rest (by decide) rfl (no_lit rfl rfl rfl hw)) hw
theorem F.divuX (e) : F.Statement (.divuX e) := fun hw _ rest =>
  decode_of_raw (raw_ext rest (by decide) rfl (no_lit rfl rfl rfl hw)) hw
theorem F.remX (e) : F.Statement (.remX e) := fun hw _ rest =>
  decode_of_raw (raw_ext rest (by decide) rfl (no_lit rfl rfl rfl hw)) hw
theorem F.remuX (e) : F.Statement (.remuX e) := fun hw _ rest =>
  decode_of_raw (raw_ext rest (by decide) rfl (no_lit rfl rfl rfl hw)) hw
theorem F.andX (e) : F.Statement (.andX e) := fun hw _ rest =>
  decode_of_raw (raw_ext rest (by decide) rfl (no_lit rfl rfl rfl hw)) hw
theorem F.orX (e) : F.Statement (.orX e) := fun hw _ rest =>
  decode_of_raw (raw_ext rest (by decide) rfl (no_lit rfl rfl rfl hw)) hw
theorem F.xorX (e) : F.Statement (.xorX e) := fun hw _ rest =>
  decode_of_raw (raw_ext rest (by decide) rfl (no_lit rfl rfl rfl hw)) hw
theorem F.andnX (e) : F.Statement (.andnX e) := fun hw _ rest =>
  decode_of_raw (raw_ext rest (by decide) rfl (no_lit rfl rfl rfl hw)) hw
theorem F.ornX (e) : F.Statement (.ornX e) := fun hw _ rest =>
  decode_of_raw (raw_ext rest (by decide) rfl (no_lit rfl rfl rfl hw)) hw
theorem F.shlX (e) : F.Statement (.shlX e) := fun hw _ rest =>
  decode_of_raw (raw_ext rest (by decide) rfl (no_lit rfl rfl rfl hw)) hw
theorem F.shrX (e) : F.Statement (.shrX e) := fun hw _ rest =>
  decode_of_raw (raw_ext rest (by decide) rfl (no_lit rfl rfl rfl hw)) hw
theorem F.sraX (e) : F.Statement (.sraX e) := fun hw _ rest =>
  decode_of_raw (raw_ext rest (by decide) rfl (no_lit rfl rfl rfl hw)) hw
theorem F.rotlX (e) : F.Statement (.rotlX e) := fun hw _ rest =>
  decode_of_raw (raw_ext rest (by decide) rfl (no_lit rfl rfl rfl hw)) hw
theorem F.minX (e) : F.Statement (.minX e) := fun hw _ rest =>
  decode_of_raw (raw_ext rest (by decide) rfl (no_lit rfl rfl rfl hw)) hw
theorem F.maxX (e) : F.Statement (.maxX e) := fun hw _ rest =>
  decode_of_raw (raw_ext rest (by decide) rfl (no_lit rfl rfl rfl hw)) hw
theorem F.minuX (e) : F.Statement (.minuX e) := fun hw _ rest =>
  decode_of_raw (raw_ext rest (by decide) rfl (no_lit rfl rfl rfl hw)) hw
theorem F.maxuX (e) : F.Statement (.maxuX e) := fun hw _ rest =>
  decode_of_raw (raw_ext rest (by decide) rfl (no_lit rfl rfl rfl hw)) hw
theorem F.addwX (e) : F.Statement (.addwX e) := fun hw _ rest =>
  decode_of_raw (raw_ext rest (by decide) rfl (no_lit rfl rfl rfl hw)) hw
theorem F.subwX (e) : F.Statement (.subwX e) := fun hw _ rest =>
  decode_of_raw (raw_ext rest (by decide) rfl (no_lit rfl rfl rfl hw)) hw
theorem F.mulwX (e) : F.Statement (.mulwX e) := fun hw _ rest =>
  decode_of_raw (raw_ext rest (by decide) rfl (no_lit rfl rfl rfl hw)) hw
theorem F.shlwX (e) : F.Statement (.shlwX e) := fun hw _ rest =>
  decode_of_raw (raw_ext rest (by decide) rfl (no_lit rfl rfl rfl hw)) hw
theorem F.shrwX (e) : F.Statement (.shrwX e) := fun hw _ rest =>
  decode_of_raw (raw_ext rest (by decide) rfl (no_lit rfl rfl rfl hw)) hw
theorem F.srawX (e) : F.Statement (.srawX e) := fun hw _ rest =>
  decode_of_raw (raw_ext rest (by decide) rfl (no_lit rfl rfl rfl hw)) hw
theorem F.bextX (e) : F.Statement (.bextX e) := fun hw _ rest =>
  decode_of_raw (raw_ext rest (by decide) rfl (no_lit rfl rfl rfl hw)) hw
theorem F.binsX (e) : F.Statement (.binsX e) := fun hw _ rest =>
  decode_of_raw (raw_ext rest (by decide) rfl (no_lit rfl rfl rfl hw)) hw
theorem F.bsetX (e) : F.Statement (.bsetX e) := fun hw _ rest =>
  decode_of_raw (raw_ext rest (by decide) rfl (no_lit rfl rfl rfl hw)) hw
theorem F.bclrX (e) : F.Statement (.bclrX e) := fun hw _ rest =>
  decode_of_raw (raw_ext rest (by decide) rfl (no_lit rfl rfl rfl hw)) hw
theorem F.seqX (e) : F.Statement (.seqX e) := fun hw _ rest =>
  decode_of_raw (raw_ext rest (by decide) rfl (no_lit rfl rfl rfl hw)) hw
theorem F.sneX (e) : F.Statement (.sneX e) := fun hw _ rest =>
  decode_of_raw (raw_ext rest (by decide) rfl (no_lit rfl rfl rfl hw)) hw
theorem F.sltX (e) : F.Statement (.sltX e) := fun hw _ rest =>
  decode_of_raw (raw_ext rest (by decide) rfl (no_lit rfl rfl rfl hw)) hw
theorem F.sltuX (e) : F.Statement (.sltuX e) := fun hw _ rest =>
  decode_of_raw (raw_ext rest (by decide) rfl (no_lit rfl rfl rfl hw)) hw
theorem F.sleX (e) : F.Statement (.sleX e) := fun hw _ rest =>
  decode_of_raw (raw_ext rest (by decide) rfl (no_lit rfl rfl rfl hw)) hw
theorem F.sleuX (e) : F.Statement (.sleuX e) := fun hw _ rest =>
  decode_of_raw (raw_ext rest (by decide) rfl (no_lit rfl rfl rfl hw)) hw
theorem F.notX (e) : F.Statement (.notX e) := fun hw _ rest =>
  decode_of_raw (raw_ext rest (by decide) rfl (no_lit rfl rfl rfl hw)) hw
theorem F.negX (e) : F.Statement (.negX e) := fun hw _ rest =>
  decode_of_raw (raw_ext rest (by decide) rfl (no_lit rfl rfl rfl hw)) hw
theorem F.clzX (e) : F.Statement (.clzX e) := fun hw _ rest =>
  decode_of_raw (raw_ext rest (by decide) rfl (no_lit rfl rfl rfl hw)) hw
theorem F.ctzX (e) : F.Statement (.ctzX e) := fun hw _ rest =>
  decode_of_raw (raw_ext rest (by decide) rfl (no_lit rfl rfl rfl hw)) hw
theorem F.popcX (e) : F.Statement (.popcX e) := fun hw _ rest =>
  decode_of_raw (raw_ext rest (by decide) rfl (no_lit rfl rfl rfl hw)) hw
theorem F.sextbX (e) : F.Statement (.sextbX e) := fun hw _ rest =>
  decode_of_raw (raw_ext rest (by decide) rfl (no_lit rfl rfl rfl hw)) hw
theorem F.sexthX (e) : F.Statement (.sexthX e) := fun hw _ rest =>
  decode_of_raw (raw_ext rest (by decide) rfl (no_lit rfl rfl rfl hw)) hw
theorem F.sextwX (e) : F.Statement (.sextwX e) := fun hw _ rest =>
  decode_of_raw (raw_ext rest (by decide) rfl (no_lit rfl rfl rfl hw)) hw
theorem F.zextbX (e) : F.Statement (.zextbX e) := fun hw _ rest =>
  decode_of_raw (raw_ext rest (by decide) rfl (no_lit rfl rfl rfl hw)) hw
theorem F.zexthX (e) : F.Statement (.zexthX e) := fun hw _ rest =>
  decode_of_raw (raw_ext rest (by decide) rfl (no_lit rfl rfl rfl hw)) hw
theorem F.zextwX (e) : F.Statement (.zextwX e) := fun hw _ rest =>
  decode_of_raw (raw_ext rest (by decide) rfl (no_lit rfl rfl rfl hw)) hw
theorem F.bswapX (e) : F.Statement (.bswapX e) := fun hw _ rest =>
  decode_of_raw (raw_ext rest (by decide) rfl (no_lit rfl rfl rfl hw)) hw
theorem F.addiX (e) : F.Statement (.addiX e) := fun hw _ rest =>
  decode_of_raw (raw_ext rest (by decide) rfl (lit_rri (mk := .addiX) rfl rfl (by decide) rfl rfl hw (fun w v h => by rw [decodeLit, h]; rfl))) hw
theorem F.andiX (e) : F.Statement (.andiX e) := fun hw _ rest =>
  decode_of_raw (raw_ext rest (by decide) rfl (lit_rri (mk := .andiX) rfl rfl (by decide) rfl rfl hw (fun w v h => by rw [decodeLit, h]; rfl))) hw
theorem F.oriX (e) : F.Statement (.oriX e) := fun hw _ rest =>
  decode_of_raw (raw_ext rest (by decide) rfl (lit_rri (mk := .oriX) rfl rfl (by decide) rfl rfl hw (fun w v h => by rw [decodeLit, h]; rfl))) hw
theorem F.xoriX (e) : F.Statement (.xoriX e) := fun hw _ rest =>
  decode_of_raw (raw_ext rest (by decide) rfl (lit_rri (mk := .xoriX) rfl rfl (by decide) rfl rfl hw (fun w v h => by rw [decodeLit, h]; rfl))) hw
theorem F.shliX (e) : F.Statement (.shliX e) := fun hw _ rest =>
  decode_of_raw (raw_ext rest (by decide) rfl (lit_rri (mk := .shliX) rfl rfl (by decide) rfl rfl hw (fun w v h => by rw [decodeLit, h]; rfl))) hw
theorem F.shriX (e) : F.Statement (.shriX e) := fun hw _ rest =>
  decode_of_raw (raw_ext rest (by decide) rfl (lit_rri (mk := .shriX) rfl rfl (by decide) rfl rfl hw (fun w v h => by rw [decodeLit, h]; rfl))) hw
theorem F.sraiX (e) : F.Statement (.sraiX e) := fun hw _ rest =>
  decode_of_raw (raw_ext rest (by decide) rfl (lit_rri (mk := .sraiX) rfl rfl (by decide) rfl rfl hw (fun w v h => by rw [decodeLit, h]; rfl))) hw
theorem F.rotliX (e) : F.Statement (.rotliX e) := fun hw _ rest =>
  decode_of_raw (raw_ext rest (by decide) rfl (lit_rri (mk := .rotliX) rfl rfl (by decide) rfl rfl hw (fun w v h => by rw [decodeLit, h]; rfl))) hw
theorem F.muliX (e) : F.Statement (.muliX e) := fun hw _ rest =>
  decode_of_raw (raw_ext rest (by decide) rfl (lit_rri (mk := .muliX) rfl rfl (by decide) rfl rfl hw (fun w v h => by rw [decodeLit, h]; rfl))) hw
theorem F.liX (e) : F.Statement (.liX e) := fun hw _ rest =>
  decode_of_raw (raw_ext rest (by decide) rfl (lit_ri (mk := .liX) rfl rfl (by decide) rfl rfl rfl hw (fun w v h => by rw [decodeLit, h]; rfl))) hw
theorem F.lpcX (e) : F.Statement (.lpcX e) := fun hw _ rest =>
  decode_of_raw (raw_ext rest (by decide) rfl (lit_ri (mk := .lpcX) rfl rfl (by decide) rfl rfl rfl hw (fun w v h => by rw [decodeLit, h]; rfl))) hw
theorem F.jmpX (e) : F.Statement (.jmpX e) := fun hw _ rest =>
  decode_of_raw (raw_ext rest (by decide) rfl (no_lit rfl rfl rfl hw)) hw
theorem F.callrX (e) : F.Statement (.callrX e) := fun hw _ rest =>
  decode_of_raw (raw_ext rest (by decide) rfl (no_lit rfl rfl rfl hw)) hw
theorem F.dbnzX (e) : F.Statement (.dbnzX e) := fun hw _ rest =>
  decode_of_raw (raw_ext rest (by decide) rfl (no_lit rfl rfl rfl hw)) hw
theorem F.mfsX (e) : F.Statement (.mfsX e) := fun hw _ rest =>
  decode_of_raw (raw_ext rest (by decide) rfl (no_lit rfl rfl rfl hw)) hw
theorem F.fsetX (e) : F.Statement (.fsetX e) := fun hw _ rest =>
  decode_of_raw (raw_ext rest (by decide) rfl (no_lit rfl rfl rfl hw)) hw
theorem F.fclrX (e) : F.Statement (.fclrX e) := fun hw _ rest =>
  decode_of_raw (raw_ext rest (by decide) rfl (no_lit rfl rfl rfl hw)) hw
theorem F.ldbX (e) : F.Statement (.ldbX e) := fun hw _ rest =>
  decode_of_raw (raw_ext rest (by decide) rfl (lit_load (mk := .ldbX) rfl rfl (by decide) rfl hw (fun w v h => by rw [decodeLit, h]; rfl))) hw
theorem F.ldbuX (e) : F.Statement (.ldbuX e) := fun hw _ rest =>
  decode_of_raw (raw_ext rest (by decide) rfl (lit_load (mk := .ldbuX) rfl rfl (by decide) rfl hw (fun w v h => by rw [decodeLit, h]; rfl))) hw
theorem F.ldhX (e) : F.Statement (.ldhX e) := fun hw _ rest =>
  decode_of_raw (raw_ext rest (by decide) rfl (lit_load (mk := .ldhX) rfl rfl (by decide) rfl hw (fun w v h => by rw [decodeLit, h]; rfl))) hw
theorem F.ldhuX (e) : F.Statement (.ldhuX e) := fun hw _ rest =>
  decode_of_raw (raw_ext rest (by decide) rfl (lit_load (mk := .ldhuX) rfl rfl (by decide) rfl hw (fun w v h => by rw [decodeLit, h]; rfl))) hw
theorem F.ldwX (e) : F.Statement (.ldwX e) := fun hw _ rest =>
  decode_of_raw (raw_ext rest (by decide) rfl (lit_load (mk := .ldwX) rfl rfl (by decide) rfl hw (fun w v h => by rw [decodeLit, h]; rfl))) hw
theorem F.ldwuX (e) : F.Statement (.ldwuX e) := fun hw _ rest =>
  decode_of_raw (raw_ext rest (by decide) rfl (lit_load (mk := .ldwuX) rfl rfl (by decide) rfl hw (fun w v h => by rw [decodeLit, h]; rfl))) hw
theorem F.lddX (e) : F.Statement (.lddX e) := fun hw _ rest =>
  decode_of_raw (raw_ext rest (by decide) rfl (lit_load (mk := .lddX) rfl rfl (by decide) rfl hw (fun w v h => by rw [decodeLit, h]; rfl))) hw
theorem F.stbX (e) : F.Statement (.stbX e) := fun hw _ rest =>
  decode_of_raw (raw_ext rest (by decide) rfl (lit_store (mk := .stbX) rfl rfl (by decide) rfl hw (fun w v h => by rw [decodeLit, h]; rfl))) hw
theorem F.sthX (e) : F.Statement (.sthX e) := fun hw _ rest =>
  decode_of_raw (raw_ext rest (by decide) rfl (lit_store (mk := .sthX) rfl rfl (by decide) rfl hw (fun w v h => by rw [decodeLit, h]; rfl))) hw
theorem F.stwX (e) : F.Statement (.stwX e) := fun hw _ rest =>
  decode_of_raw (raw_ext rest (by decide) rfl (lit_store (mk := .stwX) rfl rfl (by decide) rfl hw (fun w v h => by rw [decodeLit, h]; rfl))) hw
theorem F.stdX (e) : F.Statement (.stdX e) := fun hw _ rest =>
  decode_of_raw (raw_ext rest (by decide) rfl (lit_store (mk := .stdX) rfl rfl (by decide) rfl hw (fun w v h => by rw [decodeLit, h]; rfl))) hw
theorem F.ldpX (e) : F.Statement (.ldpX e) := fun hw _ rest =>
  decode_of_raw (raw_ext rest (by decide) rfl (lit_load (mk := .ldpX) rfl rfl (by decide) rfl hw (fun w v h => by rw [decodeLit, h]; rfl))) hw
theorem F.stpX (e) : F.Statement (.stpX e) := fun hw _ rest =>
  decode_of_raw (raw_ext rest (by decide) rfl (lit_store (mk := .stpX) rfl rfl (by decide) rfl hw (fun w v h => by rw [decodeLit, h]; rfl))) hw
theorem F.ldfX (e) : F.Statement (.ldfX e) := fun hw _ rest =>
  decode_of_raw (raw_ext rest (by decide) rfl (lit_load (mk := .ldfX) rfl rfl (by decide) rfl hw (fun w v h => by rw [decodeLit, h]; rfl))) hw
theorem F.ldfwX (e) : F.Statement (.ldfwX e) := fun hw _ rest =>
  decode_of_raw (raw_ext rest (by decide) rfl (lit_load (mk := .ldfwX) rfl rfl (by decide) rfl hw (fun w v h => by rw [decodeLit, h]; rfl))) hw
theorem F.aadd (e) : F.Statement (.aadd e) := fun hw _ rest =>
  decode_of_raw (raw_ext rest (by decide) rfl (no_lit rfl rfl rfl hw)) hw
theorem F.aand (e) : F.Statement (.aand e) := fun hw _ rest =>
  decode_of_raw (raw_ext rest (by decide) rfl (no_lit rfl rfl rfl hw)) hw
theorem F.aor (e) : F.Statement (.aor e) := fun hw _ rest =>
  decode_of_raw (raw_ext rest (by decide) rfl (no_lit rfl rfl rfl hw)) hw
theorem F.axor (e) : F.Statement (.axor e) := fun hw _ rest =>
  decode_of_raw (raw_ext rest (by decide) rfl (no_lit rfl rfl rfl hw)) hw
theorem F.amin (e) : F.Statement (.amin e) := fun hw _ rest =>
  decode_of_raw (raw_ext rest (by decide) rfl (no_lit rfl rfl rfl hw)) hw
theorem F.amax (e) : F.Statement (.amax e) := fun hw _ rest =>
  decode_of_raw (raw_ext rest (by decide) rfl (no_lit rfl rfl rfl hw)) hw
theorem F.aminu (e) : F.Statement (.aminu e) := fun hw _ rest =>
  decode_of_raw (raw_ext rest (by decide) rfl (no_lit rfl rfl rfl hw)) hw
theorem F.amaxu (e) : F.Statement (.amaxu e) := fun hw _ rest =>
  decode_of_raw (raw_ext rest (by decide) rfl (no_lit rfl rfl rfl hw)) hw
theorem F.aswp (e) : F.Statement (.aswp e) := fun hw _ rest =>
  decode_of_raw (raw_ext rest (by decide) rfl (no_lit rfl rfl rfl hw)) hw
theorem F.acas (e) : F.Statement (.acas e) := fun hw _ rest =>
  decode_of_raw (raw_ext rest (by decide) rfl (no_lit rfl rfl rfl hw)) hw
theorem F.aaddw (e) : F.Statement (.aaddw e) := fun hw _ rest =>
  decode_of_raw (raw_ext rest (by decide) rfl (no_lit rfl rfl rfl hw)) hw
theorem F.aandw (e) : F.Statement (.aandw e) := fun hw _ rest =>
  decode_of_raw (raw_ext rest (by decide) rfl (no_lit rfl rfl rfl hw)) hw
theorem F.aorw (e) : F.Statement (.aorw e) := fun hw _ rest =>
  decode_of_raw (raw_ext rest (by decide) rfl (no_lit rfl rfl rfl hw)) hw
theorem F.axorw (e) : F.Statement (.axorw e) := fun hw _ rest =>
  decode_of_raw (raw_ext rest (by decide) rfl (no_lit rfl rfl rfl hw)) hw
theorem F.aminw (e) : F.Statement (.aminw e) := fun hw _ rest =>
  decode_of_raw (raw_ext rest (by decide) rfl (no_lit rfl rfl rfl hw)) hw
theorem F.amaxw (e) : F.Statement (.amaxw e) := fun hw _ rest =>
  decode_of_raw (raw_ext rest (by decide) rfl (no_lit rfl rfl rfl hw)) hw
theorem F.aminuw (e) : F.Statement (.aminuw e) := fun hw _ rest =>
  decode_of_raw (raw_ext rest (by decide) rfl (no_lit rfl rfl rfl hw)) hw
theorem F.amaxuw (e) : F.Statement (.amaxuw e) := fun hw _ rest =>
  decode_of_raw (raw_ext rest (by decide) rfl (no_lit rfl rfl rfl hw)) hw
theorem F.aswpw (e) : F.Statement (.aswpw e) := fun hw _ rest =>
  decode_of_raw (raw_ext rest (by decide) rfl (no_lit rfl rfl rfl hw)) hw
theorem F.acasw (e) : F.Statement (.acasw e) := fun hw _ rest =>
  decode_of_raw (raw_ext rest (by decide) rfl (no_lit rfl rfl rfl hw)) hw
theorem F.fence (e) : F.Statement (.fence e) := fun hw _ rest =>
  decode_of_raw (raw_ext rest (by decide) rfl (no_lit rfl rfl rfl hw)) hw
theorem F.wtneX (e) : F.Statement (.wtneX e) := fun hw _ rest =>
  decode_of_raw (raw_ext rest (by decide) rfl (lit_store (mk := .wtneX) rfl rfl (by decide) rfl hw (fun w v h => by rw [decodeLit, h]; rfl))) hw
theorem F.pinX (e) : F.Statement (.pinX e) := fun hw _ rest =>
  decode_of_raw (raw_ext rest (by decide) rfl (lit_line (mk := .pinX) rfl rfl (by decide) rfl rfl hw (fun w v h => by rw [decodeLit, h]; rfl))) hw
theorem F.unpinX (e) : F.Statement (.unpinX e) := fun hw _ rest =>
  decode_of_raw (raw_ext rest (by decide) rfl (lit_line (mk := .unpinX) rfl rfl (by decide) rfl rfl hw (fun w v h => by rw [decodeLit, h]; rfl))) hw
theorem F.flushX (e) : F.Statement (.flushX e) := fun hw _ rest =>
  decode_of_raw (raw_ext rest (by decide) rfl (lit_line (mk := .flushX) rfl rfl (by decide) rfl rfl hw (fun w v h => by rw [decodeLit, h]; rfl))) hw
theorem F.prefX (e) : F.Statement (.prefX e) := fun hw _ rest =>
  decode_of_raw (raw_ext rest (by decide) rfl (lit_line (mk := .prefX) rfl rfl (by decide) rfl rfl hw (fun w v h => by rw [decodeLit, h]; rfl))) hw
theorem F.allocX (e) : F.Statement (.allocX e) := fun hw _ rest =>
  decode_of_raw (raw_ext rest (by decide) rfl (no_lit rfl rfl rfl hw)) hw
theorem F.freeX (e) : F.Statement (.freeX e) := fun hw _ rest =>
  decode_of_raw (raw_ext rest (by decide) rfl (no_lit rfl rfl rfl hw)) hw
theorem F.goX (e) : F.Statement (.goX e) := fun hw _ rest =>
  decode_of_raw (raw_ext rest (by decide) rfl (lit_line (mk := .goX) rfl rfl (by decide) rfl rfl hw (fun w v h => by rw [decodeLit, h]; rfl))) hw
theorem F.vadd (t) (e) : F.Statement (.vadd t e) := fun hw _ rest =>
  decode_of_raw (raw_ext rest (by decide) (by cases t <;> rfl) (no_lit rfl rfl rfl hw)) hw
theorem F.vsub (t) (e) : F.Statement (.vsub t e) := fun hw _ rest =>
  decode_of_raw (raw_ext rest (by decide) (by cases t <;> rfl) (no_lit rfl rfl rfl hw)) hw
theorem F.vmul (t) (e) : F.Statement (.vmul t e) := fun hw _ rest =>
  decode_of_raw (raw_ext rest (by decide) (by cases t <;> rfl) (no_lit rfl rfl rfl hw)) hw
theorem F.vfma (t) (e) : F.Statement (.vfma t e) := fun hw _ rest =>
  decode_of_raw (raw_ext rest (by decide) (by cases t <;> rfl) (no_lit rfl rfl rfl hw)) hw
theorem F.vmin (t) (e) : F.Statement (.vmin t e) := fun hw _ rest =>
  decode_of_raw (raw_ext rest (by decide) (by cases t <;> rfl) (no_lit rfl rfl rfl hw)) hw
theorem F.vmax (t) (e) : F.Statement (.vmax t e) := fun hw _ rest =>
  decode_of_raw (raw_ext rest (by decide) (by cases t <;> rfl) (no_lit rfl rfl rfl hw)) hw
theorem F.vabs (t) (e) : F.Statement (.vabs t e) := fun hw _ rest =>
  decode_of_raw (raw_ext rest (by decide) (by cases t <;> rfl) (no_lit rfl rfl rfl hw)) hw
theorem F.vand (e) : F.Statement (.vand e) := fun hw _ rest =>
  decode_of_raw (raw_ext rest (by decide) rfl (no_lit rfl rfl rfl hw)) hw
theorem F.vor (e) : F.Statement (.vor e) := fun hw _ rest =>
  decode_of_raw (raw_ext rest (by decide) rfl (no_lit rfl rfl rfl hw)) hw
theorem F.vxor (e) : F.Statement (.vxor e) := fun hw _ rest =>
  decode_of_raw (raw_ext rest (by decide) rfl (no_lit rfl rfl rfl hw)) hw
theorem F.vnot (e) : F.Statement (.vnot e) := fun hw _ rest =>
  decode_of_raw (raw_ext rest (by decide) rfl (no_lit rfl rfl rfl hw)) hw
theorem F.vshl (t) (e) : F.Statement (.vshl t e) := fun hw _ rest =>
  decode_of_raw (raw_ext rest (by decide) (by cases t <;> rfl) (no_lit rfl rfl rfl hw)) hw
theorem F.vshr (t) (e) : F.Statement (.vshr t e) := fun hw _ rest =>
  decode_of_raw (raw_ext rest (by decide) (by cases t <;> rfl) (no_lit rfl rfl rfl hw)) hw
theorem F.vsra (t) (e) : F.Statement (.vsra t e) := fun hw _ rest =>
  decode_of_raw (raw_ext rest (by decide) (by cases t <;> rfl) (no_lit rfl rfl rfl hw)) hw
theorem F.vsel (e) : F.Statement (.vsel e) := fun hw _ rest =>
  decode_of_raw (raw_ext rest (by decide) rfl (no_lit rfl rfl rfl hw)) hw
theorem F.vperm (w) (e) : F.Statement (.vperm w e) := fun hw _ rest =>
  decode_of_raw (raw_ext rest (by decide) (by cases w <;> rfl) (no_lit rfl rfl rfl hw)) hw
theorem F.vbcast (w) (e) : F.Statement (.vbcast w e) := fun hw _ rest =>
  decode_of_raw (raw_ext rest (by decide) (by cases w <;> rfl) (no_lit rfl rfl rfl hw)) hw
theorem F.vext (w) (e) : F.Statement (.vext w e) := fun hw _ rest =>
  decode_of_raw (raw_ext rest (by decide) (by cases w <;> rfl) (no_lit rfl rfl rfl hw)) hw
theorem F.vrcp (t) (e) : F.Statement (.vrcp t e) := fun hw _ rest =>
  decode_of_raw (raw_ext rest (by decide) (by cases t <;> rfl) (no_lit rfl rfl rfl hw)) hw
theorem F.vrsq (t) (e) : F.Statement (.vrsq t e) := fun hw _ rest =>
  decode_of_raw (raw_ext rest (by decide) (by cases t <;> rfl) (no_lit rfl rfl rfl hw)) hw
theorem F.vexp2 (t) (e) : F.Statement (.vexp2 t e) := fun hw _ rest =>
  decode_of_raw (raw_ext rest (by decide) (by cases t <;> rfl) (no_lit rfl rfl rfl hw)) hw
theorem F.vlog2 (t) (e) : F.Statement (.vlog2 t e) := fun hw _ rest =>
  decode_of_raw (raw_ext rest (by decide) (by cases t <;> rfl) (no_lit rfl rfl rfl hw)) hw
theorem F.vcvt (v) (e) : F.Statement (.vcvt v e) := fun hw _ rest =>
  decode_of_raw (raw_ext rest (by decide) (by cases v <;> rfl) (no_lit rfl rfl rfl hw)) hw
theorem F.vrq (e) : F.Statement (.vrq e) := fun hw _ rest =>
  decode_of_raw (raw_ext rest (by decide) rfl (no_lit rfl rfl rfl hw)) hw
theorem F.vmov (e) : F.Statement (.vmov e) := fun hw _ rest =>
  decode_of_raw (raw_ext rest (by decide) rfl (no_lit rfl rfl rfl hw)) hw
theorem F.vcnt (e) : F.Statement (.vcnt e) := fun hw _ rest =>
  decode_of_raw (raw_ext rest (by decide) rfl (no_lit rfl rfl rfl hw)) hw
theorem F.vfirst (e) : F.Statement (.vfirst e) := fun hw _ rest =>
  decode_of_raw (raw_ext rest (by decide) rfl (no_lit rfl rfl rfl hw)) hw
theorem F.vld (e) : F.Statement (.vld e) := fun hw _ rest =>
  decode_of_raw (raw_ext rest (by decide) rfl (no_lit rfl rfl rfl hw)) hw
theorem F.vst (e) : F.Statement (.vst e) := fun hw _ rest =>
  decode_of_raw (raw_ext rest (by decide) rfl (no_lit rfl rfl rfl hw)) hw
theorem F.vlds (w) (e) : F.Statement (.vlds w e) := fun hw _ rest =>
  decode_of_raw (raw_ext rest (by decide) (by cases w <;> rfl) (no_lit rfl rfl rfl hw)) hw
theorem F.vsts (w) (e) : F.Statement (.vsts w e) := fun hw _ rest =>
  decode_of_raw (raw_ext rest (by decide) (by cases w <;> rfl) (no_lit rfl rfl rfl hw)) hw
theorem F.vgat (w) (e) : F.Statement (.vgat w e) := fun hw _ rest =>
  decode_of_raw (raw_ext rest (by decide) (by cases w <;> rfl) (no_lit rfl rfl rfl hw)) hw
theorem F.vsca (w) (e) : F.Statement (.vsca w e) := fun hw _ rest =>
  decode_of_raw (raw_ext rest (by decide) (by cases w <;> rfl) (no_lit rfl rfl rfl hw)) hw
theorem F.vldt (e) : F.Statement (.vldt e) := fun hw _ rest =>
  decode_of_raw (raw_ext rest (by decide) rfl (no_lit rfl rfl rfl hw)) hw
theorem F.vstt (e) : F.Statement (.vstt e) := fun hw _ rest =>
  decode_of_raw (raw_ext rest (by decide) rfl (no_lit rfl rfl rfl hw)) hw
theorem F.tdef (e) : F.Statement (.tdef e) := fun hw _ rest =>
  decode_of_raw (raw_ext rest (by decide) rfl (no_lit rfl rfl rfl hw)) hw
theorem F.tclaim (e) : F.Statement (.tclaim e) := fun hw _ rest =>
  decode_of_raw (raw_ext rest (by decide) rfl (no_lit rfl rfl rfl hw)) hw
theorem F.trel (e) : F.Statement (.trel e) := fun hw _ rest =>
  decode_of_raw (raw_ext rest (by decide) rfl (no_lit rfl rfl rfl hw)) hw
theorem F.tld (e) : F.Statement (.tld e) := fun hw _ rest =>
  decode_of_raw (raw_ext rest (by decide) rfl (no_lit rfl rfl rfl hw)) hw
theorem F.mma (e) : F.Statement (.mma e) := fun hw _ rest =>
  decode_of_raw (raw_ext rest (by decide) rfl (no_lit rfl rfl rfl hw)) hw
theorem F.mmam (e) : F.Statement (.mmam e) := fun hw _ rest =>
  decode_of_raw (raw_ext rest (by decide) rfl (no_lit rfl rfl rfl hw)) hw
theorem F.acz (e) : F.Statement (.acz e) := fun hw _ rest =>
  decode_of_raw (raw_ext rest (by decide) rfl (no_lit rfl rfl rfl hw)) hw
theorem F.acld (e) : F.Statement (.acld e) := fun hw _ rest =>
  decode_of_raw (raw_ext rest (by decide) rfl (no_lit rfl rfl rfl hw)) hw
theorem F.acst (t) (e) : F.Statement (.acst t e) := fun hw _ rest =>
  decode_of_raw (raw_ext rest (by decide) (by cases t <;> rfl) (no_lit rfl rfl rfl hw)) hw
theorem F.acrd (e) : F.Statement (.acrd e) := fun hw _ rest =>
  decode_of_raw (raw_ext rest (by decide) rfl (no_lit rfl rfl rfl hw)) hw
theorem F.xdef (e) : F.Statement (.xdef e) := fun hw _ rest =>
  decode_of_raw (raw_ext rest (by decide) rfl (no_lit rfl rfl rfl hw)) hw
theorem F.xfer (e) : F.Statement (.xfer e) := fun hw _ rest =>
  decode_of_raw (raw_ext rest (by decide) rfl (no_lit rfl rfl rfl hw)) hw
theorem F.xwait (e) : F.Statement (.xwait e) := fun hw _ rest =>
  decode_of_raw (raw_ext rest (by decide) rfl (no_lit rfl rfl rfl hw)) hw
theorem F.xstat (e) : F.Statement (.xstat e) := fun hw _ rest =>
  decode_of_raw (raw_ext rest (by decide) rfl (no_lit rfl rfl rfl hw)) hw
theorem F.xcan (e) : F.Statement (.xcan e) := fun hw _ rest =>
  decode_of_raw (raw_ext rest (by decide) rfl (no_lit rfl rfl rfl hw)) hw
theorem F.xpub (e) : F.Statement (.xpub e) := fun hw _ rest =>
  decode_of_raw (raw_ext rest (by decide) rfl (no_lit rfl rfl rfl hw)) hw
theorem F.wsrefX (e) : F.Statement (.wsrefX e) := fun hw _ rest =>
  decode_of_raw (raw_ext rest (by decide) rfl (no_lit rfl rfl rfl hw)) hw
theorem F.post (e) : F.Statement (.post e) := fun hw _ rest =>
  decode_of_raw (raw_ext rest (by decide) rfl (no_lit rfl rfl rfl hw)) hw
theorem F.mwait (e) : F.Statement (.mwait e) := fun hw _ rest =>
  decode_of_raw (raw_ext rest (by decide) rfl (no_lit rfl rfl rfl hw)) hw
theorem F.mrd (e) : F.Statement (.mrd e) := fun hw _ rest =>
  decode_of_raw (raw_ext rest (by decide) rfl (no_lit rfl rfl rfl hw)) hw
theorem F.mset (e) : F.Statement (.mset e) := fun hw _ rest =>
  decode_of_raw (raw_ext rest (by decide) rfl (no_lit rfl rfl rfl hw)) hw
theorem F.send (e) : F.Statement (.send e) := fun hw _ rest =>
  decode_of_raw (raw_ext rest (by decide) rfl (no_lit rfl rfl rfl hw)) hw
theorem F.recv (e) : F.Statement (.recv e) := fun hw _ rest =>
  decode_of_raw (raw_ext rest (by decide) rfl (no_lit rfl rfl rfl hw)) hw
theorem F.spawn (e) : F.Statement (.spawn e) := fun hw _ rest =>
  decode_of_raw (raw_ext rest (by decide) rfl (no_lit rfl rfl rfl hw)) hw
theorem F.spawnGrp (e) : F.Statement (.spawnGrp e) := fun hw _ rest =>
  decode_of_raw (raw_ext rest (by decide) rfl (no_lit rfl rfl rfl hw)) hw
theorem F.subscribe (e) : F.Statement (.subscribe e) := fun hw _ rest =>
  decode_of_raw (raw_ext rest (by decide) rfl (no_lit rfl rfl rfl hw)) hw
theorem F.unsub (e) : F.Statement (.unsub e) := fun hw _ rest =>
  decode_of_raw (raw_ext rest (by decide) rfl (no_lit rfl rfl rfl hw)) hw
theorem F.subflush (e) : F.Statement (.subflush e) := fun hw _ rest =>
  decode_of_raw (raw_ext rest (by decide) rfl (no_lit rfl rfl rfl hw)) hw
theorem F.tbind (e) : F.Statement (.tbind e) := fun hw _ rest =>
  decode_of_raw (raw_ext rest (by decide) rfl (no_lit rfl rfl rfl hw)) hw
theorem F.tnext (e) : F.Statement (.tnext e) := fun hw _ rest =>
  decode_of_raw (raw_ext rest (by decide) rfl (no_lit rfl rfl rfl hw)) hw
theorem F.tsend (e) : F.Statement (.tsend e) := fun hw _ rest =>
  decode_of_raw (raw_ext rest (by decide) rfl (no_lit rfl rfl rfl hw)) hw
theorem F.tdone (e) : F.Statement (.tdone e) := fun hw _ rest =>
  decode_of_raw (raw_ext rest (by decide) rfl (no_lit rfl rfl rfl hw)) hw
theorem F.tirr (e) : F.Statement (.tirr e) := fun hw _ rest =>
  decode_of_raw (raw_ext rest (by decide) rfl (no_lit rfl rfl rfl hw)) hw
theorem F.tgvt (e) : F.Statement (.tgvt e) := fun hw _ rest =>
  decode_of_raw (raw_ext rest (by decide) rfl (no_lit rfl rfl rfl hw)) hw
theorem F.fork (e) : F.Statement (.fork e) := fun hw _ rest =>
  decode_of_raw (raw_ext rest (by decide) rfl (no_lit rfl rfl rfl hw)) hw
theorem F.joinX (e) : F.Statement (.joinX e) := fun hw _ rest =>
  decode_of_raw (raw_ext rest (by decide) rfl (no_lit rfl rfl rfl hw)) hw
theorem F.ndoneX (e) : F.Statement (.ndoneX e) := fun hw _ rest =>
  decode_of_raw (raw_ext rest (by decide) rfl (no_lit rfl rfl rfl hw)) hw
theorem F.qsub (e) : F.Statement (.qsub e) := fun hw _ rest =>
  decode_of_raw (raw_ext rest (by decide) rfl (no_lit rfl rfl rfl hw)) hw
theorem F.ptokTake (e) : F.Statement (.ptokTake e) := fun hw _ rest =>
  decode_of_raw (raw_ext rest (by decide) rfl (no_lit rfl rfl rfl hw)) hw
theorem F.ptokGive (e) : F.Statement (.ptokGive e) := fun hw _ rest =>
  decode_of_raw (raw_ext rest (by decide) rfl (no_lit rfl rfl rfl hw)) hw
theorem F.xlinvAll (e) : F.Statement (.xlinvAll e) := fun hw _ rest =>
  decode_of_raw (raw_ext rest (by decide) rfl (no_lit rfl rfl rfl hw)) hw
theorem F.xlinvPage (e) : F.Statement (.xlinvPage e) := fun hw _ rest =>
  decode_of_raw (raw_ext rest (by decide) rfl (no_lit rfl rfl rfl hw)) hw
theorem F.xlinvProc (e) : F.Statement (.xlinvProc e) := fun hw _ rest =>
  decode_of_raw (raw_ext rest (by decide) rfl (no_lit rfl rfl rfl hw)) hw
theorem F.ctrrdX (e) : F.Statement (.ctrrdX e) := fun hw _ rest =>
  decode_of_raw (raw_ext rest (by decide) rfl (no_lit rfl rfl rfl hw)) hw
theorem F.ctrcfgX (e) : F.Statement (.ctrcfgX e) := fun hw _ rest =>
  decode_of_raw (raw_ext rest (by decide) rfl (no_lit rfl rfl rfl hw)) hw

/-! ### The instructions that pack fields into IMM -/

theorem imm_zero {e : Ext} (h : e.imm = .imm10 0) : { e with imm := .imm10 0 } = e := by
  obtain ⟨d, a, b, c, x, y, z, sc, o, r, st, sp, hint, imm⟩ := e; simp_all

theorem with_imm {e : Ext} {v : BitVec 32} {f : BitVec 32 → Ext → Except DecodeError Instr} (h : e.imm = .imm10 0) :
    withImm { e with imm := .imm10 v } f = f v e := by
  exact congrArg (f v) (imm_zero h)


theorem F.mtsX (m) : F.Statement (.mtsX m) := fun hw _ rest => by
  refine decode_of_raw ?_ hw
  cases m with
  | lit n v =>
    refine raw_lit rest (fLen_ri ..) ?_
    rw [decodeLit, show (fOp (encRI 1#2 0x046 n 0)).toNat = 0x046 by simp]
    simp [zeroed]
  | ext d n =>
    have hd : ∀ sub e, decodeExt 0x046 sub e = withImm e fun v e =>
          if e = { d := e.d } then subZero sub (.mtsX (.ext e.d v)) else .error .nonzeroField :=
      fun _ _ => rfl
    refine raw_ext10 (op := 0x046) (sub := 0) (e := { d := d, imm := .imm10 n }) rest (by decide) rfl ?_
    rw [hd]; simp [withImm, subZero]

theorem F.skpX (e cc k ib i) : F.Statement (.skpX e cc k ib i) := fun hw _ rest => by
  refine decode_of_raw (raw_ext10 (op := 0x03E) (sub := 0) (v := i ++ 0#1 ++ BitVec.ofBool ib ++ k ++ cc) (e := { e with imm := .imm10 (i ++ 0#1 ++ BitVec.ofBool ib ++ k ++ cc) }) rest (by decide) rfl ?_) hw
  have h0 : e.imm = .imm10 0 := by simpa [need] using (first_none (special_check hw)).1
  have hd : ∀ sub e, decodeExt 0x03E sub e = withImm e fun v e =>
        if v.getLsbD 7 then .error .nonzeroField
        else subZero sub (.skpX e (v.extractLsb' 0 4) (v.extractLsb' 4 2) (v.getLsbD 6) (v.extractLsb' 8 24)) :=
    fun _ _ => rfl
  rw [hd, with_imm h0]
  have h7 : (i ++ 0#1 ++ BitVec.ofBool ib ++ k ++ cc : BitVec 32).getLsbD 7 = false :=
    bit_eq (b := false) ((field_skip (m := 28) (n := 4) (i ++ 0#1 ++ BitVec.ofBool ib ++ k) cc 3 1).trans
      ((field_skip (m := 26) (n := 2) (i ++ 0#1 ++ BitVec.ofBool ib) k 1 1).trans (field_at i 0#1 (BitVec.ofBool ib))))
  have h6 : (i ++ 0#1 ++ BitVec.ofBool ib ++ k ++ cc : BitVec 32).getLsbD 6 = ib :=
    bit_eq ((field_skip (m := 28) (n := 4) (i ++ 0#1 ++ BitVec.ofBool ib ++ k) cc 2 1).trans
      (field_at (i ++ 0#1) (BitVec.ofBool ib) k))
  have hk : (i ++ 0#1 ++ BitVec.ofBool ib ++ k ++ cc : BitVec 32).extractLsb' 4 2 = k :=
    field_at (i ++ 0#1 ++ BitVec.ofBool ib) k cc
  have hc : (i ++ 0#1 ++ BitVec.ofBool ib ++ k ++ cc : BitVec 32).extractLsb' 0 4 = cc :=
    field_low (m := 28) (i ++ 0#1 ++ BitVec.ofBool ib ++ k) cc
  have hi : (i ++ 0#1 ++ BitVec.ofBool ib ++ k ++ cc : BitVec 32).extractLsb' 8 24 = i :=
    (field_skip (m := 28) (n := 4) (i ++ 0#1 ++ BitVec.ofBool ib ++ k) cc 4 24).trans
      ((field_skip (m := 26) (n := 2) (i ++ 0#1 ++ BitVec.ofBool ib) k 2 24).trans
        ((field_skip (m := 25) (n := 1) (i ++ 0#1) (BitVec.ofBool ib) 1 24).trans (field_top i 0#1)))
  simp only [h7, h6, hk, hc, hi]
  rfl

theorem F.vcmp (t cc e) : F.Statement (.vcmp t cc e) := fun hw _ rest => by
  refine decode_of_raw (raw_ext10 (op := 0x08E) (sub := t.sub) (v := 0#28 ++ cc) (e := { e with imm := .imm10 (0#28 ++ cc) }) rest (by decide) rfl ?_) hw
  have h0 : e.imm = .imm10 0 := by simpa [need] using (first_none (first_none (special_check hw)).2).1
  have hz : (0#28 ++ cc : BitVec 32).extractLsb' 4 28 = 0#28 := field_top 0#28 cc
  have hc : (0#28 ++ cc : BitVec 32).extractLsb' 0 4 = cc := field_low 0#28 cc
  have hd : ∀ sub e, decodeExt 0x08E sub e = withImm e fun v e =>
        if v.extractLsb' 4 28 = 0 then withLane sub (.vcmp · (v.extractLsb' 0 4) e) else .error .nonzeroField :=
    fun _ _ => rfl
  rw [hd, with_imm h0]
  simp only [hz, hc]
  cases t <;> rfl

theorem F.vred (t op e) : F.Statement (.vred t op e) := fun hw _ rest => by
  refine decode_of_raw (raw_ext10 (op := 0x093) (sub := t.sub) (v := 0#30 ++ op) (e := { e with imm := .imm10 (0#30 ++ op) }) rest (by decide) rfl ?_) hw
  have h0 : e.imm = .imm10 0 := by simpa [need] using (first_none (first_none (special_check hw)).2).1
  have hz : (0#30 ++ op : BitVec 32).extractLsb' 2 30 = 0#30 := field_top 0#30 op
  have hc : (0#30 ++ op : BitVec 32).extractLsb' 0 2 = op := field_low 0#30 op
  have hd : ∀ sub e, decodeExt 0x093 sub e = withImm e fun v e =>
        if v.extractLsb' 2 30 = 0 then withLane sub (.vred · (v.extractLsb' 0 2) e) else .error .badImmediate :=
    fun _ _ => rfl
  rw [hd, with_imm h0]
  simp only [hz, hc]
  cases t <;> rfl

end Sys2Proof.Laws
end

