-- ==== Sys2Proof/Laws/Scalar.lean ====
section
/-! SUPPORT. The shared operations of the scalar instructions, each said once: what it gives when its checks pass. -/

namespace Sys2Proof.Laws

open Sys2Proof Sys2Proof.Machine

variable {s : State}

theorem alu3_ok (f : Word → Word → Word) (n d a b : Nat) (syn : List Nat) (hs : sound s [a, b] [d] [] []) (hf : allFull s syn)
    (hd : d < 256) : wroteG s (alu3 f n d a b syn s) syn d (f (s.g a) (s.g b)) (s.task.pc + BitVec.ofNat 64 (4 * n)) := by
  rw [alu3, instr_ok hs (by simp) hf, settle_ok, g_empty, g_empty]; exact wroteG_intro _ hd

theorem alu1_ok (f : Word → Word) (n d a : Nat) (syn : List Nat) (hs : sound s [a] [d] [] []) (hf : allFull s syn)
    (hd : d < 256) : wroteG s (alu1 f n d a syn s) syn d (f (s.g a)) (s.task.pc + BitVec.ofNat 64 (4 * n)) := by
  rw [alu1, instr_ok hs (by simp) hf, settle_ok, g_empty]; exact wroteG_intro _ hd

theorem aluImm_ok (f : Word → Word → Word) (n d a : Nat) (imm : Word) (syn : List Nat) (hs : sound s [a] [d] [] [])
    (hf : allFull s syn) (hd : d < 256) : wroteG s (aluImm f n d a imm syn s) syn d (f (s.g a) imm) (s.task.pc + BitVec.ofNat 64 (4 * n)) := by
  rw [aluImm, instr_ok hs (by simp) hf, settle_ok, g_empty]; exact wroteG_intro _ hd

theorem insertField_ok (n d a b : Nat) (syn : List Nat) (hs : sound s [d, a, b] [] [] []) (hf : allFull s syn) (hd : d < 256) :
    wroteG s (insertField n d a b syn s) syn d (bins (s.g d) (s.g a) (s.g b)) (s.task.pc + BitVec.ofNat 64 (4 * n)) := by
  rw [insertField, instr_ok hs (by simp) hf, settle_ok, g_empty, g_empty, g_empty]; exact wroteG_intro _ hd

theorem loadConst_ok (f : Word → Word) (n d : Nat) (hs : sound s [] [d] [] []) (hd : d < 256) :
    wroteG s (loadConst f n d s) [] d (f s.task.pc) (s.task.pc + BitVec.ofNat 64 (4 * n)) := by
  rw [loadConst, instr_ok hs (by simp) (by intro r hr; cases hr), settle_ok]; exact wroteG_intro _ hd

end Sys2Proof.Laws
end

