-- ==== Sys2Proof/Tests/Slice0.lean ====
section
/-! SUPPORT. Tests of the decoder on words written out from the encodings of 02_encoding, of the checks of well-formed
instructions, and of single steps, whose results are worked by hand from the rules. -/

namespace Sys2Proof.Tests

open Sys2Proof Sys2Proof.Machine

set_option Elab.async false

/-! ### Decoding: the formats of Tables 2 to 5, the opcodes of Tables 14 to 21 -/

/-- RRR and RRI: B or I7, A, D, OP, LEN 0b00. -/
def rrr (op d a b : Nat) : IWord := BitVec.ofNat 32 (b * 2 ^ 25 + a * 2 ^ 18 + d * 2 ^ 11 + op * 4)

/-- RI: I14, D, OP, LEN 0b00. -/
def ri (op d i : Nat) : IWord := BitVec.ofNat 32 (i * 2 ^ 18 + d * 2 ^ 11 + op * 4)

/-- J: I21, OP, LEN 0b00. -/
def j (op i : Nat) : IWord := BitVec.ofNat 32 (i * 2 ^ 11 + op * 4)

/-- CS: IB, K, CC, B, A, OP, LEN 0b00. -/
def cs (op a b cc k ib : Nat) : IWord := BitVec.ofNat 32 (ib * 2 ^ 31 + k * 2 ^ 29 + cc * 2 ^ 25 + b * 2 ^ 18 + a * 2 ^ 11 + op * 4)

/-- M: I5, SP, A, D or S, OP, LEN 0b00. -/
def m (op d a sp i : Nat) : IWord := BitVec.ofNat 32 (i * 2 ^ 27 + sp * 2 ^ 25 + a * 2 ^ 18 + d * 2 ^ 11 + op * 4)

/-- The extended form: MOD, SUB, OP, LEN 0b10; C, B, A, D; IMM. -/
def ext (op sub mod c b a d imm : Nat) : List IWord :=
  [BitVec.ofNat 32 (mod * 2 ^ 16 + sub * 2 ^ 11 + op * 4 + 2), BitVec.ofNat 32 (c * 2 ^ 24 + b * 2 ^ 16 + a * 2 ^ 8 + d), BitVec.ofNat 32 imm]

/-- The first word with LEN 0b01. -/
def lit (w : IWord) : IWord := w + 1

/-- An extended form with LEN 0b11 and its literal, low word first. -/
def longer (ws : List IWord) (lo hi : IWord) : List IWord := (ws.mapIdx fun i w => if i = 0 then w + 1 else w) ++ [lo, hi]

/-- The words are those of the instruction, all of them. -/
abbrev reads (ws : List IWord) (i : Instr) : Prop := decode ws = .ok (i, [])

theorem test_decode_three_operands :
    reads ([rrr 1 5 6 8]) (.add 5 6 8) ∧
    reads ([rrr 2 5 6 9]) (.sub 5 6 9) ∧
    reads ([rrr 3 5 6 10]) (.mul 5 6 10) ∧
    reads ([rrr 4 5 6 11]) (.mulh 5 6 11) ∧
    reads ([rrr 5 5 6 12]) (.mulhu 5 6 12) ∧
    reads ([rrr 6 5 6 13]) (.div 5 6 13) ∧
    reads ([rrr 7 5 6 14]) (.divu 5 6 14) ∧
    reads ([rrr 8 5 6 15]) (.rem 5 6 15) ∧
    reads ([rrr 9 5 6 16]) (.remu 5 6 16) ∧
    reads ([rrr 10 5 6 17]) (.and 5 6 17) ∧
    reads ([rrr 11 5 6 18]) (.or 5 6 18) ∧
    reads ([rrr 12 5 6 19]) (.xor 5 6 19) ∧
    reads ([rrr 13 5 6 20]) (.andn 5 6 20) ∧
    reads ([rrr 14 5 6 21]) (.orn 5 6 21) ∧
    reads ([rrr 15 5 6 22]) (.shl 5 6 22) ∧
    reads ([rrr 16 5 6 23]) (.shr 5 6 23) ∧
    reads ([rrr 17 5 6 24]) (.sra 5 6 24) ∧
    reads ([rrr 18 5 6 25]) (.rotl 5 6 25) ∧
    reads ([rrr 19 5 6 26]) (.min 5 6 26) ∧
    reads ([rrr 20 5 6 27]) (.max 5 6 27) ∧
    reads ([rrr 21 5 6 28]) (.minu 5 6 28) ∧
    reads ([rrr 22 5 6 29]) (.maxu 5 6 29) ∧
    reads ([rrr 23 5 6 30]) (.addw 5 6 30) ∧
    reads ([rrr 24 5 6 31]) (.subw 5 6 31) ∧
    reads ([rrr 25 5 6 32]) (.mulw 5 6 32) ∧
    reads ([rrr 26 5 6 33]) (.shlw 5 6 33) ∧
    reads ([rrr 27 5 6 34]) (.shrw 5 6 34) ∧
    reads ([rrr 28 5 6 35]) (.sraw 5 6 35) ∧
    reads ([rrr 29 5 6 36]) (.bext 5 6 36) ∧
    reads ([rrr 30 5 6 37]) (.bins 5 6 37) ∧
    reads ([rrr 31 5 6 38]) (.bset 5 6 38) ∧
    reads ([rrr 32 5 6 39]) (.bclr 5 6 39) ∧
    reads ([rrr 33 5 6 40]) (.seq 5 6 40) ∧
    reads ([rrr 34 5 6 41]) (.sne 5 6 41) ∧
    reads ([rrr 35 5 6 42]) (.slt 5 6 42) ∧
    reads ([rrr 36 5 6 43]) (.sltu 5 6 43) ∧
    reads ([rrr 37 5 6 44]) (.sle 5 6 44) ∧
    reads ([rrr 38 5 6 45]) (.sleu 5 6 45) := by
  and_intros <;> rfl

theorem test_decode_three_operands_extended :
    reads (ext 1 0 0x8000 0 7 6 128 0) (.addX { d := 128, a := 6, b := 7, synA := true }) ∧
    reads (ext 2 0 0x8000 0 7 6 129 0) (.subX { d := 129, a := 6, b := 7, synA := true }) ∧
    reads (ext 3 0 0x8000 0 7 6 130 0) (.mulX { d := 130, a := 6, b := 7, synA := true }) ∧
    reads (ext 4 0 0x8000 0 7 6 131 0) (.mulhX { d := 131, a := 6, b := 7, synA := true }) ∧
    reads (ext 5 0 0x8000 0 7 6 132 0) (.mulhuX { d := 132, a := 6, b := 7, synA := true }) ∧
    reads (ext 6 0 0x8000 0 7 6 133 0) (.divX { d := 133, a := 6, b := 7, synA := true }) ∧
    reads (ext 7 0 0x8000 0 7 6 134 0) (.divuX { d := 134, a := 6, b := 7, synA := true }) ∧
    reads (ext 8 0 0x8000 0 7 6 135 0) (.remX { d := 135, a := 6, b := 7, synA := true }) ∧
    reads (ext 9 0 0x8000 0 7 6 136 0) (.remuX { d := 136, a := 6, b := 7, synA := true }) ∧
    reads (ext 10 0 0x8000 0 7 6 137 0) (.andX { d := 137, a := 6, b := 7, synA := true }) ∧
    reads (ext 11 0 0x8000 0 7 6 138 0) (.orX { d := 138, a := 6, b := 7, synA := true }) ∧
    reads (ext 12 0 0x8000 0 7 6 139 0) (.xorX { d := 139, a := 6, b := 7, synA := true }) ∧
    reads (ext 13 0 0x8000 0 7 6 140 0) (.andnX { d := 140, a := 6, b := 7, synA := true }) ∧
    reads (ext 14 0 0x8000 0 7 6 141 0) (.ornX { d := 141, a := 6, b := 7, synA := true }) ∧
    reads (ext 15 0 0x8000 0 7 6 142 0) (.shlX { d := 142, a := 6, b := 7, synA := true }) ∧
    reads (ext 16 0 0x8000 0 7 6 143 0) (.shrX { d := 143, a := 6, b := 7, synA := true }) ∧
    reads (ext 17 0 0x8000 0 7 6 144 0) (.sraX { d := 144, a := 6, b := 7, synA := true }) ∧
    reads (ext 18 0 0x8000 0 7 6 145 0) (.rotlX { d := 145, a := 6, b := 7, synA := true }) ∧
    reads (ext 19 0 0x8000 0 7 6 146 0) (.minX { d := 146, a := 6, b := 7, synA := true }) ∧
    reads (ext 20 0 0x8000 0 7 6 147 0) (.maxX { d := 147, a := 6, b := 7, synA := true }) ∧
    reads (ext 21 0 0x8000 0 7 6 148 0) (.minuX { d := 148, a := 6, b := 7, synA := true }) ∧
    reads (ext 22 0 0x8000 0 7 6 149 0) (.maxuX { d := 149, a := 6, b := 7, synA := true }) ∧
    reads (ext 23 0 0x8000 0 7 6 150 0) (.addwX { d := 150, a := 6, b := 7, synA := true }) ∧
    reads (ext 24 0 0x8000 0 7 6 151 0) (.subwX { d := 151, a := 6, b := 7, synA := true }) ∧
    reads (ext 25 0 0x8000 0 7 6 152 0) (.mulwX { d := 152, a := 6, b := 7, synA := true }) ∧
    reads (ext 26 0 0x8000 0 7 6 153 0) (.shlwX { d := 153, a := 6, b := 7, synA := true }) ∧
    reads (ext 27 0 0x8000 0 7 6 154 0) (.shrwX { d := 154, a := 6, b := 7, synA := true }) ∧
    reads (ext 28 0 0x8000 0 7 6 155 0) (.srawX { d := 155, a := 6, b := 7, synA := true }) ∧
    reads (ext 29 0 0x8000 0 7 6 156 0) (.bextX { d := 156, a := 6, b := 7, synA := true }) ∧
    reads (ext 30 0 0x8000 0 7 6 157 0) (.binsX { d := 157, a := 6, b := 7, synA := true }) ∧
    reads (ext 31 0 0x8000 0 7 6 158 0) (.bsetX { d := 158, a := 6, b := 7, synA := true }) ∧
    reads (ext 32 0 0x8000 0 7 6 159 0) (.bclrX { d := 159, a := 6, b := 7, synA := true }) ∧
    reads (ext 33 0 0x8000 0 7 6 160 0) (.seqX { d := 160, a := 6, b := 7, synA := true }) ∧
    reads (ext 34 0 0x8000 0 7 6 161 0) (.sneX { d := 161, a := 6, b := 7, synA := true }) ∧
    reads (ext 35 0 0x8000 0 7 6 162 0) (.sltX { d := 162, a := 6, b := 7, synA := true }) ∧
    reads (ext 36 0 0x8000 0 7 6 163 0) (.sltuX { d := 163, a := 6, b := 7, synA := true }) ∧
    reads (ext 37 0 0x8000 0 7 6 164 0) (.sleX { d := 164, a := 6, b := 7, synA := true }) ∧
    reads (ext 38 0 0x8000 0 7 6 165 0) (.sleuX { d := 165, a := 6, b := 7, synA := true }) := by
  and_intros <;> rfl

theorem test_decode_one_operand :
    reads ([rrr 39 5 45 0]) (.not 5 45) ∧
    reads ([rrr 40 5 46 0]) (.neg 5 46) ∧
    reads ([rrr 41 5 47 0]) (.clz 5 47) ∧
    reads ([rrr 42 5 48 0]) (.ctz 5 48) ∧
    reads ([rrr 43 5 49 0]) (.popc 5 49) ∧
    reads ([rrr 44 5 50 0]) (.sextb 5 50) ∧
    reads ([rrr 45 5 51 0]) (.sexth 5 51) ∧
    reads ([rrr 46 5 52 0]) (.sextw 5 52) ∧
    reads ([rrr 47 5 53 0]) (.zextb 5 53) ∧
    reads ([rrr 48 5 54 0]) (.zexth 5 54) ∧
    reads ([rrr 49 5 55 0]) (.zextw 5 55) ∧
    reads ([rrr 50 5 56 0]) (.bswap 5 56) := by
  and_intros <;> rfl

theorem test_decode_one_operand_extended :
    reads (ext 39 0 0 0 0 255 39 0) (.notX { d := 39, a := 255 }) ∧
    reads (ext 40 0 0 0 0 255 40 0) (.negX { d := 40, a := 255 }) ∧
    reads (ext 41 0 0 0 0 255 41 0) (.clzX { d := 41, a := 255 }) ∧
    reads (ext 42 0 0 0 0 255 42 0) (.ctzX { d := 42, a := 255 }) ∧
    reads (ext 43 0 0 0 0 255 43 0) (.popcX { d := 43, a := 255 }) ∧
    reads (ext 44 0 0 0 0 255 44 0) (.sextbX { d := 44, a := 255 }) ∧
    reads (ext 45 0 0 0 0 255 45 0) (.sexthX { d := 45, a := 255 }) ∧
    reads (ext 46 0 0 0 0 255 46 0) (.sextwX { d := 46, a := 255 }) ∧
    reads (ext 47 0 0 0 0 255 47 0) (.zextbX { d := 47, a := 255 }) ∧
    reads (ext 48 0 0 0 0 255 48 0) (.zexthX { d := 48, a := 255 }) ∧
    reads (ext 49 0 0 0 0 255 49 0) (.zextwX { d := 49, a := 255 }) ∧
    reads (ext 50 0 0 0 0 255 50 0) (.bswapX { d := 50, a := 255 }) := by
  and_intros <;> rfl

theorem test_decode_immediates :
    reads ([rrr 51 127 6 51]) (.addi 127 6 51) ∧
    reads ([rrr 52 127 6 52]) (.andi 127 6 52) ∧
    reads ([rrr 53 127 6 53]) (.ori 127 6 53) ∧
    reads ([rrr 54 127 6 54]) (.xori 127 6 54) ∧
    reads ([rrr 55 127 6 55]) (.shli 127 6 55) ∧
    reads ([rrr 56 127 6 56]) (.shri 127 6 56) ∧
    reads ([rrr 57 127 6 57]) (.srai 127 6 57) ∧
    reads ([rrr 58 127 6 58]) (.rotli 127 6 58) ∧
    reads ([rrr 59 127 6 59]) (.muli 127 6 59) ∧
    reads ([ri 0x3C 5 0x3FFF]) (.li 5 0x3FFF) ∧
    reads ([ri 0x3D 127 0x2000]) (.lpc 127 0x2000) := by
  and_intros <;> rfl

theorem test_decode_immediates_extended :
    reads (ext 51 0 0 0 0 6 200 51) (.addiX { d := 200, a := 6, imm := .imm10 51 }) ∧
    reads (ext 52 0 0 0 0 6 200 52) (.andiX { d := 200, a := 6, imm := .imm10 52 }) ∧
    reads (ext 53 0 0 0 0 6 200 53) (.oriX { d := 200, a := 6, imm := .imm10 53 }) ∧
    reads (ext 54 0 0 0 0 6 200 54) (.xoriX { d := 200, a := 6, imm := .imm10 54 }) ∧
    reads (ext 55 0 0 0 0 6 200 55) (.shliX { d := 200, a := 6, imm := .imm10 55 }) ∧
    reads (ext 56 0 0 0 0 6 200 56) (.shriX { d := 200, a := 6, imm := .imm10 56 }) ∧
    reads (ext 57 0 0 0 0 6 200 57) (.sraiX { d := 200, a := 6, imm := .imm10 57 }) ∧
    reads (ext 58 0 0 0 0 6 200 58) (.rotliX { d := 200, a := 6, imm := .imm10 58 }) ∧
    reads (ext 59 0 0 0 0 6 200 59) (.muliX { d := 200, a := 6, imm := .imm10 59 }) ∧
    reads (ext 0x3C 0 0 0 0 0 200 0xFFFFFFFF) (.liX { d := 200, imm := .imm10 0xFFFFFFFF }) ∧
    reads (ext 0x3D 0 0 0 0 0 200 0x80000000) (.lpcX { d := 200, imm := .imm10 0x80000000 }) ∧
    reads ([lit (ri 0x3C 5 0), 2, 1]) (.liX { d := 5, imm := .lit01 0x100000002 }) ∧
    reads ([lit (rrr 0x33 5 6 0), 2, 1]) (.addiX { d := 5, a := 6, imm := .lit01 0x100000002 }) ∧
    reads (longer (ext 0x35 0 0x8000 0 0 6 200 0) 2 1) (.oriX { d := 200, a := 6, synA := true, imm := .lit11 0x100000002 }) := by
  and_intros <;> rfl

theorem test_decode_control :
    reads ([cs 0x3E 4 5 2 2 0]) (.skp 4 5 2 2 false) ∧
    reads ([cs 0x3E 5 0x40 15 3 0 - 0x40 * 2 ^ 18]) (.skp 5 0 15 3 false) ∧
    reads ([cs 0x3E 5 63 10 1 1]) (.skp 5 63 10 1 true) ∧
    reads (ext 0x3E 0 0xC000 0 7 6 0 0x2D) (.skpX { a := 6, b := 7, synA := true, synB := true } 13 2 false 0) ∧
    reads (ext 0x3E 0 0 0 0 6 0 0xFFFFFF53) (.skpX { a := 6 } 3 1 true 0xFFFFFF) ∧
    reads ([j 0x3F 0x1FFFFF]) (.br 0x1FFFFF) ∧
    reads ([j 0x40 0x100000]) (.call 0x100000) ∧
    reads ([rrr 0x41 0 6 127]) (.jmp 6 127) ∧
    reads ([rrr 0x42 5 6 64]) (.callr 5 6 64) ∧
    reads ([rrr 0x43 0 0 0]) (.ret) ∧
    reads ([ri 0x44 6 0x3FFD]) (.dbnz 6 0x3FFD) ∧
    reads ([ri 0x45 9 0x032]) (.mfs 9 0x032) ∧
    reads ([ri 0x46 9 0x020]) (.mts 9 0x020) ∧
    reads ([rrr 0x47 127 0 0]) (.fset 127) ∧
    reads ([rrr 0x48 1 0 0]) (.fclr 1) ∧
    reads (ext 0x41 0 0x8000 0 0 6 0 4) (.jmpX { a := 6, synA := true, imm := .imm10 4 }) ∧
    reads (ext 0x42 0 0 0 0 6 200 4) (.callrX { d := 200, a := 6, imm := .imm10 4 }) ∧
    reads (ext 0x44 0 0 0 0 0 200 4) (.dbnzX { d := 200, imm := .imm10 4 }) ∧
    reads (ext 0x45 0 0 0 0 0 200 9) (.mfsX { d := 200, imm := .imm10 9 }) ∧
    reads (ext 0x46 0 0 0 0 0 200 7) (.mtsX (.ext 200 7)) ∧
    reads ([lit (ri 0x46 0 7), 2, 1]) (.mtsX (.lit 7 0x100000002)) ∧
    reads (ext 0x47 0 0 0 0 0 200 0) (.fsetX { d := 200 }) ∧
    reads (ext 0x48 0 0 0 0 0 200 0) (.fclrX { d := 200 }) := by
  and_intros <;> rfl

theorem test_decode_loads_and_stores :
    reads ([m 80 10 6 0 16]) (.ldb 10 6 0 16) ∧
    reads ([m 81 11 6 1 17]) (.ldbu 11 6 1 17) ∧
    reads ([m 82 12 6 2 18]) (.ldh 12 6 2 18) ∧
    reads ([m 83 13 6 3 19]) (.ldhu 13 6 3 19) ∧
    reads ([m 84 14 6 0 20]) (.ldw 14 6 0 20) ∧
    reads ([m 85 15 6 1 21]) (.ldwu 15 6 1 21) ∧
    reads ([m 86 16 6 2 22]) (.ldd 16 6 2 22) ∧
    reads ([m 87 17 6 3 23]) (.stb 17 6 3 23) ∧
    reads ([m 88 18 6 0 24]) (.sth 18 6 0 24) ∧
    reads ([m 89 19 6 1 25]) (.stw 19 6 1 25) ∧
    reads ([m 90 20 6 2 26]) (.std 20 6 2 26) ∧
    reads ([m 0x5B 6 7 1 31]) (.ldp 6 7 1 31) ∧
    reads ([m 0x5C 6 7 1 16]) (.stp 6 7 1 16) ∧
    reads ([m 0x5D 1 7 3 15]) (.ldf 1 7 3 15) ∧
    reads ([m 0x5E 127 7 2 1]) (.ldfw 127 7 2 1) ∧
    reads ([m 0x61 9 7 2 1]) (.wtne 9 7 2 1) ∧
    reads ([m 0x62 0 7 2 1]) (.pin 7 2 1) ∧
    reads ([m 0x63 0 7 1 2]) (.unpin 7 1 2) ∧
    reads ([m 0x64 0 7 3 3]) (.flush 7 3 3) ∧
    reads ([m 0x65 0 7 0 4]) (.pref 7 0 4) ∧
    reads ([m 0x68 0 7 2 5]) (.go 7 2 5) := by
  and_intros <;> rfl

theorem test_decode_loads_extended :
    reads (ext 80 0 0x0D09 0 11 10 9 80) (.ldbX { d := 9, a := 10, b := 11, scope := 3, ord := 1, sp := 2, hint := 1, imm := .imm10 80 }) ∧
    reads (ext 81 0 0x0D09 0 11 10 9 81) (.ldbuX { d := 9, a := 10, b := 11, scope := 3, ord := 1, sp := 2, hint := 1, imm := .imm10 81 }) ∧
    reads (ext 82 0 0x0D09 0 11 10 9 82) (.ldhX { d := 9, a := 10, b := 11, scope := 3, ord := 1, sp := 2, hint := 1, imm := .imm10 82 }) ∧
    reads (ext 83 0 0x0D09 0 11 10 9 83) (.ldhuX { d := 9, a := 10, b := 11, scope := 3, ord := 1, sp := 2, hint := 1, imm := .imm10 83 }) ∧
    reads (ext 84 0 0x0D09 0 11 10 9 84) (.ldwX { d := 9, a := 10, b := 11, scope := 3, ord := 1, sp := 2, hint := 1, imm := .imm10 84 }) ∧
    reads (ext 85 0 0x0D09 0 11 10 9 85) (.ldwuX { d := 9, a := 10, b := 11, scope := 3, ord := 1, sp := 2, hint := 1, imm := .imm10 85 }) ∧
    reads (ext 86 0 0x0D09 0 11 10 9 86) (.lddX { d := 9, a := 10, b := 11, scope := 3, ord := 1, sp := 2, hint := 1, imm := .imm10 86 }) ∧
    reads (ext 0x5B 0 0x0D09 0 11 10 254 1) (.ldpX { d := 254, a := 10, b := 11, scope := 3, ord := 1, sp := 2, hint := 1, imm := .imm10 1 }) ∧
    reads (ext 0x5D 0 0x4009 0 11 10 9 8) (.ldfX { d := 9, a := 10, b := 11, synB := true, sp := 2, hint := 1, imm := .imm10 8 }) ∧
    reads (ext 0x5E 0 0x4009 0 11 10 9 8) (.ldfwX { d := 9, a := 10, b := 11, synB := true, sp := 2, hint := 1, imm := .imm10 8 }) ∧
    reads ([lit (m 0x56 5 6 3 0), 2, 1]) (.lddX { d := 5, a := 6, sp := 3, imm := .lit01 0x100000002 }) ∧
    reads (longer (ext 0x50 0 0 0 11 10 9 0) 2 1) (.ldbX { d := 9, a := 10, b := 11, imm := .lit11 0x100000002 }) := by
  and_intros <;> rfl

theorem test_decode_stores_extended :
    reads (ext 87 0 0x3606 200 11 10 0 4) (.stbX { a := 10, b := 11, c := 200, scope := 5, ord := 2, sp := 1, hint := 2, synC := true, imm := .imm10 4 }) ∧
    reads (ext 88 0 0x3606 200 11 10 0 4) (.sthX { a := 10, b := 11, c := 200, scope := 5, ord := 2, sp := 1, hint := 2, synC := true, imm := .imm10 4 }) ∧
    reads (ext 89 0 0x3606 200 11 10 0 4) (.stwX { a := 10, b := 11, c := 200, scope := 5, ord := 2, sp := 1, hint := 2, synC := true, imm := .imm10 4 }) ∧
    reads (ext 90 0 0x3606 200 11 10 0 4) (.stdX { a := 10, b := 11, c := 200, scope := 5, ord := 2, sp := 1, hint := 2, synC := true, imm := .imm10 4 }) ∧
    reads (ext 0x5C 0 0x3606 200 11 10 0 4) (.stpX { a := 10, b := 11, c := 200, scope := 5, ord := 2, sp := 1, hint := 2, synC := true, imm := .imm10 4 }) ∧
    reads ([lit (m 0x5A 5 6 3 0), 2, 1]) (.stdX { a := 6, c := 5, sp := 3, imm := .lit01 0x100000002 }) ∧
    reads (ext 0x61 0 0x0108 200 11 10 0 8) (.wtneX { a := 10, b := 11, c := 200, ord := 1, sp := 2, imm := .imm10 8 }) ∧
    reads (ext 98 0 0x000C 0 11 10 0 64) (.pinX { a := 10, b := 11, sp := 3, imm := .imm10 64 }) ∧
    reads (ext 99 0 0x000C 0 11 10 0 64) (.unpinX { a := 10, b := 11, sp := 3, imm := .imm10 64 }) ∧
    reads (ext 100 0 0x000C 0 11 10 0 64) (.flushX { a := 10, b := 11, sp := 3, imm := .imm10 64 }) ∧
    reads (ext 101 0 0x000C 0 11 10 0 64) (.prefX { a := 10, b := 11, sp := 3, imm := .imm10 64 }) ∧
    reads (ext 104 0 0x000C 0 11 10 0 64) (.goX { a := 10, b := 11, sp := 3, imm := .imm10 64 }) := by
  and_intros <;> rfl

theorem test_decode_atomics :
    reads (ext 0x5F 0 0x1304 7 0 6 5 0) (.aadd { d := 5, a := 6, c := 7, scope := 4, ord := 3, sp := 1 }) ∧
    reads (ext 0x5F 1 0x1304 7 0 6 5 0) (.aand { d := 5, a := 6, c := 7, scope := 4, ord := 3, sp := 1 }) ∧
    reads (ext 0x5F 2 0x1304 7 0 6 5 0) (.aor { d := 5, a := 6, c := 7, scope := 4, ord := 3, sp := 1 }) ∧
    reads (ext 0x5F 3 0x1304 7 0 6 5 0) (.axor { d := 5, a := 6, c := 7, scope := 4, ord := 3, sp := 1 }) ∧
    reads (ext 0x5F 4 0x1304 7 0 6 5 0) (.amin { d := 5, a := 6, c := 7, scope := 4, ord := 3, sp := 1 }) ∧
    reads (ext 0x5F 5 0x1304 7 0 6 5 0) (.amax { d := 5, a := 6, c := 7, scope := 4, ord := 3, sp := 1 }) ∧
    reads (ext 0x5F 6 0x1304 7 0 6 5 0) (.aminu { d := 5, a := 6, c := 7, scope := 4, ord := 3, sp := 1 }) ∧
    reads (ext 0x5F 7 0x1304 7 0 6 5 0) (.amaxu { d := 5, a := 6, c := 7, scope := 4, ord := 3, sp := 1 }) ∧
    reads (ext 0x5F 8 0x1304 7 0 6 5 0) (.aswp { d := 5, a := 6, c := 7, scope := 4, ord := 3, sp := 1 }) ∧
    reads (ext 0x5F 16 0x1104 7 0 6 5 4) (.aaddw { d := 5, a := 6, c := 7, scope := 4, ord := 1, sp := 1, imm := .imm10 4 }) ∧
    reads (ext 0x5F 17 0x1104 7 0 6 5 4) (.aandw { d := 5, a := 6, c := 7, scope := 4, ord := 1, sp := 1, imm := .imm10 4 }) ∧
    reads (ext 0x5F 18 0x1104 7 0 6 5 4) (.aorw { d := 5, a := 6, c := 7, scope := 4, ord := 1, sp := 1, imm := .imm10 4 }) ∧
    reads (ext 0x5F 19 0x1104 7 0 6 5 4) (.axorw { d := 5, a := 6, c := 7, scope := 4, ord := 1, sp := 1, imm := .imm10 4 }) ∧
    reads (ext 0x5F 20 0x1104 7 0 6 5 4) (.aminw { d := 5, a := 6, c := 7, scope := 4, ord := 1, sp := 1, imm := .imm10 4 }) ∧
    reads (ext 0x5F 21 0x1104 7 0 6 5 4) (.amaxw { d := 5, a := 6, c := 7, scope := 4, ord := 1, sp := 1, imm := .imm10 4 }) ∧
    reads (ext 0x5F 22 0x1104 7 0 6 5 4) (.aminuw { d := 5, a := 6, c := 7, scope := 4, ord := 1, sp := 1, imm := .imm10 4 }) ∧
    reads (ext 0x5F 23 0x1104 7 0 6 5 4) (.amaxuw { d := 5, a := 6, c := 7, scope := 4, ord := 1, sp := 1, imm := .imm10 4 }) ∧
    reads (ext 0x5F 24 0x1104 7 0 6 5 4) (.aswpw { d := 5, a := 6, c := 7, scope := 4, ord := 1, sp := 1, imm := .imm10 4 }) ∧
    reads (ext 0x5F 9 0x1324 7 8 6 5 0) (.acas { d := 5, a := 6, b := 8, c := 7, scope := 4, ord := 3, rnd := 1, sp := 1 }) ∧
    reads (ext 0x5F 25 0 7 8 6 5 0) (.acasw { d := 5, a := 6, b := 8, c := 7 }) ∧
    reads (ext 0x60 0 0x0E00 0 0 0 0 0) (.fence { scope := 3, ord := 2 }) := by
  and_intros <;> rfl

theorem test_decode_cluster :
    reads ([rrr 0x66 60 4 0]) (.alloc 60 4) ∧
    reads ([rrr 0x67 0 4 0]) (.free 4) ∧
    reads (ext 0x66 0 0x8000 0 0 4 200 0) (.allocX { d := 200, a := 4, synA := true }) ∧
    reads (ext 0x67 0 0 0 0 200 0 0) (.freeX { a := 200 }) ∧
    reads ([ri 0x69 0 7]) (.bara 7) ∧
    reads ([ri 0x6A 0 6]) (.barw 6) ∧
    reads ([rrr 0x6B 0 11 5]) (.barset 11 5) := by
  and_intros <;> rfl

theorem test_decode_vector_lanes :
    reads (ext 128 0 48 0 2 1 3 0) (.vadd .f32 { d := 3, a := 1, b := 2, rnd := 1, sat := true }) ∧
    reads (ext 128 1 48 0 2 1 3 0) (.vadd .bf16 { d := 3, a := 1, b := 2, rnd := 1, sat := true }) ∧
    reads (ext 128 2 48 0 2 1 3 0) (.vadd .f16 { d := 3, a := 1, b := 2, rnd := 1, sat := true }) ∧
    reads (ext 128 4 16 0 2 1 3 0) (.vadd .i32 { d := 3, a := 1, b := 2, sat := true }) ∧
    reads (ext 128 5 16 0 2 1 3 0) (.vadd .i8 { d := 3, a := 1, b := 2, sat := true }) ∧
    reads (ext 129 0 48 0 2 1 3 0) (.vsub .f32 { d := 3, a := 1, b := 2, rnd := 1, sat := true }) ∧
    reads (ext 129 1 48 0 2 1 3 0) (.vsub .bf16 { d := 3, a := 1, b := 2, rnd := 1, sat := true }) ∧
    reads (ext 129 2 48 0 2 1 3 0) (.vsub .f16 { d := 3, a := 1, b := 2, rnd := 1, sat := true }) ∧
    reads (ext 129 4 16 0 2 1 3 0) (.vsub .i32 { d := 3, a := 1, b := 2, sat := true }) ∧
    reads (ext 129 5 16 0 2 1 3 0) (.vsub .i8 { d := 3, a := 1, b := 2, sat := true }) ∧
    reads (ext 130 0 48 0 2 1 3 0) (.vmul .f32 { d := 3, a := 1, b := 2, rnd := 1, sat := true }) ∧
    reads (ext 130 1 48 0 2 1 3 0) (.vmul .bf16 { d := 3, a := 1, b := 2, rnd := 1, sat := true }) ∧
    reads (ext 130 2 48 0 2 1 3 0) (.vmul .f16 { d := 3, a := 1, b := 2, rnd := 1, sat := true }) ∧
    reads (ext 130 4 16 0 2 1 3 0) (.vmul .i32 { d := 3, a := 1, b := 2, sat := true }) ∧
    reads (ext 131 0 144 4 2 1 3 0) (.vfma .f32 { d := 3, a := 1, b := 2, c := 4, rnd := 4, sat := true }) ∧
    reads (ext 131 1 144 4 2 1 3 0) (.vfma .bf16 { d := 3, a := 1, b := 2, c := 4, rnd := 4, sat := true }) ∧
    reads (ext 131 2 144 4 2 1 3 0) (.vfma .f16 { d := 3, a := 1, b := 2, c := 4, rnd := 4, sat := true }) ∧
    reads (ext 132 0 0 0 2 1 3 0) (.vmin .f32 { d := 3, a := 1, b := 2 }) ∧
    reads (ext 132 1 0 0 2 1 3 0) (.vmin .bf16 { d := 3, a := 1, b := 2 }) ∧
    reads (ext 132 2 0 0 2 1 3 0) (.vmin .f16 { d := 3, a := 1, b := 2 }) ∧
    reads (ext 132 4 0 0 2 1 3 0) (.vmin .i32 { d := 3, a := 1, b := 2 }) ∧
    reads (ext 132 5 0 0 2 1 3 0) (.vmin .i8 { d := 3, a := 1, b := 2 }) ∧
    reads (ext 132 6 0 0 2 1 3 0) (.vmin .ui8 { d := 3, a := 1, b := 2 }) ∧
    reads (ext 133 0 0 0 2 1 3 0) (.vmax .f32 { d := 3, a := 1, b := 2 }) ∧
    reads (ext 133 1 0 0 2 1 3 0) (.vmax .bf16 { d := 3, a := 1, b := 2 }) ∧
    reads (ext 133 2 0 0 2 1 3 0) (.vmax .f16 { d := 3, a := 1, b := 2 }) ∧
    reads (ext 133 4 0 0 2 1 3 0) (.vmax .i32 { d := 3, a := 1, b := 2 }) ∧
    reads (ext 133 5 0 0 2 1 3 0) (.vmax .i8 { d := 3, a := 1, b := 2 }) ∧
    reads (ext 133 6 0 0 2 1 3 0) (.vmax .ui8 { d := 3, a := 1, b := 2 }) ∧
    reads (ext 134 0 16 0 0 1 3 0) (.vabs .f32 { d := 3, a := 1, sat := true }) ∧
    reads (ext 134 1 16 0 0 1 3 0) (.vabs .bf16 { d := 3, a := 1, sat := true }) ∧
    reads (ext 134 2 16 0 0 1 3 0) (.vabs .f16 { d := 3, a := 1, sat := true }) ∧
    reads (ext 134 4 16 0 0 1 3 0) (.vabs .i32 { d := 3, a := 1, sat := true }) ∧
    reads (ext 134 5 16 0 0 1 3 0) (.vabs .i8 { d := 3, a := 1, sat := true }) ∧
    reads (ext 139 4 0 0 2 1 3 0) (.vshl .i32 { d := 3, a := 1, b := 2 }) ∧
    reads (ext 139 5 0 0 2 1 3 0) (.vshl .i8 { d := 3, a := 1, b := 2 }) ∧
    reads (ext 140 4 0 0 2 1 3 0) (.vshr .i32 { d := 3, a := 1, b := 2 }) ∧
    reads (ext 140 5 0 0 2 1 3 0) (.vshr .i8 { d := 3, a := 1, b := 2 }) ∧
    reads (ext 141 4 0 0 2 1 3 0) (.vsra .i32 { d := 3, a := 1, b := 2 }) ∧
    reads (ext 141 5 0 0 2 1 3 0) (.vsra .i8 { d := 3, a := 1, b := 2 }) ∧
    reads (ext 148 0 64 0 0 1 3 0) (.vrcp .f32 { d := 3, a := 1, rnd := 2 }) ∧
    reads (ext 148 1 64 0 0 1 3 0) (.vrcp .bf16 { d := 3, a := 1, rnd := 2 }) ∧
    reads (ext 148 2 64 0 0 1 3 0) (.vrcp .f16 { d := 3, a := 1, rnd := 2 }) ∧
    reads (ext 149 0 64 0 0 1 3 0) (.vrsq .f32 { d := 3, a := 1, rnd := 2 }) ∧
    reads (ext 149 1 64 0 0 1 3 0) (.vrsq .bf16 { d := 3, a := 1, rnd := 2 }) ∧
    reads (ext 149 2 64 0 0 1 3 0) (.vrsq .f16 { d := 3, a := 1, rnd := 2 }) ∧
    reads (ext 150 0 64 0 0 1 3 0) (.vexp2 .f32 { d := 3, a := 1, rnd := 2 }) ∧
    reads (ext 150 1 64 0 0 1 3 0) (.vexp2 .bf16 { d := 3, a := 1, rnd := 2 }) ∧
    reads (ext 150 2 64 0 0 1 3 0) (.vexp2 .f16 { d := 3, a := 1, rnd := 2 }) ∧
    reads (ext 151 0 64 0 0 1 3 0) (.vlog2 .f32 { d := 3, a := 1, rnd := 2 }) ∧
    reads (ext 151 1 64 0 0 1 3 0) (.vlog2 .bf16 { d := 3, a := 1, rnd := 2 }) ∧
    reads (ext 151 2 64 0 0 1 3 0) (.vlog2 .f16 { d := 3, a := 1, rnd := 2 }) := by
  and_intros <;> rfl

theorem test_decode_vector_moves :
    reads (ext 0x87 0 0 0 2 1 3 0) (.vand { d := 3, a := 1, b := 2 }) ∧
    reads (ext 0x88 0 0 0 2 1 3 0) (.vor { d := 3, a := 1, b := 2 }) ∧
    reads (ext 0x89 0 0 0 2 1 3 0) (.vxor { d := 3, a := 1, b := 2 }) ∧
    reads (ext 0x8A 0 0 0 0 1 3 0) (.vnot { d := 3, a := 1 }) ∧
    reads (ext 0x8E 6 0 0 2 1 3 7) (.vcmp .ui8 7 { d := 3, a := 1, b := 2 }) ∧
    reads (ext 0x8F 0 0 4 2 1 3 0) (.vsel { d := 3, a := 1, b := 2, c := 4 }) ∧
    reads (ext 0x90 0 0 0 2 1 3 0) (.vperm .w32 { d := 3, a := 1, b := 2 }) ∧
    reads (ext 0x90 2 0 0 2 1 3 0) (.vperm .w8 { d := 3, a := 1, b := 2 }) ∧
    reads (ext 0x91 1 0x8000 0 0 200 3 0) (.vbcast .w16 { d := 3, a := 200, synA := true }) ∧
    reads (ext 0x92 1 0x4000 0 200 1 250 0) (.vext .w16 { d := 250, a := 1, b := 200, synB := true }) ∧
    reads (ext 0x93 5 0 0 0 1 200 2) (.vred .i8 2 { d := 200, a := 1 }) ∧
    reads (ext 0x93 2 0x0070 0 0 1 200 0) (.vred .f16 0 { d := 200, a := 1, rnd := 3, sat := true }) ∧
    reads (ext 0x99 0 0x0070 63 62 1 3 0) (.vrq { d := 3, a := 1, b := 62, c := 63, rnd := 3, sat := true }) ∧
    reads (ext 0x9A 0 0 0 0 1 3 0) (.vmov { d := 3, a := 1 }) ∧
    reads (ext 0x9B 0 0 0 0 1 200 0) (.vcnt { d := 200, a := 1 }) ∧
    reads (ext 0x9C 0 0 0 0 1 200 0) (.vfirst { d := 200, a := 1 }) := by
  and_intros <;> rfl

theorem test_decode_conversions :
    reads (ext 0x98 0 0x0030 0 0 1 3 0) (.vcvt .bf16F32 { d := 3, a := 1, rnd := 1, sat := true }) ∧
    reads (ext 0x98 1 0x0030 0 0 1 3 0) (.vcvt .f16F32 { d := 3, a := 1, rnd := 1, sat := true }) ∧
    reads (ext 0x98 2 0x0030 0 0 1 3 0) (.vcvt .f32Bf16 { d := 3, a := 1, rnd := 1, sat := true }) ∧
    reads (ext 0x98 3 0x0030 0 0 1 3 0) (.vcvt .f32F16 { d := 3, a := 1, rnd := 1, sat := true }) ∧
    reads (ext 0x98 4 0x0030 0 9 1 3 0) (.vcvt .b8F32 { d := 3, a := 1, b := 9, rnd := 1, sat := true }) ∧
    reads (ext 0x98 5 0x0030 0 9 1 3 0) (.vcvt .f32B8 { d := 3, a := 1, b := 9, rnd := 1, sat := true }) ∧
    reads (ext 0x98 6 0x0030 0 0 1 3 0) (.vcvt .i32F32 { d := 3, a := 1, rnd := 1, sat := true }) ∧
    reads (ext 0x98 7 0x0030 0 0 1 3 0) (.vcvt .f32I32 { d := 3, a := 1, rnd := 1, sat := true }) ∧
    reads (ext 0x98 8 0x0030 0 0 1 3 0) (.vcvt .i8F32 { d := 3, a := 1, rnd := 1, sat := true }) ∧
    reads (ext 0x98 9 0x0030 0 0 1 3 0) (.vcvt .f32I8 { d := 3, a := 1, rnd := 1, sat := true }) ∧
    reads (ext 0x98 10 0x0030 0 9 1 3 0) (.vcvt .b8K4 { d := 3, a := 1, b := 9, rnd := 1, sat := true }) ∧
    reads (ext 0x98 11 0x0030 0 0 1 3 0) (.vcvt .bf16F16 { d := 3, a := 1, rnd := 1, sat := true }) ∧
    reads (ext 0x98 12 0x0030 0 0 1 3 0) (.vcvt .f16Bf16 { d := 3, a := 1, rnd := 1, sat := true }) ∧
    reads (ext 0x98 13 0x0030 0 0 1 3 0) (.vcvt .i8I32 { d := 3, a := 1, rnd := 1, sat := true }) ∧
    reads (ext 0x98 14 0x0030 0 0 1 3 0) (.vcvt .i32I8 { d := 3, a := 1, rnd := 1, sat := true }) ∧
    reads (ext 0x98 15 0x0030 0 0 1 3 0) (.vcvt .i32Ui8 { d := 3, a := 1, rnd := 1, sat := true }) := by
  and_intros <;> rfl

theorem test_decode_vector_memory :
    reads (ext 0x9D 0 0x0D0E 0 201 200 3 128) (.vld { d := 3, a := 200, b := 201, scope := 3, ord := 1, sp := 3, hint := 2, imm := .imm10 128 }) ∧
    reads (ext 0x9E 0 0x0E0E 3 201 200 0 128) (.vst { a := 200, b := 201, c := 3, scope := 3, ord := 2, sp := 3, hint := 2, imm := .imm10 128 }) ∧
    reads (ext 0x9F 0 0x000E 0 201 200 3 128) (.vlds .w32 { d := 3, a := 200, b := 201, sp := 3, hint := 2, imm := .imm10 128 }) ∧
    reads (ext 0xA0 1 0x000E 3 201 200 0 128) (.vsts .w16 { a := 200, b := 201, c := 3, sp := 3, hint := 2, imm := .imm10 128 }) ∧
    reads (ext 0xA1 2 0x000E 0 15 200 3 128) (.vgat .w8 { d := 3, a := 200, b := 15, sp := 3, hint := 2, imm := .imm10 128 }) ∧
    reads (ext 0xA2 0 0x000E 3 15 200 0 128) (.vsca .w32 { a := 200, b := 15, c := 3, sp := 3, hint := 2, imm := .imm10 128 }) ∧
    reads (ext 0xA3 0 0x000E 0 63 200 3 128) (.vldt { d := 3, a := 200, b := 63, sp := 3, hint := 2, imm := .imm10 128 }) ∧
    reads (ext 0xA4 0 0x005E 3 63 200 0 128) (.vstt { a := 200, b := 63, c := 3, rnd := 2, sat := true, sp := 3, hint := 2, imm := .imm10 128 }) ∧
    reads (longer (ext 0x9D 0 0 0 0 1 3 0) 2 1) (.vld { d := 3, a := 1, imm := .lit11 0x100000002 }) := by
  and_intros <;> rfl

theorem test_decode_loom :
    reads (ext 0xC0 0 0x8008 0 0 200 63 4) (.tdef { d := 63, a := 200, synA := true, sp := 2, imm := .imm10 4 }) ∧
    reads (ext 0xC1 0 0 0 0 0 15 1) (.tclaim { d := 15, imm := .imm10 1 }) ∧
    reads (ext 0xC2 0 0 0 0 0 0 16) (.trel { imm := .imm10 16 }) ∧
    reads (ext 0xC3 0 0x0D04 0 63 200 15 4) (.tld { d := 15, a := 200, b := 63, scope := 3, ord := 1, sp := 1, imm := .imm10 4 }) ∧
    reads (ext 0xC4 0 0 0 14 15 3 0) (.mma { d := 3, a := 15, b := 14 }) ∧
    reads (ext 0xC5 0 0x2004 200 63 15 3 0) (.mmam { d := 3, a := 15, b := 63, c := 200, synC := true, sp := 1 }) ∧
    reads (ext 0xC6 0 0 0 0 0 3 0) (.acz { d := 3 }) ∧
    reads (ext 0xC7 0 0x0104 0 0 200 3 4) (.acld { d := 3, a := 200, ord := 1, sp := 1, imm := .imm10 4 }) ∧
    reads (ext 0xC8 2 0x0234 3 0 200 0 4) (.acst .f16 { a := 200, c := 3, ord := 2, rnd := 1, sat := true, sp := 1, imm := .imm10 4 }) ∧
    reads (ext 0xC9 0 0 0 0 3 9 127) (.acrd { d := 9, a := 3, imm := .imm10 127 }) := by
  and_intros <;> rfl

theorem test_decode_copies :
    reads (ext 0xD0 0 0xA004 201 0 200 0 4) (.xdef { a := 200, c := 201, synA := true, synC := true, sp := 1, imm := .imm10 4 }) ∧
    reads (ext 0xD1 0 0xC000 0 201 200 7 0) (.xfer { d := 7, a := 200, b := 201, synA := true, synB := true }) ∧
    reads (ext 0xD2 0 0 0 0 7 0 0) (.xwait { a := 7 }) ∧
    reads (ext 0xD3 0 0 0 0 7 200 0) (.xstat { d := 200, a := 7 }) ∧
    reads (ext 0xD4 0 0 0 0 7 0 0) (.xcan { a := 7 }) ∧
    reads (ext 0xD5 0 0x4004 0 201 200 0 4) (.xpub { a := 200, b := 201, synB := true, sp := 1, imm := .imm10 4 }) ∧
    reads ([rrr 0x1C8 127 0 0]) (.wsref 127) ∧
    reads (ext 0x1C8 0 0 0 0 0 200 0) (.wsrefX { d := 200 }) := by
  and_intros <;> rfl

theorem test_decode_messages :
    reads (ext 0xE0 0 0 0 201 200 0 0) (.post { a := 200, b := 201 }) ∧
    reads (ext 0xE1 0 0x4000 0 201 63 0 0) (.mwait { a := 63, b := 201, synB := true }) ∧
    reads (ext 0xE2 0 0 0 0 63 200 0) (.mrd { d := 200, a := 63 }) ∧
    reads (ext 0xE3 0 0 0 201 63 0 0) (.mset { a := 63, b := 201 }) ∧
    reads (ext 0xE4 0 0x2004 202 201 200 0 0) (.send { a := 200, b := 201, c := 202, synC := true, sp := 1 }) ∧
    reads (ext 0xE5 0 0x0004 0 202 201 200 0) (.recv { d := 200, a := 201, b := 202, sp := 1 }) ∧
    reads (ext 0xE6 0 0xC000 252 202 201 200 0) (.spawn { d := 200, a := 201, b := 202, c := 252, synA := true, synB := true }) ∧
    reads (ext 0xE6 1 0 252 202 201 200 0) (.spawnGrp { d := 200, a := 201, b := 202, c := 252 }) ∧
    reads (ext 0xE7 0 0x000C 203 202 201 200 0) (.subscribe { d := 200, a := 201, b := 202, c := 203, sp := 3 }) ∧
    reads (ext 0xE8 0 0 0 0 201 0 0) (.unsub { a := 201 }) ∧
    reads (ext 0xE9 0 0 0 0 0 0 0) (.subflush {}) := by
  and_intros <;> rfl

theorem test_decode_timed :
    reads (ext 0xF0 0 0x0004 0 0 200 0 0) (.tbind { a := 200, sp := 1 }) ∧
    reads (ext 0xF1 0 0 0 0 0 200 0) (.tnext { d := 200 }) ∧
    reads (ext 0xF2 0 0 202 201 200 0 0) (.tsend { a := 200, b := 201, c := 202 }) ∧
    reads (ext 0xF3 0 0 0 0 0 0 0) (.tdone {}) ∧
    reads (ext 0xF4 0 0x8004 0 0 200 0 0) (.tirr { a := 200, synA := true, sp := 1 }) ∧
    reads (ext 0xF5 0 0 0 0 0 0 0) (.tgvt {}) := by
  and_intros <;> rfl

theorem test_decode_scheduler_and_system :
    reads (ext 0x100 0 0x2000 202 201 200 0 0) (.fork { a := 200, b := 201, c := 202, synC := true }) ∧
    reads ([rrr 0x101 0 12 0]) (.join 12) ∧
    reads (ext 0x101 0 0x8000 0 0 200 0 0) (.joinX { a := 200, synA := true }) ∧
    reads ([rrr 0x102 0 0 0]) (.exit) ∧
    reads ([rrr 0x103 0 0 0]) (.yield) ∧
    reads ([rrr 0x104 0 9 0]) (.ndone 9) ∧
    reads (ext 0x104 0 0 0 0 200 0 0) (.ndoneX { a := 200 }) ∧
    reads (ext 0x105 0 0 0 201 200 0 0) (.qsub { a := 200, b := 201 }) ∧
    reads (ext 0x106 0 0 0 0 201 200 0) (.ptokTake { d := 200, a := 201 }) ∧
    reads (ext 0x106 1 0 0 0 201 200 0) (.ptokGive { d := 200, a := 201 }) ∧
    reads ([ri 0x1C0 0 0x3FFF]) (.trap 0x3FFF) ∧
    reads ([ri 0x1C1 0 16]) (.sys 16) ∧
    reads ([rrr 0x1C2 0 0 0]) (.eret) ∧
    reads ([rrr 0x1C3 0 0 0]) (.halt) ∧
    reads ([rrr 0x1C4 0 0 0]) (.brk) ∧
    reads ([ri 0x1C5 0 2]) (.rfpart 2) ∧
    reads ([ri 0x1C6 0 8]) (.wmask 8) ∧
    reads (ext 0x1C7 0 0 0 0 0 0 0) (.xlinvAll {}) ∧
    reads (ext 0x1C7 1 0 0 201 200 0 0) (.xlinvPage { a := 200, b := 201 }) ∧
    reads (ext 0x1C7 2 0 0 201 0 0 0) (.xlinvProc { b := 201 }) ∧
    reads ([rrr 0x1C9 9 10 0]) (.ctrrd 9 10) ∧
    reads (ext 0x1C9 0 0 0 0 200 201 0) (.ctrrdX { d := 201, a := 200 }) ∧
    reads ([rrr 0x1CA 0 10 11]) (.ctrcfg 10 11) ∧
    reads (ext 0x1CA 0 0 0 201 200 0 0) (.ctrcfgX { a := 200, b := 201 }) := by
  and_intros <;> rfl

/-! ### Refused encodings (R65), one for each check -/

/-- The words are refused with a name. -/
abbrev refuses (ws : List IWord) (x : DecodeError) : Prop := decode ws = .error x

theorem test_decode_refuses :
    refuses [] .truncated ∧ refuses [rrr 0 0 0 0] .reservedOp ∧ refuses [ri 0x1FF 0 0] .reservedOp ∧ refuses [lit (j 0x3F 0), 0, 0] .badLen ∧
    refuses [lit (rrr 1 5 6 7), 0, 0] .badLen ∧ refuses (longer (ext 0xC4 0 0 0 14 15 3 0) 0 0) .badLen ∧ refuses (ext 0x80 3 0 0 2 1 3 0) .badSub ∧
    refuses (ext 0x5F 10 0 7 0 6 5 0) .badSub ∧ refuses (ext 0x106 2 0 0 0 5 5 0) .badSub ∧ refuses (ext 1 1 0 0 7 6 5 0) .badSub ∧
    refuses (ext 1 0 0 1 7 6 5 0) .nonzeroField ∧ refuses (ext 1 0 0x10 0 7 6 5 0) .nonzeroField ∧ refuses [rrr 0x43 0 0 1] .nonzeroField ∧
    refuses (ext 0x5A 0 0x0500 7 0 6 0 0) .badModifier ∧ refuses (ext 0x56 0 0x0400 0 0 6 5 0) .badModifier ∧ refuses (ext 0x56 0 0x0003 0 0 6 5 0) .badModifier ∧
    refuses (ext 0x60 0 0 0 0 0 0 0) .badModifier ∧ refuses (ext 0x80 0 0x00A0 0 2 1 3 0) .badModifier ∧ refuses (ext 1 0 0x8000 0 7 0 5 0) .badSync ∧
    refuses (ext 0x80 0 0 0 2 1 64 0) .badRegister ∧ refuses (ext 0xD1 0 0 0 5 4 8 0) .badRegister ∧ refuses [m 0x5D 0 7 0 0] .badRegister ∧
    refuses [m 0x5B 7 7 0 0] .badAlign ∧ refuses (ext 0xE6 0 0 6 5 4 3 0) .badAlign ∧ refuses [cs 0x3E 4 5 2 0 0] .badSkip ∧ refuses [cs 0x3E 4 64 10 1 1] .badSkip ∧
    refuses [cs 0x3E 4 1 14 1 0] .badSkip ∧ refuses [rrr 0x37 5 6 64] .badImmediate ∧ refuses [ri 0x1C6 0 3] .badImmediate ∧ refuses (ext 0xC1 0 0 0 0 0 15 2) .badImmediate ∧
    refuses [ri 0x45 5 0x00A] .badSpecial ∧ refuses [ri 0x46 5 0x001] .badSpecial := by
  and_intros <;> rfl

/-- An ill-formed term for each check of `Instr.check`, by the name the check gives. -/
theorem test_ill_formed : (∀ p ∈ ([(.jmpX { a := 6, imm := .lit11 0 }, .badLen), (.addX { d := 5, a := 6, b := 7, c := 1 }, .nonzeroField),
      (.addX { d := 5, a := 6, b := 7, imm := .imm10 1 }, .nonzeroField), (.addX { d := 5, synA := true }, .badSync), (.vadd .f32 { d := 64 }, .badRegister),
      (.lddX { d := 5, a := 6, ord := 2 }, .badModifier), (.lddX { d := 5, a := 6, ord := 1, scope := 6 }, .badModifier), (.lddX { d := 5, a := 6, scope := 1 }, .badModifier),
      (.vadd .f32 { rnd := 5 }, .badModifier), (.vadd .i32 { rnd := 1 }, .nonzeroField), (.vred .i8 0 { sat := true }, .nonzeroField), (.vmin .f32 { sat := true }, .nonzeroField), (.addX { sp := 1 }, .nonzeroField), (.addX { hint := 1 }, .nonzeroField),
      (.lddX { hint := 3 }, .badModifier), (.lddX { d := 200, imm := .lit01 5 }, .nonzeroField), (.vmul .i8 {}, .badSub), (.shli 5 6 64, .badImmediate),
      (.skp 4 5 2 0 false, .badSkip), (.skpX {} 14 1 true 0, .badSkip), (.mfs 5 0x00A, .badSpecial), (.mts 5 0x001, .badSpecial), (.ldp 5 6 0 0, .badAlign),
      (.ldf 0 6 0 0, .badRegister), (.bara 8, .badImmediate), (.rfpart 3, .badImmediate), (.wmask 3, .badImmediate), (.vcmp .f32 4 {}, .badImmediate), (.vred .f32 3 {}, .badImmediate),
      (.tclaim { d := 15, imm := .imm10 2 }, .badImmediate), (.trel { imm := .imm10 0 }, .badImmediate), (.acrd { imm := .imm10 128 }, .badImmediate),
      (.spawn { c := 6 }, .badAlign)] : List (Instr × DecodeError)), p.1.check = some p.2) := by decide +kernel

/-- Terms at the ends of their ranges are well-formed. -/
theorem test_well_formed : (∀ i ∈ ([.shli 5 6 63, .skp 4 5 2 3 false, .bara 7, .rfpart 2, .wmask 8, .tclaim { d := 15, imm := .imm10 1 }, .trel { imm := .imm10 16 },
      .acrd { imm := .imm10 127 }, .ldp 126 6 0 0, .mfs 5 0x032, .spawn { c := 252 }, .addX { d := 255, a := 255, b := 255, synA := true, synB := true },
      .acas { ord := 3, scope := 5, rnd := 1 }] : List Instr), i.wf = true) := by decide +kernel

/-! ### Single steps -/

/-- A READY task alone on core 0. -/
def task1 (t : Task) : State := { State.reset with ctxs := [(0, { state := .ready, task := t })] }

/-- A task with g6 and g7 given. -/
def args (a b : Word) : State := task1 { pc := 0x100, g := [(6, a), (7, b)] }

/-- A task with the vector registers v1 and v2 given. -/
def lanes (a b : Vec) : State := task1 { v := [(1, a), (2, b)] }

/-- The same on a core with an allocation of 64 KiB at byte 0x70000 of its SRAM. -/
def withPad (s : State) : State := { s with cores := [(0, { allocs := [(0, { base := 0x70000, size := 0x10000 })] })] }

/-- The state after an instruction. -/
noncomputable def ran (i : Instr) (s : State) : State := match exec i s with
  | .next t => t
  | _ => State.reset

/-- General register 5 after it. -/
noncomputable def gives (i : Instr) (a b : Word) : Word := (ran i (args a b)).g 5

/-- The lowest `w` bits of v3, and FLAGS, after it. -/
noncomputable def lane (i : Instr) (w : Nat) (a b : Vec) : Nat × Word := (((ran i (lanes a b)).vreg 3).toNat % 2 ^ w, (ran i (lanes a b)).task.flags)

/-- R89: sums wrap, the product's halves, shifts take six bits of B. -/
theorem test_three_operands : gives (.add 5 6 7) (-1) 2 = 1 ∧ gives (.sub 5 6 7) 0 1 = -1 ∧ gives (.mulh 5 6 7) (-1) 2 = -1 ∧ gives (.mulhu 5 6 7) (-1) 2 = 1 ∧
    gives (.andn 5 6 7) 0xFF 0x0F = 0xF0 ∧ gives (.shl 5 6 7) 1 65 = 2 ∧ gives (.sra 5 6 7) 0x8000000000000000 63 = -1 ∧ gives (.rotl 5 6 7) 0x8000000000000001 4 = 0x18 ∧
    gives (.min 5 6 7) (-1) 1 = -1 ∧ gives (.minu 5 6 7) (-1) 1 = 1 := by decide +kernel

/-- R91: word operations sign-extend. -/
theorem test_words : gives (.addw 5 6 7) 0x7FFFFFFF 1 = 0xFFFFFFFF80000000 ∧ gives (.subw 5 6 7) 0 1 = -1 ∧ gives (.shrw 5 6 7) 0xFFFFFFFF80000000 31 = 1 ∧
    gives (.sraw 5 6 7) 0x80000000 31 = -1 ∧ gives (.shlw 5 6 7) 1 31 = 0xFFFFFFFF80000000 := by decide +kernel

/-- The example of R92, and its edge. -/
theorem test_bit_fields : gives (.bext 5 6 7) 0xABCD00 0x1C8 = 0xCD ∧ gives (.bins 5 6 7) 0xCD 0x1C8 = 0xCD00 ∧ gives (.bext 5 6 7) (-1) 0xFFF = 1 ∧
    gives (.sle 5 6 7) (-1) 0 = 1 ∧ gives (.sleu 5 6 7) (-1) 0 = 0 := by decide +kernel

/-- R93. -/
theorem test_one_operand : gives (.clz 5 6) 0 0 = 64 ∧ gives (.ctz 5 6) 8 0 = 3 ∧ gives (.popc 5 6) 0xFF00 0 = 8 ∧ gives (.sexth 5 6) 0x18000 0 = 0xFFFFFFFFFFFF8000 ∧
    gives (.zextw 5 6) (-1) 0 = 0xFFFFFFFF ∧ gives (.bswap 5 6) 0x0102030405060708 0 = 0x0807060504030201 := by decide +kernel

/-- R90: a division parks, and its unit then writes D. -/
theorem test_division : let s := ran (.div 5 6 7) (args 0x8000000000000000 (-1))
    s.me.state = .parked ∧ s.me.parkwhy = 2 ∧ (ran (.divideDone 0 0) s).g 5 = 0x8000000000000000 ∧ (ran (.divideDone 0 0) s).task.pc = 0x104 ∧
    (ran (.divideDone 0 0) (ran (.rem 5 6 7) (args (-7) 2))).g 5 = -1 ∧ (ran (.divideDone 0 0) (ran (.divu 5 6 7) (args 7 0))).g 5 = -1 := by decide +kernel

/-- R47: g0 reads as zero and discards writes. -/
theorem test_g0 : (ran (.add 0 6 7) (args 1 2)).g 0 = 0 ∧ (ran (.add 0 6 7) (args 1 2)).task.pc = 0x104 ∧ gives (.add 5 0 7) 9 2 = 2 := by decide +kernel

/-- R94, R95. -/
theorem test_immediates : gives (.addi 5 6 0x7F) 0 0 = -1 ∧ gives (.srai 5 6 1) (-4) 0 = -2 ∧ gives (.li 5 0x2000) 0 0 = 0xFFFFFFFFFFFFE000 ∧ gives (.lpc 5 2) 0 0 = 0x108 ∧
    gives (.oriX { d := 5, a := 6, imm := .imm10 0x80000000 }) 0 0 = 0xFFFFFFFF80000000 := by decide +kernel

/-- R96 to R99. -/
theorem test_control : (ran (.br 0x1FFFFF) (args 0 0)).task.pc = 0xFC ∧ (ran (.call 2) (args 0 0)).g 1 = 0x104 ∧ (ran (.jmp 6 1) (args 0x203 0)).task.pc = 0x204 ∧
    (ran (.callr 6 6 0) (args 0x200 0)).task.pc = 0x200 ∧ (ran (.dbnz 6 4) (args 1 0)).task.pc = 0x104 ∧ (ran (.dbnz 6 4) (args 2 0)).task.pc = 0x110 ∧
    ((ran .ret (args 0 0)).ctxAt 0).state = .free := by decide +kernel

/-- R49, R67: a condition that holds annuls the next K instructions. -/
theorem test_skips : (ran (.skp 6 7 2 2 false) (args (-1) 0)).task.annul = 2 ∧ (ran (.skp 6 7 4 2 false) (args (-1) 0)).task.annul = 0 ∧
    (ran (.skp 6 63 10 1 true) (args 0x8000000000000000 0)).task.annul = 1 := by decide +kernel

/-- R101: FLAGS through `mts` and `mfs`; the number of the context. -/
theorem test_special_registers : (ran (.mts 6 0) (args 0xFF 0)).task.flags = 0x1F ∧ gives (.mfs 5 0x030) 0 0 = 0 ∧
    ((ran (.mfs 5 0x030) (args 0 0)).task.ecause.extractLsb' 0 8) = 2 := by decide +kernel

/-- R105, R106: the bytes of the own scratchpad, lowest first; a misaligned access traps with class 3. -/
theorem test_scratchpad : let s := withPad (args 8 0x8182838485868788)
    let t := ran (.std 7 6 2 1) s
    readBytes t.mem (sramKey 0 0x70010) 8 = 0x8182838485868788 ∧ (ran (.ldh 5 6 2 4) t).g 5 = 0xFFFFFFFFFFFF8788 ∧ (ran (.ldbu 5 6 2 8) t).g 5 = 0x88 ∧
    (ran (.ldd 5 7 2 0) (withPad (args 0 4))).task.ecause = 0x0000100000000003 ∧ (ran (.ldd 5 7 2 0) (withPad (args 0 4))).task.einfo = 4 := by decide +kernel

/-- R116, R118: an atomic returns the old value and writes the new one. -/
theorem test_atomics : let s := ran (.std 7 6 2 0) (withPad (args 8 5))
    (ran (.aadd { d := 5, a := 6, c := 7, sp := 2 }) s).g 5 = 5 ∧ readBytes (ran (.aadd { d := 5, a := 6, c := 7, sp := 2 }) s).mem (sramKey 0 0x70008) 8 = 10 ∧
    readBytes (ran (.acas { d := 5, a := 6, b := 6, c := 6, sp := 2 }) s).mem (sramKey 0 0x70008) 8 = 5 := by decide +kernel

/-- R162, R164, R167: lanes of integers. -/
theorem test_integer_lanes : (lane (.vadd .i8 { d := 3, a := 1, b := 2 }) 16 0x017F 0x0101).1 = 0x0280 ∧ (lane (.vadd .i8 { d := 3, a := 1, b := 2, sat := true }) 16 0x017F 0x0101).1 = 0x027F ∧
    (lane (.vmin .ui8 { d := 3, a := 1, b := 2 }) 8 0x80 0x7F).1 = 0x7F ∧ (lane (.vsra .i8 { d := 3, a := 1, b := 2 }) 8 0x80 8).1 = 0xFF ∧
    (lane (.vshl .i32 { d := 3, a := 1, b := 2 }) 32 1 32).1 = 0 ∧ (lane (.vabs .i8 { d := 3, a := 1, sat := true }) 8 0x80 0).1 = 0x7F := by decide +kernel

/-- R163, R168: 1 + 2^-24 is a tie that goes to 1 (NX); the sum of infinities of two signs is invalid; -0 equals +0. -/
theorem test_float_lanes : lane (.vadd .f32 { d := 3, a := 1, b := 2 }) 32 0x3F800000 0x33800000 = (0x3F800000, 8) ∧
    lane (.vadd .f32 { d := 3, a := 1, b := 2 }) 32 0x7F800000 0xFF800000 = (0x7FC00000, 1) ∧ lane (.vmul .bf16 { d := 3, a := 1, b := 2 }) 16 0x4040 0xBF00 = (0xBFC0, 0) ∧
    lane (.vcmp .f32 0 { d := 3, a := 1, b := 2 }) 32 0x80000000 0 = (0xFFFFFFFF, 0) ∧ lane (.vcmp .f32 2 { d := 3, a := 1, b := 2 }) 32 0x7FC00000 0 = (0, 1) := by decide +kernel

/-- R174, Table 3. -/
theorem test_long_operation : let s := ran (.vrcp .f32 { d := 3, a := 1 }) (lanes 0x40000000 0)
    s.me.state = .parked ∧ s.me.parkwhy = 2 ∧ ((ran (.vectorLongDone 0) s).vreg 3).toNat % 2 ^ 32 = 0x3F000000 ∧ (ran (.vectorLongDone 0) s).task.flags = 0 := by decide +kernel

/-- Table 10 of 05_formats. -/
theorem test_conversions : lane (.vcvt .bf16F32 { d := 3, a := 1 }) 16 0x3EAAAAAB 0 = (0x3EAB, 8) ∧ lane (.vcvt .bf16F32 { d := 3, a := 1, rnd := 1 }) 16 0x3EAAAAAB 0 = (0x3EAA, 8) ∧
    lane (.vcvt .f16F32 { d := 3, a := 1 }) 16 0x477FF000 0 = (0x7C00, 10) ∧ lane (.vcvt .f16F32 { d := 3, a := 1, sat := true }) 16 0x477FF000 0 = (0x7BFF, 26) ∧
    lane (.vcvt .i32F32 { d := 3, a := 1 }) 32 0xC0600000 0 = (0xFFFFFFFC, 8) ∧ lane (.vcvt .i8F32 { d := 3, a := 1 }) 8 0x43960000 0 = (0x7F, 1) ∧
    lane (.vcvt .i8F32 { d := 3, a := 1, sat := true }) 8 0x4348B333 0 = (0x7F, 24) := by decide +kernel

/-- R170 to R173: the example of a count, moves, and a sum of lanes. -/
theorem test_moves : (ran (.vcnt { d := 5, a := 1 }) (lanes 0xFF 0)).g 5 = 8 ∧ (ran (.vfirst { d := 5, a := 1 }) (lanes 0 0)).g 5 = 1024 ∧
    (lane (.vperm .w32 { d := 3, a := 1, b := 2 }) 64 0x0000000200000001 0x0000002000000001).1 = 2 ∧ (ran (.vred .i8 0 { d := 5, a := 1 }) (lanes 0xFF80 0)).g 5 = 0xFFFFFFFFFFFFFF7F ∧
    ((ran (.vbcast .w8 { d := 3, a := 6 }) (args 0x1AB 0)).vreg 3).toNat % 2 ^ 16 = 0xABAB := by decide +kernel

/-- R177: a tensor identifier that is not held is a descriptor fault, EINFO its number. -/
theorem test_descriptor_fault : (ran (.vcvt .b8F32 { d := 3, a := 1, b := 9 }) (lanes 0 0)).task.ecause = 0x009 ∧ (ran (.vcvt .b8F32 { d := 3, a := 1, b := 9 }) (lanes 0 0)).task.einfo = 9 := by
  decide +kernel

/-- R383, R385: a trap from user mode enters the handler of TVEC, and `eret` returns; without one it is reported. -/
theorem test_traps : let s := { args 0 0 with dies := [(0, { tvec := 0x4001 })] }
    let t := ran (.trap 5) s
    t.task.pc = 0x4000 ∧ t.task.mode = true ∧ t.task.epc = 0x100 ∧ t.task.ecause = 17 ∧ t.task.einfo = 5 ∧ (ran .eret t).task.pc = 0x100 ∧ (ran .eret t).task.mode = false ∧
    (ran (.trap 5) (args 0 0)).me.state = .parked ∧ (ran (.trap 5) (args 0 0)).me.parkwhy = 8 ∧ ((ran (.trap 5) (args 0 0)).pkg.records.map (·.kind)) = [2] ∧
    (ran .halt (args 0 0)).task.ecause = 2 := by decide +kernel

/-- R382, R433: reset; the first step is an issue turn that finds nothing. -/
theorem test_reset : State.reset.phase = .event ∧ (match step State.reset with | .next t => t.turn | _ => 0) = 1 := by decide +kernel

/-- A step from reset with `add g5, g6, g7` placed where it fetches: g5 is the sum of two zeros, and PC moves by 4. -/
theorem test_first_step : (match step (State.reset.withFetchWord 32 0x0E182804) with
    | .next t => decide (t.task.pc = State.reset.task.pc + 4 ∧ t.phase = .event)
    | _ => false) = true ∧ decodeTableWord 32 0x0E182804 = some (.add 5 6 7) := by decide +kernel

end Sys2Proof.Tests
end

