-- ==== Sys2Proof/Tests/Witness0.lean ====
section
/-! SUPPORT. For each statement with hypotheses, concrete states and operands that meet them together, clause by clause,
those of a statement's clauses at a boundary of their range where it has one. -/

namespace Sys2Proof.Tests

open Sys2Proof Sys2Proof.Machine

set_option Elab.async false

/-! ### Small states -/

/-- After reset but for context 0 of core 0. -/
def one (x : Context) : State := { State.reset with ctxs := [(0, x)] }

/-- A READY user task. -/
def user : State := one { state := .ready }

/-- A READY task. -/
def having (t : Task) : State := one { state := .ready, task := t }

/-- A READY task in privileged mode. -/
def super : State := having { mode := true }

/-- A READY task in a timed event. -/
def inEvent : State := having { inEvent := true }

/-- A task parked on a wait. -/
def waiting (w : Wait) : State := one { state := .parked, wait := w }

/-- An allocation of 64 KiB on core 0, its last byte that of the default SRAM share. -/
def pad (s : State) : State := { s with cores := [(0, { allocs := [(0, { base := 0x70000, size := 0x10000 })] })] }

/-- The first 64 KiB of space 0x0000, with every permission, at address 0x10000. -/
def page0 : Trans := { procid := 0, priv := false, base := 0, log2 := 16, pa := 0x10000, dpa := true, r := true, w := true, x := true, p := false }

/-- The first 2 MiB of space 0x0001 at address 0x200000. -/
def page1 : Trans := { procid := 0, priv := true, base := 0, log2 := 21, pa := 0x200000, dpa := true, r := true, w := true, x := false, p := true }

/-- Translations held by die 0 and by the I/O die. -/
def mapped (ts : List Trans) (s : State) : State := { s with dies := [(0, { s.dieAt 0 with tlb := ts })], pkg := { s.pkg with trans := ts } }

/-- A state with the first page mapped. -/
def paged (s : State) : State := mapped [page0] s

/-- The last `n` bytes of the allocation of `pad`, through the space register s2. -/
def lastOf (n : Nat) : State := pad (having { g := [(3, BitVec.ofNat 64 (0x10000 - n))] })

/-- A request of one element. -/
def asking (p : Place) (n : Nat) (k : Sink) : Req :=
  { todo := [⟨p, n⟩], done := [], sink := k, acq := false, scope := 0, hint := 0, words := 1, atom := none, performed := false
    wts := 0, reply := none, error := false, sel := 0, ea := 0 }

/-- The same, its value returned. -/
def answered (v : Nat) (k : Sink) : Req := { asking (.mem 0) 8 k with todo := [], done := [v] }

theorem sound_of {s : State} {gs wr vs vwr : List Nat}
    (h : s.part.holds (gs ++ wr) (vs ++ vwr) = true ∧ s.task.missing (gs ++ wr) (vs ++ vwr) = [] ∧ (∀ r ∈ gs, r ∉ s.task.badRegs) ∧ ∀ r ∈ vs, r ∉ s.task.badVecs) :
    sound s gs wr vs vwr := ⟨h.1, h.2.1, h.2.2.1, h.2.2.2⟩

theorem own_last (n : Nat) (h : n ∈ [1, 2, 4, 8, 16, 64]) : ownAt (lastOf n) 0x1000 ((lastOf n).g 3 + 0) n (0x80000 - n) := by
  simp only [List.mem_cons, List.not_mem_nil, or_false] at h
  rcases h with rfl | rfl | rfl | rfl | rfl | rfl <;> exact ⟨by decide, by decide, ⟨⟨0x70000, 0x10000⟩, by decide⟩, by decide⟩

/-! ### Scalar instructions -/

/-- A synchronised operand. -/
def synced : Ext := { d := 63, a := 5, b := 63, synA := true, synB := true }

theorem meets_ThreeOperandOperations : sound user [0, 63] [63] [] [] ∧
    (sound user [synced.a.toNat, synced.b.toNat] [synced.d.toNat] [] [] ∧ allFull user synced.syn) :=
  ⟨sound_of (by decide), sound_of (by decide), by decide⟩

theorem meets_WordAndImmediateOperations : sound user [1, 63] [63] [] [] ∧ (sound user [63] [0] [] [] ∧ (63#7).toNat < 64) ∧
    (sound user [synced.a.toNat] [synced.d.toNat] [] [] ∧ allFull user synced.syn) ∧ sound user [] [63] [] [] :=
  ⟨sound_of (by decide), ⟨sound_of (by decide), by decide⟩, ⟨sound_of (by decide), by decide⟩, sound_of (by decide)⟩

theorem meets_Division : (sound user [1, 63] [63] [] [] ∧ user.me.state ≠ .stopped) ∧ allFull user synced.syn ∧
    (((waiting (.divide 255 7 1)).ctxAt 0).state = .parked ∧ ((waiting (.divide 255 7 1)).ctxAt 0).wait = .divide 255 7 1) :=
  ⟨⟨sound_of (by decide), by decide⟩, by decide⟩

theorem meets_OneOperandAndBitFields : sound user [63] [63] [] [] ∧ (sound user [63, 0, 5] [] [] [] ∧ allFull user synced.syn) :=
  ⟨sound_of (by decide), sound_of (by decide), by decide⟩

theorem meets_SkipOnCondition :
    sound user ([63] ++ [5]) [] [] [] ∧ sound user [] [63] [] [] ∧ (allFull user synced.syn ∧ (synced.syn = [] ∨ (13#4).toNat < 14)) :=
  ⟨sound_of (by decide), sound_of (by decide), by decide⟩

theorem meets_FullBits : sound user [] [63] [] [] := sound_of (by decide)

theorem meets_ControlTransfers : sound user [63] [0] [] [] ∧ sound user [1] [] [] [] ∧ allFull user synced.syn ∧
    (user.task.pc + 4 * (0x1FFFFF#21).signExtend 64 ≠ 0 ∧ user.task.pc + 4 * (0#21).signExtend 64 = 0) ∧
    ((having { g := [(63, 1)] }).g 63 - 1 = 0 ∧ user.g 63 - 1 ≠ 0) ∧
    (user.task.mode = false ∧ super.task.mode = true ∧ super.task.inEvent = false ∧ super.task.epc &&& ~~~3#64 = 0) ∧
    (having { mode := true, epc := 4 }).task.epc &&& ~~~3#64 ≠ 0 ∧ (having { mode := true, inEvent := true, epc := 3 }).task.epc &&& ~~~3#64 = 0 :=
  ⟨sound_of (by decide), sound_of (by decide), by decide⟩

theorem meets_SpecialRegisters : sound user [63] [] [] [] ∧ sound user [] [63] [] [] ∧
    ((0x00D#14).toNat < 0x020 ∧ ¬ (0x020#14).toNat < 0x020 ∧ user.task.mode = false ∧ super.task.mode = true) :=
  ⟨sound_of (by decide), sound_of (by decide), by decide⟩

/-- The task's process under debugging on its die. -/
def debugged : State := { user with dies := [(0, { dbg := 1 })] }

theorem meets_GangStopsExitAndYield :
    (super.task.mode = true ∧ super.pkg.halted.getLsbD (super.domainOf super.curCore) = false ∧ super.me.wait = .none ∧ (super.coreAt 0).vlongs = []) ∧ user.task.mode = false ∧
    (debugged.pkg.halted.getLsbD (debugged.domainOf 0) = false ∧ (debugged.dieAt 0).dbg.getLsbD 0 ∧ (debugged.dieAt 0).dbg.extractLsb' 1 10 = debugged.task.procid) ∧
    ¬ (user.dieAt 0).dbg.getLsbD 0 ∧ inEvent.task.inEvent = true ∧ (user.task.inEvent = false ∧ user.mayEnd = true ∧ user.boundLp = none) ∧
    ((having { storecnt := 1 }).mayEnd = false ∧ (having { storecnt := 1 }).me.state ≠ .stopped) ∧
    ∃ i, i < user.part.contexts ∧ (user.ctxAt (ctxKey user.curCore i)).state = .free := by
  refine ⟨?_, ?_, ?_, ?_, ?_, ?_, ?_, 15, ?_⟩ <;> decide

theorem meets_WayMaskAndEventCounters : user.task.mode = false ∧ (having { mode := true, inEvent := true }).task.inEvent = true ∧
    (super.task.inEvent = false ∧ super.me.state ≠ .stopped ∧ (super.coreAt 0).wayCur < (6#14).toNat ∧ ¬ (super.coreAt 0).wayCur < (4#14).toNat) ∧
    sound super [0, 63] [63] [] [] ∧ allFull super synced.syn :=
  ⟨by decide, by decide, by decide, sound_of (by decide), by decide⟩

/-! ### Memory -/

theorem meets_LoadsOwnScratchpad : (sound (lastOf 8) [3] [63] [] [] ∧ ownAt (lastOf 8) ((lastOf 8).task.space 2) ((lastOf 8).g 3 + 0) 8 0x7FFF8) ∧
    (sound (lastOf 16) [3] [62, 63] [] [] ∧ ownAt (lastOf 16) 0x1000 ((lastOf 16).g 3 + 0) 16 0x7FFF0) :=
  ⟨⟨sound_of (by decide), own_last 8 (by decide)⟩, sound_of (by decide), own_last 16 (by decide)⟩

theorem meets_StoresOwnScratchpad : (sound (lastOf 1) [63, 3] [] [] [] ∧ (lastOf 1).task.inEvent = false ∧ ownAt (lastOf 1) 0x1000 ((lastOf 1).g 3 + 0) 1 0x7FFFF) ∧
    (allFull (lastOf 4) synced.syn ∧ (lastOf 4).drained = true ∧ ownAt (lastOf 4) 0x1000 ((lastOf 4).g 3 + 0) 4 0x7FFFC) ∧
    (sound (lastOf 16) [62, 63, 3] [] [] [] ∧ ownAt (lastOf 16) 0x1000 ((lastOf 16).g 3 + 0) 16 0x7FFF0) :=
  ⟨⟨sound_of (by decide), by decide, own_last 1 (by decide)⟩, ⟨by decide, by decide, own_last 4 (by decide)⟩, sound_of (by decide), own_last 16 (by decide)⟩

/-- A task whose g3 is the last doubleword of the page of `paged`. -/
def edge : State := paged (having { g := [(3, 0xFFF8)] })

/-- A buffered store of a doubleword at address 0x8, homed on die 0. -/
def store8 : Pending := { ctx := 0, tid := 1, place := .mem 8, size := 8, value := 5, release := false, scope := 0, id := 0 }

/-- A core that holds it. -/
def holding : State := { having { tid := 1, storecnt := 1 } with cores := [(0, { wbuf := [store8], unacked := [(0, 1, 0)], storeSerial := 1 })] }

/-- A core with an acknowledgement on its way. -/
def acked : State := { having { tid := 1, storecnt := 1 } with cores := [(0, { acks := [{ ctx := 0, tid := 1, id := 0, wts := 9 }], unacked := [(0, 1, 0)], storeSerial := 1 })] }

/-- A synchronised load, and a release store, at that address. -/
def syncedLoad : Ext := { d := 62, a := 3, b := 0, synA := true, ord := 1 }
def releaseStore : Ext := { a := 3, b := 0, c := 62, synC := true, ord := 2 }

theorem meets_LoadsAndStoresOfMemory : (sound edge [3] [63] [] [] ∧ edge.me.state ≠ .stopped) ∧ edge.check .load 0 (edge.g 3 + 0) 8 8 = .ok (.mem 0x1FFF8) ∧
    (((waiting (.req (answered 5 (.reg 63 8 false)))).ctxAt 0).state = .parked ∧ (answered 5 (.reg 63 8 false)).todo = []) ∧
    { answered 5 (.reg 63 8 false) with error := true }.error = true ∧
    (sound edge [syncedLoad.a.toNat, syncedLoad.b.toNat] [syncedLoad.d.toNat, syncedLoad.d.toNat + 1] [] [] ∧ allFull edge syncedLoad.syn) ∧
    (paged (having { g := [(3, 0xFFF0)] })).check .load 0 0xFFF0 16 16 = .ok (.mem 0x1FFF0) ∧
    (((waiting (.req (answered 5 (.pair 62)))).ctxAt 0).state = .parked ∧ (answered 5 (.pair 62)).atom = none ∧ (answered 5 (.pair 62)).flags = 0) ∧
    (sound edge [releaseStore.c.toNat, releaseStore.c.toNat + 1, releaseStore.a.toNat, releaseStore.b.toNat] [] [] [] ∧ allFull edge releaseStore.syn ∧ edge.drained = true) ∧
    (sound edge [63, 3] [] [] [] ∧ edge.task.inEvent = false ∧ (having { storecnt := 254 }).task.storecnt < 255 ∧ edge.check .store 0 (edge.g 3 + 0) 8 8 = .ok (.mem 0x1FFF8)) ∧
    (holding.readyStores 0 [] (holding.coreAt 0).wbuf = [store8] ∧ holding.backed 8 = true ∧ homeDie 8 = dieOf 0 ∧ (holding.dieAt 0).wrapHold = false ∧
      holding.needWrap 0 = false ∧ holding.hostHolds (lineOf 8) = false ∧ holding.registerHeld 0 store8 = false ∧ holding.sliceBusy (holding.storeWrite 0 store8 8) = false ∧ (holding.tasks.all fun x => !holding.imageHolds x 8) = true) ∧
    ((acked.coreAt 0).wbuf = [] ∧ acked.agenda = [] ∧ (acked.dieAt 0).outbound = [] ∧ (acked.ctxAt 0).wait = .none ∧ (acked.ctxAt 0).task.tid ≠ 0) :=
  ⟨⟨sound_of (by decide), by decide⟩, by rfl, by decide, by decide, ⟨sound_of (by decide), by decide⟩, by rfl, by decide, ⟨sound_of (by decide), by decide⟩,
    ⟨sound_of (by decide), by decide, by decide, by rfl⟩, by decide, by decide⟩

/-- A split load of the word at byte 0 of core 0's scratchpad. -/
def split4 : Split := { ctx := 0, tid := 1, reg := 63, place := .scratch 0 0, size := 4, before := 0, sel := 0x1000, ea := 0 }

/-- A core with that load in flight. -/
def splitting : State := { having { tid := 1 } with cores := [(0, { splits := [split4] })] }

theorem meets_SplitLoads : (sound edge [3] [63] [] [] ∧ (63#7) ≠ 0 ∧ edge.task.isPend 63 = false) ∧ edge.check .split 0 (edge.g 3 + 0) 8 8 = .ok (.mem 0x1FFF8) ∧
    ownAt (lastOf 8) 0x1000 ((lastOf 8).g 3 + 0) 8 0x7FFF8 ∧
    (((splitting.coreAt 0).splits.find? fun y => splitId y.tid y.reg = splitId 1 63) = some split4 ∧ (splitting.coreAt 0).guarded 0 4 = false ∧
      (splitting.coreAt 0).forwards = [] ∧ (splitting.ctxAt 0).task.tid = 1 ∧ splitting.splitBehind 0 split4 = false ∧ splitting.splitGone 0 split4 = false ∧
      (splitting.tasks.all fun y => y.absent = []) = true ∧ (splitting.cores.all fun c => c.2.held.isEmpty) = true) :=
  ⟨⟨sound_of (by decide), by decide, by decide⟩, by rfl, own_last 8 (by decide), by decide⟩

/-- A watch of the first doubleword of core 0's scratchpad. -/
def watching : Req := asking (.scratch 0 0) 8 (.watch 1 (.scratch 0 0))

theorem meets_AtomicsAndWatches : (sound (lastOf 8) [3, 0, 5] [63] [] [] ∧ (lastOf 8).task.inEvent = false ∧ (lastOf 8).drained = true ∧
      ownAt (lastOf 8) 0x1000 ((lastOf 8).g 3 + 0) 8 0x7FFF8) ∧ ownAt (lastOf 4) 0x1000 ((lastOf 4).g 3 + 0) 4 0x7FFFC ∧
    (sound (lastOf 8) [63, 3] [] [] [] ∧ (lastOf 8).me.state ≠ .stopped) ∧
    (((waiting (.watch watching)).ctxAt 0).state = .parked ∧ watching.todo = [⟨.scratch 0 0, 8⟩] ∧
      BitVec.ofNat 64 (readBytes (waiting (.watch watching)).mem (sramKey 0 0) 8) ≠ 1) :=
  ⟨⟨sound_of (by decide), by decide, by decide, own_last 8 (by decide)⟩, own_last 4 (by decide), ⟨sound_of (by decide), by decide⟩, by decide⟩

theorem meets_FencesAndLineOperations : (({ ord := 3 } : Ext).ord.getLsbD 1 = true ∧ user.drained = true ∧ user.task.pend = 0) ∧
    ((having { storecnt := 1 }).drained = false ∧ (having { storecnt := 1 }).me.state ≠ .stopped) ∧
    (sound edge [3] [] [] [] ∧ edge.lineBusy 0x7FF = false) ∧ edge.check .line 0 (edge.g 3 + 0) 1 1 = .ok (.mem 0x1FFF8) ∧
    ownAt (lastOf 1) 0x1000 ((lastOf 1).g 3 + 0) 1 0x7FFFF ∧
    ((having { pins := List.range 63 }).task.pins.length < 64 ∧ 63 ∉ (having { pins := List.range 63 }).task.pins ∧ user.setPinned 0 63 = false) :=
  ⟨by decide, by decide, ⟨sound_of (by decide), by decide⟩, by rfl, own_last 1 (by decide), by decide⟩

/-- A request of the doubleword at address 8. -/
def load8 : Req := asking (.mem 8) 8 (.reg 63 8 false)

/-- An outbound write of die 1 to address 8, whose stamp nothing holds back. -/
def out8 : Outbound := { core := 64, ctx := 0, tid := 1, id := 0, pa := 8, size := 8, value := 5, stamp := [0, 0, 0, 0], epoch := 1 }

/-- Die 1 with that write. -/
def outgoing : State := { user with dies := [(1, { outbound := [out8] })] }

theorem meets_SlicesAndHomes : (load8.todo = [⟨.mem 8, 8⟩] ∧ user.backed 8 = true ∧ isPeerMem 8 = false ∧ isPeerRegs 8 = false ∧ homeDie 8 = dieOf 0 ∧
      user.hostOwns (lineOf 8) = false ∧ user.lineBad 8 = false ∧ user.splitOut 0 0 (.mem 8) = false ∧ (user.dieAt 0).wrapHold = false ∧ user.needWrap 0 = false) ∧
    (user.hostHolds (lineOf 8) = false ∧ user.busyLine 0 (lineOf 8) = false ∧ user.sliceBusy (user.atomicWrite 0 0 8) = false ∧ (user.tasks.all fun x => !user.imageHolds x 8) = true ∧ user.cores.all (fun x => x.2.splits = []) = true ∧
      atomicNew .add 64 (readBytes user.mem 8 8) 0 (BitVec.allOnes 64).toNat = some (2 ^ 64 - 1)) ∧
    ((user.dieAt 0).allows [0, 0, 0, 0] = true ∧ (user.dieAt 0).allows [0, 1, 0, 0] = false) ∧
    (outboundHeads [] (outgoing.dieAt 1).outbound = [out8] ∧ outgoing.backed 8 = true ∧ (outgoing.dieAt 0).allows out8.stamp = true ∧ (outgoing.dieAt 0).sliceq = [] ∧ outgoing.hostHolds (lineOf 8) = false) := by
  refine ⟨?_, ?_, ?_, ?_⟩ <;> decide

/-- Core 1's last allocated doubleword, asked for by core 0. -/
def peeking : State := { waiting (.req (asking (.scratch 1 0x7FFF8) 8 (.reg 63 8 false))) with
  cores := [(1, { allocs := [(0, { base := 0x70000, size := 0x10000 })] })] }

/-- A task that reads mailbox counter m63 of core 1, bound to its process. -/
def counting : State := { waiting (.req (asking (.counter 1 63) 4 (.reg 63 4 false))) with cores := [(1, { counters := [(63, { v := true, count := 7 })] })] }

theorem meets_WindowsStoresCounters :
    (peeking.alloc 1 0 = some ⟨0x70000, 0x10000⟩ ∧ 0x7FFF8 + 8 ≤ 0x70000 + 0x10000 ∧ (peeking.coreAt 1).guarded 0x7FFF8 8 = false ∧
      peeking.cores.all (fun x => x.2.splits = []) = true) ∧
    ((waiting (.req (asking (.weight 0 0x7FFFFFF8) 8 (.reg 63 8 false)))).me.state = .parked ∧ user.refreshing 0 0 = true ∧ user.refreshing 0 31 = false) ∧
    (((counting.coreAt 1).counters.get 63 {}).v = true ∧ ((counting.coreAt 1).counters.get 63 {}).owner = counting.task.procid ∧
      counting.postsOut 0 counting.task 1 63 = false) ∧ (peeking.coreAt 0).wbuf = [] := by
  refine ⟨?_, ?_, ?_, ?_⟩ <;> decide


/-! ### Vectors and the loom -/

/-- The words from the start of the allocation of `pad`. -/
theorem own_words : ∀ i, i < 32 → ownAt (pad user) 0x1000 (BitVec.ofNat 64 (4 * i)) 4 (0x70000 + 4 * i) := by
  intro i hi
  have h : ∀ j < 32, (BitVec.ofNat 64 (4 * j)).toNat % 4 = 0 ∧ (BitVec.ofNat 64 (4 * j)).toNat + 4 ≤ 0x10000 ∧
      0x70000 + 4 * j = 0x70000 + (BitVec.ofNat 64 (4 * j)).toNat := by decide +kernel
  exact ⟨(h i hi).1, rfl, ⟨⟨0x70000, 0x10000⟩, by decide +kernel, (h i hi).2.1, (h i hi).2.2⟩, rfl⟩

theorem meets_VectorMemory : (sound (pad user) [2, 0] [] [] [15] ∧ ∀ i, i < 1024 / 32 → ownAt (pad user) 0x1000 (BitVec.ofNat 64 (4 * i)) (32 / 8) (0x70000 + 4 * i)) ∧
    (sound (pad user) [2, 0] [] [15, 1] [] ∧ (pad user).task.inEvent = false ∧ (pad user).drained = true ∧
      ∀ i j, i < j → j < 1024 / 32 → 0x70000 + 4 * i + 32 / 8 ≤ 0x70000 + 4 * j ∨ 0x70000 + 4 * j + 32 / 8 ≤ 0x70000 + 4 * i) :=
  ⟨⟨sound_of (by decide +kernel), own_words⟩, sound_of (by decide +kernel), by decide +kernel, by decide +kernel, fun i j h _ => by omega⟩

theorem meets_IntegerLanes : (({ d := 15 } : Ext).rnd = 0 ∧ sound user [] [] [0, 15] [15]) ∧ sound user [] [63] [15] [] :=
  ⟨⟨by decide +kernel, sound_of (by decide +kernel)⟩, sound_of (by decide +kernel)⟩

theorem meets_FloatLanes : sound user [] [] [0, 1, 15] [15] ∧ sound user [] [63] [15] [] := ⟨sound_of (by decide +kernel), sound_of (by decide +kernel)⟩

theorem meets_BitsAndMoves : sound user [] [] [0, 15] [15] ∧ sound user [] [] [0, 1, 15] [15] ∧ sound user [] [63] [15] [] ∧ sound user [63] [] [] [15] ∧
    allFull user synced.syn :=
  ⟨sound_of (by decide +kernel), sound_of (by decide +kernel), sound_of (by decide +kernel), sound_of (by decide +kernel), by decide +kernel⟩

/-- A long operation in flight, with room for one more. -/
def longing : State := { waiting (.vlong 15 1 0 3) with cores := [(0, { vlongs := [0] })] }

/-- A full queue of long operations. -/
def crowded : State := { user with cores := [(0, { vlongs := [1, 2] })] }

theorem meets_LongOperations : (sound user [] [] [15] [15] ∧ (user.coreAt 0).vlongs.length < 2 ∧ user.me.state ≠ .stopped) ∧ 2 ≤ (crowded.coreAt 0).vlongs.length ∧
    ((longing.coreAt 0).vlongs = 0 :: [] ∧ (longing.ctxAt 0).state = .parked ∧ (longing.ctxAt 0).wait = .vlong 15 1 0 3) ∧ 0 < 1 :=
  ⟨⟨sound_of (by decide +kernel), by decide +kernel⟩, by decide +kernel⟩

theorem meets_FormatsAndRounding : ((0x7F7FFFFF < 2 ^ fp32.w ∧ (fp32.decode 0x7F7FFFFF).isNan = false) ∧ (31 < 32 ∧ 31 % 8 ≠ 0 ∧ 255 < 2 ^ (binary8 31).w)) ∧
    (fp16.encode .rup 0 false (.dy false 65504 0)).1 ≤ fp16.maxCode := by decide +kernel

/-- A binary8 tensor of 64 by 64 elements at the start of the scratchpad. -/
def rec8 : BitVec 512 := BitVec.ofNat 512 (64 * 2 ^ 64 + 64 * 2 ^ 128 + 64 * 2 ^ 160 + 0x84 * 2 ^ 192)

/-- An FP32 tensor of one row of 16 elements there. -/
def rec32 : BitVec 512 := BitVec.ofNat 512 (64 * 2 ^ 64 + 1 * 2 ^ 128 + 16 * 2 ^ 160)

/-- A task that holds tensor identifiers, tiles, and an accumulator, with a token and a save area. -/
def loom (t : Task) : State := { pad (having { t with tokHeld := 1, lsave := 1 }) with
  cores := [(0, { allocs := [(0, { base := 0x70000, size := 0x10000 })]
                  tensors := [(0, { holder := some 0, data := rec32 }), (63, { holder := some 0, data := rec8 })]
                  slots := [(0, { holder := some 0, state := 1, fmt := 0x84 }), (15, { holder := some 0, state := 1, fmt := 0x84 })]
                  accs := [(3, { holder := some 0 })] })] }

theorem meets_Conversions : sound (loom {}) [] [] [15] [15] ∧ ((loom {}).hasSaved = false ∧ (loom {}).task.lheldV = false) ∧
    (((loom {}).coreAt 0).tensors.get 63 {}).holder = some (loom {}).task.key ∧ isB8 (Desc.ofRecord rec8).fmt = true ∧ isB8 (Desc.ofRecord rec32).fmt = false ∧
    isK4 0xA4 = true ∧ (((loom {}).coreAt 0).tensors.get 1 {}).holder ≠ some (loom {}).task.key :=
  ⟨sound_of (by decide +kernel), by decide +kernel⟩

/-- The row's elements. -/
theorem own_row : ∀ i, i < 16 → ownAt (loom {}) 0x1000 (BitVec.ofNat 64 (4 * i)) 4 (0x70000 + 4 * i) := by
  intro i hi
  have h : ∀ j < 16, (BitVec.ofNat 64 (4 * j)).toNat % 4 = 0 ∧ (BitVec.ofNat 64 (4 * j)).toNat + 4 ≤ 0x10000 ∧
      0x70000 + 4 * j = 0x70000 + (BitVec.ofNat 64 (4 * j)).toNat := by decide +kernel
  exact ⟨(h i hi).1, rfl, ⟨⟨0x70000, 0x10000⟩, by decide +kernel, (h i hi).2.1, (h i hi).2.2⟩, rfl⟩

theorem meets_TensorRows : (sound (loom {}) [2] [] [] [15] ∧ sound (loom {}) [2] [] [15] [] ∧ (Desc.ofRecord rec32).fmt ∈ [0, 1, 2] ∧ (Desc.ofRecord rec32).pl = false) ∧
    (let d := Desc.ofRecord rec32
     let off := (0 - BitVec.ofNat 64 d.base : Word).toNat
     0 = off / d.stride ∧ 0 * elemBits d.fmt = off % d.stride * 8 ∧ 0 < d.rows ∧ 0 < d.cols ∧ min 32 (d.cols - 0) = 16) ∧
    (∀ i, i < 16 → BitVec.ofNat 64 ((Desc.ofRecord rec32).base + 0 * 64 + (0 + i) * elemBits (Desc.ofRecord rec32).fmt / 8) = BitVec.ofNat 64 (4 * i)) ∧
    (∀ c, c * 32 ≠ (1 - BitVec.ofNat 64 (Desc.ofRecord rec32).base : Word).toNat % 64 * 8) := by
  refine ⟨⟨sound_of (by decide +kernel), sound_of (by decide +kernel), by decide +kernel, by decide +kernel⟩, by decide +kernel, by decide +kernel, fun c => ?_⟩
  have h : (1 - BitVec.ofNat 64 (Desc.ofRecord rec32).base : Word).toNat % 64 * 8 = 8 := by decide +kernel
  omega

/-- A held save area, and none. -/
theorem meets_LoomResources : ((pad user).hasSaved = false ∧ (pad user).task.lsave = 0) ∧
    ((loom {}).task.lsave ≠ 0 ∧ (loom {}).hasSaved = false ∧ ((loom {}).coreAt 0).holder (.slot 14) = none ∧ (loom {}).holds (.slot 15) = true) ∧
    (loom {}).holds (.acc 3) = true ∧ (sound (loom { g := [(3, 0xFFC0)] }) [3] [] [] [] ∧ (loom { g := [(3, 0xFFC0)] }).holds (.tid 63) = true) ∧
    (loom { lheldV := true }).task.lheldV = true ∧ sound (loom {}) [] [] [] [15] ∧ (loom {}).holds (.acc 0) = false :=
  ⟨by decide +kernel, by decide +kernel, by decide +kernel, ⟨sound_of (by decide +kernel), by decide +kernel⟩, by decide +kernel, sound_of (by decide +kernel), by decide +kernel⟩

/-- A tensor of a binary8 tile is streamed from the scratchpad. -/
theorem meets_LoomCommandsEnter : ((loom {}).passed = 0 ∧ ((loom {}).coreAt 0).loomq.length < 2 ∧ (loom {}).me.state ≠ .stopped ∧ (loom {}).task.tokHeld ≠ 0) ∧
    ((loom {}).holds (.acc 3) && (loom {}).tileHeld 0 && (loom {}).tileHeld 15) = true ∧
    (sound (loom {}) [2] [] [] [] ∧ tileFormats (Desc.ofRecord rec8).fmt = true ∧ (loom {}).holds (.slot 15) = true ∧
      (Desc.ofRecord rec8).tileStart ((loom {}).g 2) = some (0, 0)) ∧
    (15 + (loom {}).widthA 15 * (Desc.ofRecord rec8).slices 0 ≤ 16 ∧ (loom {}).streamMiss 0x1000 (Desc.ofRecord rec8) 0 0 = none) ∧
    (loom {}).holds (.acc 0) = false ∧ (Desc.ofRecord rec8).tileStart 1 = none :=
  ⟨by decide +kernel, by decide +kernel, ⟨sound_of (by decide +kernel), by decide +kernel⟩, by decide +kernel⟩

/-- A command of context 0. -/
def command (op : LoomOp) : LoomCmd :=
  { serial := 0, ctx := 0, op, d := 3, a := 0, b := 63, sel := 0x1000, ea := 0, ord := false, scope := 0, ty := 1, rnd := 0, sat := false, words := 3 }

/-- Core 0 with that command, its issuer parked. -/
def commanding (op : LoomOp) : State := { loom {} with
  ctxs := [(0, { state := .parked, wait := .loomCmd 0 3, task := { tokHeld := 1, lsave := 1 } })]
  cores := [(0, { (loom {}).coreAt 0 with loomq := [command op] })] }

/-- Core 0 with an 8-row tile command in a record of one row. -/
theorem meets_LoomCommandsRun :
    ((((commanding .mma).coreAt 0).loomq = [command .mma] ∧ (command .mma).started = false ∧ ((commanding .mma).ctxAt 0).state = .parked)) ∧
    (((commanding .mmam).ctxAt 0).task.storecnt = 0 ∧ ((commanding .mmam).ctxAt 0).task.pend = 0 ∧ ((commanding .mmam).ctxAt 0).task.progV = false ∧ ((commanding .mmam).ctxAt 0).preempt = false) ∧
    ([LoomOp.tld, .acld, .acst].all fun op => match (commanding op).cmdAccs 0 (command op) with
      | .ok es => (match (commanding op).cmdAccs 0 { command op with accs := es } with | .ok fs => decide (fs = es) | .error _ => false)
      | .error _ => false) = true ∧
    ((command .acst).next = 0 ∧ (commanding .acst).engineWaits 0 0 = false ∧ ((commanding .acst).ctxAt 0).wait = .loomCmd 0 3 ∧ (commanding .acst).cur = 0 ∧
      (command .mmam).next < (commanding .mmam).cmdSlices 0 (command .mmam)) ∧
    (let d := Desc.ofRecord rec8
     tileFormats d.fmt = true ∧ d.pl = false ∧ d.tileStart (command .tld).ea = some (0, 0) ∧ (tileAt d 0 0).vr = 64 ∧ (tileAt d 0 0).rowLen = 64 ∧
     ∀ i, i < 64 → (d.offset (0 + i) 0).toNat = 64 * i) ∧
    (((commanding .acld).coreAt 0).copies = [] ∧ spaceOf 0 0x1000 = some (.scratch 0) ∧ (commanding .acld).alloc 0 0 = some ⟨0x70000, 0x10000⟩ ∧
      (0 : Word).toNat + 16384 ≤ 0x10000 ∧ (command .acst).ea.toNat % 2 = 0) ∧
    (match (commanding .mmam).cmdSlice 0 (command .mmam) 0 with
      | some x => (match (commanding .mmam).readSlice 0 0 (command .mmam) x with
        | .ok (.ok _ u) => decide (u.coreAt 0 = (commanding .mmam).coreAt 0 ∧ u.ctxAt 0 = (commanding .mmam).ctxAt 0 ∧ u.cur = 0)
        | _ => false)
      | none => false) = true := by
  refine ⟨?_, ?_, ?_, ?_, ?_, ?_, ?_⟩ <;> decide +kernel

/-- Slots of finite values whose products' groups have no zero sum. -/
def ones : Slot := { holder := some 0, state := 1, fmt := 0x01, vr := 64, vc := 64, data := (List.range 64).map fun i => (64 * 63 + i, 0x3F80) }

theorem meets_ProductElement : (∀ k, k < 64 → ((ones.val 63 k).mul (ones.val 63 k)).1.isNan = false ∧ ((ones.val 63 k).mul (ones.val 63 k)).1.isInf = false) ∧
    ∀ g, g < 4 → ((List.range 16).foldl (fun (z : Machine.Num) i => (z.add ((ones.val 63 (16 * g + i)).mul (ones.val 63 (16 * g + i))).1 false).1) (Machine.Num.dy false 0 0)).isZero = false := by
  decide +kernel

/-- A save area that holds tensor 63. -/
def area63 : Saved := { procid := 0, lsave := 0x1000, tensors := [(63, { data := 1 })] }

/-- A task that waits for its own resources on core 1, with an empty save area. -/
def recalled : State := mapped [page1] { State.reset with
  ctxs := [(0, { state := .parked, wait := .loomRecall, task := { lheldV := true, lheldCore := 1 } })]
  cores := [(1, { tensors := [(63, { holder := some 0, data := 1 })], slots := [(15, { holder := some 0, state := 1, fmt := 0x84 })] })]
  pkg := { saves := [(0, { procid := 0, lsave := 0x1000 })] } }

/-- A task that waits for the resource in its save area, whose bytes memory still holds. -/
def restored : State := mapped [page1] { State.reset with
  ctxs := [(0, { state := .parked, wait := .loomRestore, task := {} })]
  pkg := { saves := [(0, area63)] }
  mem := [(0x20100F, 0x80), (0x202FC0, 1)] }

/-- Are the pages of a save area that resources need translated by a core's caches, to be read and written? -/
def areaMapped (s : State) (core : Nat) (a : Saved) (rs : List Res) : Bool :=
  (0 :: rs.flatMap Res.pages).all fun o => match s.cached core a.procid true (a.lsave.toNat + o) with
    | some x => x.r && x.w
    | none => false

theorem meets_LoomRecallRestore :
    ((recalled.ctxAt 0).state = .parked ∧ (recalled.ctxAt 0).wait = .loomRecall ∧ recalled.pkg.saves.find 0 = some { procid := 0, lsave := 0x1000 } ∧
      Store.sorted (recalled.coreAt 1).slots = true ∧ Store.sorted (recalled.coreAt 1).accs = true ∧ Store.sorted (recalled.coreAt 1).tensors = true ∧
      areaMapped recalled 1 { procid := 0, lsave := 0x1000 } ((recalled.coreAt 1).heldBy 0) = true) ∧
    (restored.pkg.saves.find 0 = some area63 ∧ Store.sorted area63.slots = true ∧ Store.sorted area63.accs = true ∧ Store.sorted area63.tensors = true ∧
       areaMapped restored 0 area63 area63.all = true ∧ area63.all.all (fun r => decide ((restored.coreAt 0).holder r = none)) = true ∧ area63.all ≠ [] ∧
       (match ({ restored with cur := 0 }).saveKeptAll 0 area63 area63.pieces with
         | .ok k u => k && decide (u.mem = restored.mem) && decide (u.ctxs = restored.ctxs) && decide (u.pkg.saves = restored.pkg.saves) && areaMapped u 0 area63 area63.all &&
           decide (u.cur = 0) && decide (((u.coreAt 0).slots, (u.coreAt 0).accs, (u.coreAt 0).tensors) = ((restored.coreAt 0).slots, (restored.coreAt 0).accs, (restored.coreAt 0).tensors))
         | _ => false) = true) := by
  decide +kernel

/-! ### Copies, messages, timed instructions -/

/-- A copy of 64 bytes from die 0's weight store to the scratchpad, on channel 7. -/
def copy64 : Copy :=
  { serial := 5, ch := 7, procid := 0, tindex := 255, ssel := 0x2000, dsel := 0x1000, shadow := false, post := false, token := false, cscope := 0
    src := 0x4000000, dst := 0xFFC0, rowbytes := 64, rows := 1, sstride := 0, dstride := 64, mbox := 0, minc := 0, node := 0 }

/-- A template of that copy, its argument added to the source. -/
def record64 : BitVec 512 :=
  BitVec.ofNat 512 (0x2000 + 0x1000 * 2 ^ 16 + 2 ^ 35 + 0x4000000 * 2 ^ 64 + 0xFFC0 * 2 ^ 128 + 64 * 2 ^ 192 + 1 * 2 ^ 224 + 64 * 2 ^ 320)

/-- A process with a template table, pools, and both its spaces mapped; core 0 with the channel and commands given. -/
def engine (t : Task) (y : Channel) (xs : List Copy) : State := mapped [page0, page1] { having t with
  cores := [(0, { allocs := [(0, { base := 0x70000, size := 0x10000 })], chans := [(7, y)], copies := xs })]
  pkg := { user.pkg with
    procs := [(0, { valid := true, pools := [(0, { base := 0x100000, count := 4 }), (9, { base := 0, count := 1 })] })] } }

/-- The template 255 in memory. -/
def withRecord (s : State) : State := { s with mem := writeBytes [] (0x200000 + 64 * 255) 64 record64.toNat }

/-- The task of an `xfer` by that template: g3 its index, g4 its argument. -/
def xferring : Task := { g := [(3, 255), (4, 64)] }

theorem meets_CopyInstructions :
    (sound (engine { g := [(3, 0xFFC0), (4, 255)] } {} []) [3, 4] [] [] [] ∧ (engine xferring {} []).templateAt 0 255 = some 0x3FC0) ∧
    ((engine {} {} []).locate ⟨0, 0, true⟩ .store 1 0x3FC0 64 = .ok (.mem 0x203FC0) ∧ (engine {} {} []).backed 0x203FC0 = true ∧ isPeerMem 0x203FC0 = false ∧
      (∀ p, (engine {} {} []).hostState (lineOf 0x203FC0) p = 0) ∧ (engine {} {} []).engineWaits 0 1 = false ∧ (engine {} {} []).me.state ≠ .stopped ∧
      isPeerRegs 0x203FC0 = false ∧ (engine {} {} []).tableOwned 0 0 true 0x3FC0 = none ∧ ((engine {} {} []).dieAt 0).wrapHold = false ∧ (engine {} {} []).needWrap 0 = false ∧
      (engine {} {} []).outboundFull 0 = false ∧ ((engine {} {} []).dieAt 0).heldWrites = []) ∧
    (let s := withRecord (engine xferring { v := true } [])
     sound s [3, 4] [] [] [] ∧ (match (s.empty []).xferRecord 0x3FC0 with
         | some (.ok r u) => decide (r = record64) && decide (u.mem = s.mem) && decide (u.ctxs = (s.empty []).ctxs) && decide (u.cur = s.cur) &&
             decide (u.coreAt 0 = { u.coreAt 0 with copies := (s.coreAt 0).copies, chans := (s.coreAt 0).chans }) && decide (u.startCheck 0 0 ((Template.ofRecord record64).resolve 64) = none)
         | _ => false) = true ∧ ((s.coreAt 0).copies.filter fun x => !x.running).length < 4 ∧ (Template.ofRecord record64).refused = false) ∧
    (((engine {} { v := true, procid := 1 } []).coreAt 0).chans.get 7 {}).procid ≠ 0 ∧
    (let s := engine {} { v := true, state := 4 } []
     ((s.coreAt 0).chans.get 7 {}).v = true ∧ ((s.coreAt 0).chans.get 7 {}).procid = s.task.procid.toNat ∧ (s.coreAt 0).copies = [] ∧ s.me.state ≠ .stopped) ∧
    ((∃ x ∈ ((engine {} { v := true } [copy64]).coreAt 0).copies, x.ch = 7 ∧ (engine {} { v := true } [copy64]).engineWaits 0 x.serial = false) ∧
      ∀ x ∈ (engine {} { v := true } [copy64]).ctxs, x.2.wait = .none) ∧
    (let s := engine { g := [(3, 0x8000), (4, 1)] } {} []
     s.drained = true ∧ (0x10000 : Word).toNat % 65536 = 0 ∧ s.cores.all (fun c => c.2.copies.all fun x => !x.shadow) = true ∧ s.shadowsIn 0 false 0 1 = []) ∧
    (let s := { engine {} {} [] with pkg := { (engine {} {} []).pkg with procs := [(0, { shadows := [(0, 0x30000)] })] } }
     s.shadowsIn 0 false 0 1 = [(0, 0x30000)] ∧ 0x30000 % 65536 = 0 ∧ s.writesFrame 0x30000 = false ∧ s.granulePages 0 0 = (List.range 16).map (fun i => (4096 * i, 0x10000 + 4096 * i)) ∧
       ((s.granulePages 0 0).map (·.2)).Nodup ∧ s.cores.all (fun c => c.2.copies.all fun x => !x.shadow) = true) ∧
    (match (engine {} {} []).checkAll .store 0 1 1 ((List.range 16).map fun i => BitVec.ofNat 64 (4096 * i)) with | .ok _ => true | .error _ => false) = true :=
  ⟨⟨sound_of (by decide +kernel), by decide +kernel⟩, ⟨by rfl, by decide +kernel, by decide +kernel, fun _ => rfl, by decide +kernel⟩, ⟨sound_of (by decide +kernel), by decide +kernel⟩, by decide +kernel, by decide +kernel, ⟨⟨copy64, by decide +kernel⟩, by decide +kernel⟩, by decide +kernel, by decide +kernel, by decide +kernel⟩

/-- The only command, running. -/
def running : State := engine {} { v := true, state := 2 } [{ copy64 with running := true }]

theorem meets_CopyEngine : (((engine {} {} [copy64]).coreAt 0).copies = [copy64] ∧ copy64.running = false ∧ copy64.after = [] ∧ copy64.shadow = false ∧ copy64.tfault = false ∧ copy64.walker = none ∧
      (engine {} {} [copy64]).coreHalted 0 = false) ∧
    ((running.coreAt 0).copies = [{ copy64 with running := true }] ∧ running.coreHalted 0 = false ∧ running.refreshing 0 (0x4000000 / 2 ^ 26) = false) ∧
    running.locate ⟨0, 0, true⟩ .load 0x2000 copy64.piece.1 copy64.piece.2.2 = .ok (.weight 0 0x4000000) ∧
    running.locate ⟨0, 0, true⟩ .store 0x1000 copy64.piece.2.1 copy64.piece.2.2 = .ok (.scratch 0 0x7FFC0) ∧
    (∀ x ∈ running.ctxs, x.2.wait = .none) :=
  ⟨by decide +kernel, by decide +kernel, by rfl, by rfl, by decide +kernel⟩

/-- A task of the process to which m63 of its core is bound. -/
def bound (n : BitVec 32) : State := { having { g := [(3, 1), (4, 0xFFFC)] } with cores := [(0, { counters := [(63, { v := true, count := n })] })] }

theorem meets_MailboxCounters : (sound (bound 1) [] [63] [] [] ∧ ((bound 1).coreAt 0).counters.get 63 {} = { v := true, count := 1 }) ∧
    (sound (bound 1) [3] [] [] [] ∧ (bound 1).me.state ≠ .stopped ∧ (((1 : BitVec 32) - ((bound 1).g 3).setWidth 32).toNat < 2 ^ 31) ∧
      ¬ ((0xFFFFFFFE : BitVec 32) - 1).toNat < 2 ^ 31) ∧
    (((bound 1).g 4).toNat < 0x10000 ∧ ((bound 1).g 4).toNat % 4 = 0 ∧ (bound 1).task.sendq = [] ∧ (bound 1).ownUnacked = [] ∧ (bound 1).task.pend = 0 ∧
      (bound 1).mute 0 = false ∧ (bound 1).buffered 0 = false ∧ ((bound 1).coreAt 0).waiting = [] ∧ ((bound 1).coreAt 0).streams = []) ∧
    (8 ≤ (having { sendq := List.replicate 8 (.post { core := 0, index := 0, inc := 1, release := false, counted := true }) }).task.sendq.length) ∧
    (((waiting (.counter 63 2)).ctxAt 0).wait = .counter 63 2 ∧ (bound 1).pkg.records = []) ∧ (0x1000000000000#64).getLsbD 48 = true ∧ 6 ≤ user.pkg.phase ∧ 64 ≤ ({ a := 64 } : Ext).a.toNat :=
  ⟨⟨sound_of (by decide +kernel), by decide +kernel⟩, ⟨sound_of (by decide +kernel), by decide +kernel⟩, by decide +kernel⟩

/-- A record of an empty message. -/
def empty : MsgRec := { size := 16, len := 0 }

theorem meets_Messages : (let s := pad (having { g := [(3, 1), (4, 0xFF10), (5, 240)] })
      sound s [3, 4, 5] [] [] [] ∧ s.g 3 >>> 48 = 0 ∧ (s.g 5).toNat ≤ 240 ∧ s.alloc 0 0 = some ⟨0x70000, 0x10000⟩ ∧ (s.g 4).toNat + 240 ≤ 0x10000 ∧
        s.drained = true ∧ s.task.sendq = [] ∧ s.me.state ≠ .stopped ∧ spaceOf 0 0x1000 = some (.scratch 0) ∧ (s.coreAt 0).copies = [] ∧
        (s.coreAt 0).waiting = [] ∧ (s.coreAt 0).streams = [] ∧ s.mute 0 = false) ∧
    (let x := (waiting .message).ctxAt 0
     x.task.image = 0x123#64 &&& 0x0000FFFFFFFFF000#64 ∧ x.task.saveBuf.recs = [] ∧ (x.task.ring.place x.task.part.ringSize empty).isSome = true ∧
       (({ tail := 512 } : Ring).place 512 empty).isNone = true) ∧
    (let s := one { state := .parked, wait := .sendReply 3, task := { sendOut := some (0x1001, empty), sendRefused := true } }
     (s.ctxAt 0).wait = .sendReply 3 ∧ endpointImage 0x1001 ≠ endpointImage (s.ctxAt 0).task.image ∧ (s.coreAt 0).waiting = [] ∧ (s.coreAt 0).streams = [] ∧
       (s.ctxAt 0).task.sendq = [] ∧ empty.len ≤ 240 ∧ s.mute 0 = false) ∧
    (let s := pad (having { g := [(3, 0xFFF0), (4, 16)], ring := { tail := 16, recs := [empty] } })
     sound s [3, 4] [63] [] [] ∧ s.task.ring.recs = empty :: [] ∧ empty.pad = false ∧ empty.size ≤ (s.g 4).toNat ∧ (s.g 3).toNat % 16 = 0 ∧ (s.g 3).toNat + 16 ≤ 0x10000 ∧
       0 < empty.size ∧ s.task.saveBuf.recs = [] ∧ (s.coreAt 0).copies = []) ∧
    (user.task.saveBuf.recs = [] ∧ user.task.ring.recs = [] ∧ user.me.state ≠ .stopped) :=
  ⟨⟨sound_of (by decide +kernel), by decide +kernel⟩, by decide +kernel, by decide +kernel, ⟨sound_of (by decide +kernel), by decide +kernel⟩, by decide +kernel⟩

/-- A subscription of the last line, to core 1's. -/
def sub64 : SubReq := { core := 0, entry := 15, procid := 0, len := 64, source := 1, soff := 0xFFC0, ctx := 0, tid := 0 }

/-- Its entry. -/
def entry64 : Subscriber := { state := 0, procid := 0, loff := 0xFFC0, len := 64, score := 1, sent := 0 }

/-- Core 0 with the entry, and `n` updates on their way; core 1 with an allocation. -/
def subscribed (x : Context) (n : Nat) : State := { one x with
  cores := [(0, { allocs := [(0, { base := 0x70000, size := 0x10000 })], subscribers := [(15, { entry64 with onWay := n })] }),
    (1, { allocs := [(0, { base := 0x70000, size := 0x10000 })], sources := [(0, { procid := 0, soff := 0, len := 64, subs := [], buf := [⟨0, 1, 1, []⟩] })] })] }

theorem meets_Subscriptions :
    (let s := pad (having { g := [(3, 0xFFC0), (4, 0x0000FFC000000001), (5, 64)] })
     sound s [3, 4, 5] [63] [] [] ∧ spaceOf 0 0x1000 = some (.scratch 0) ∧ (s.g 3).toNat % 64 = 0 ∧ (s.g 3).toNat + 64 ≤ 0x10000 ∧ (s.g 4).toNat / 256 % 2 ^ 24 = 0 ∧
       (s.g 4).toNat % 256 ≠ 0 ∧ (s.g 4).toNat / 2 ^ 32 % 64 = 0 ∧ (s.coreAt 0).subscribers.firstFree 0 16 = some 0) ∧
    ((subscribed {} 0).alloc 1 0 = some ⟨0x70000, 0x10000⟩ ∧ 0xFFC0 + 64 ≤ 0x10000 ∧ ((subscribed {} 0).coreAt 1).sourceFor sub64 = some 1 ∧
      ((subscribed {} 0).coreAt 0).subscribers.find 15 = some entry64 ∧ sub64.core ≠ sub64.source ∧ entry64.procid = sub64.procid ∧ sub64.procid < 1024) ∧
    (let s := subscribed { state := .parked, wait := .subReply 63 3 } 0
     (s.ctxAt 0).state = .parked ∧ (s.ctxAt 0).wait = .subReply 63 3 ∧ (s.ctxAt 0).task.tid = sub64.tid ∧
       (s.coreAt 0).subscribers.find sub64.entry = some entry64 ∧ entry64.copyLeft = 0) ∧
    (1 < 2 ∧ ((subscribed {} 2).coreAt 0).subscribers.find 15 = some { entry64 with onWay := 2 } ∧ ((subscribed {} 2).coreAt 0).guarded 0x7FFC0 64 = false) ∧
    ((subscribed {} 0).coreAt 1).sources.find 0 = some { procid := 0, soff := 0, len := 64, subs := [], buf := [⟨0, 1, 1, []⟩] } ∧
    (let s := subscribed { state := .ready, task := { g := [(3, 16)] } } 0
     sound s [3] [] [] [] ∧ (s.g 3).toNat ≤ 16 ∧ (s.coreAt 0).subscribers.find ((s.g 3).toNat - 1) = some entry64 ∧ entry64.onWay = 0) ∧
    (user.task.subUnacked = 0 ∧ user.buffered 0 = false ∧ (having { subUnacked := 1 }).task.subUnacked ≠ 0) :=
  ⟨⟨sound_of (by decide +kernel), by decide +kernel⟩, by decide +kernel, by decide +kernel, by decide +kernel, by decide +kernel, ⟨sound_of (by decide +kernel), by decide +kernel⟩, by decide +kernel⟩

/-- A packet on network 2. -/
def packet : Packet := { net := 2, src := 1, stream := 15, seq := 4095, dest := 0, release := .faultRecordWrite }

/-- A state with it in flight, where `n` is expected. -/
def arriving (n : Nat) : State := { user with
  cores := [(0, { expected := [(streamKey 2 1 15, n)], streams := [(47, { dest := 1, unacked := 1 })] })], pkg := { user.pkg with packets := [(0, packet)] } }

theorem meets_Streams : ((arriving 4095).pkg.packets.find 0 = some packet ∧ ((arriving 4095).coreAt 0).expected.get (streamKey 2 1 15) 0 = packet.seq ∧
      ((arriving 4095).coreAt 0).reorder = []) ∧
    (((arriving 4094).coreAt 0).expected.get (streamKey 2 1 15) 0 ≠ packet.seq ∧ (((arriving 4094).coreAt 0).reorder.filter fun q => q.net = 2).length < 64) ∧
    64 ≤ ((List.replicate 64 packet).filter fun q => q.net = packet.net).length ∧
    (((arriving 0).coreAt 0).streams.find (2 * 16 + 15) = some { dest := 1, unacked := 1 } ∧ ((arriving 0).coreAt 0).waiting = []) := by decide +kernel

/-- A logical process with its areas in the private page, and the input entries given. -/
def logical (xs : List TEntry) : Lp :=
  { procid := 0, tid := 0, image := 0, woff := 0, wlen := 64, iqbase := 0, olbase := 0x10000, ulbase := 0x20000, iabase := 0x30000, iqcap := 16, olcap := 16
    ulcap := 16, iacap := 16, sel := 0x1000, off := 0, bound := 0, lvt := ⟨0, 0, 0⟩, inputs := xs }

/-- An entry of time 5. -/
def event5 (st : Nat) : TEntry := { index := 0, key := ⟨5, 1, 2⟩, slot := 0, payload := 0, state := st }

/-- A task bound to slot 3 of its core. -/
def timed (t : Task) (lp : Lp) : State := { engine { t with tlp := some (0, 3) } {} [] with
  cores := [(0, { allocs := [(0, { base := 0x70000, size := 0x10000 })], lps := [(3, lp)] })] }

/-- A descriptor of a logical process with areas of the least capacities, in slot 3. -/
def binding : BitVec 512 :=
  BitVec.ofNat 512 (64 * 2 ^ 32 + 0 * 2 ^ 64 + 0x10000 * 2 ^ 128 + 0x20000 * 2 ^ 192 + 0x30000 * 2 ^ 256 + 16 * 2 ^ 320 + 16 * 2 ^ 352 + 16 * 2 ^ 384 + 16 * 2 ^ 416 + 3 * 2 ^ 448)

theorem meets_TimedInstructions : (sound user [3, 4, 5] [63, 1, 2, 3] [] [] ∧ user.boundLp = none) ∧
    (having { tlp := some (1, 3) }).boundLp = none ∧
    (let s := timed {} (logical [event5 1])
     s.boundLp = some (0, 3, logical [event5 1]) ∧ s.task.inEvent = false ∧ s.task.pend = 0 ∧ s.me.state ≠ .stopped ∧ (logical [event5 1]).waiting = false ∧
       (logical [event5 1]).work = [] ∧ s.unreadable 0 (logical [event5 1]) [((logical []).entryAt 0, 32)] = none ∧
       lowest ((logical [event5 1]).inputs.filter (·.state = 1)) = some (event5 1)) ∧
    (timed {} (logical [])).locate ⟨0, 0, true⟩ .store 1 ((logical []).entryAt 0) 32 = .ok (.mem 0x200000) ∧
    (lowest ((logical []).inputs.filter (·.state = 1)) = none ∧ (timed {} (logical [])).gvtOf 0 = BitVec.allOnes 64 ∧ (logical []).actions = []) ∧
    (let lp := { logical [event5 2] with inev := true, evidx := 0 }
     (timed { inEvent := true } lp).boundLp = some (0, 3, lp) ∧ lp.inputs.find? (·.index = lp.evidx) = some (event5 2) ∧ lp.waiting = false ∧ lp.work = [] ∧ lp.defer = [] ∧
       (timed { inEvent := true } lp).unreadable 0 lp [(lp.entryAt 0, 32)] = none) ∧
    (let s := timed { g := [(3, 0x301), (4, 0)] } (logical [])
     sound s [3, 4, 5] [] [] [] ∧ s.g 3 >>> 10 = 0 ∧ s.task.vtime ≤ s.g 4 ∧ (s.g 3).toNat % 256 ≠ 0 ∧ s.task.sendq = [] ∧ (s.coreAt 0).streams = [] ∧
       (s.coreAt 0).waiting = [] ∧ s.mute 0 = false ∧ s.boundLp = some (0, 3, logical [])) ∧
    (let s := timed { inEvent := true, g := [(3, 0xFFF8)] } (logical [])
     s.task.inEvent = true ∧ (logical []).outputs.length < (logical []).olcap ∧ refusedAction 1 8 0 = false ∧ (logical []).actions.length < (logical []).iacap ∧ leastFree ((logical []).actions.map (·.index)) = 0 ∧
       s.unreadable 0 (logical []) [((logical []).iabase, 32)] = none) ∧
    (let f := fun lo n => (binding.extractLsb' lo n).toNat
     binding.extractLsb' 450 30 = 0 ∧ f 32 32 = 64 ∧ f 0 32 + f 32 32 ≤ 0x10000 ∧ f 320 32 = 16 ∧ f 448 2 = 3) ∧
    ownAt (lastOf 64) 0x1000 ((lastOf 64).g 3 + 0) 64 0x7FFC0 ∧ (user.task.procid.toNat ∉ user.pkg.gvtRun ∧ (user.coreAt 0).lps = []) ∧
    (timed {} (logical [])).locate ⟨0, 0, true⟩ .store 1 (logical []).iabase 32 = .ok (.mem 0x230000) ∧
    (timed {} (logical [])).locate ⟨0, 0, true⟩ .store 1 (logical []).olbase 32 = .ok (.mem 0x210000) :=
  ⟨⟨sound_of (by decide +kernel), by decide +kernel⟩, by decide +kernel, by decide +kernel, by rfl, by decide +kernel, by decide +kernel, ⟨sound_of (by decide +kernel), by decide +kernel⟩, by decide +kernel, by decide +kernel,
    own_last 64 (by decide +kernel), by decide +kernel, by rfl, by rfl⟩

/-- A message for slot 3 of core 0. -/
def message : TMsg := { core := 0, slot := 3, rtime := 5, src := 1, srcSlot := 0, serial := 2, payload := 0, procid := 0 }

theorem meets_TimedMessages : (user.lpFor message = none ∧ (user.coreAt 0).refused = [] ∧ user.pkg.records = []) ∧
    ((timed {} { logical [event5 1] with iqcap := 1 }).lpFor message = some { logical [event5 1] with iqcap := 1 } ∧ 1 ≤ [event5 1].length) ∧
    ((timed {} (logical [])).lpFor message = some (logical []) ∧ Key.lt ⟨5, 1, 2⟩ (logical []).lvt = false ∧ (timed {} (logical [])).coreHalted 0 = false ∧
      (logical []).waiting = false ∧ (logical []).work = [] ∧ (logical []).rolling = false) ∧
    ((event5 1).key.core = message.src ∧ (event5 1).key.serial = message.serial) ∧
    (let s := { user with cores := [(0, { refused := [(true, message)] })] }
     (s.coreAt 0).refused = [(true, message)] ∧ s.lpAt 0 3 = none ∧ s.lpFor message = none) ∧ 0 ∉ user.pkg.gvtRun := by decide +kernel


/-! ### Clusters, memory of the process, cores -/

/-- A member of the group of process 0 on cluster 0, with barrier counter 7 and g3 given. -/
def grouped (b : Barrier) (n : Word) (x : Context) : State := { one { x with task := { x.task with group := some 0, g := [(3, n)] } } with
  pkg := { State.reset.pkg with barriers := [(7, b)] } }

theorem meets_ClusterBarrier :
    (sound (grouped {} 64 { state := .ready }) [3] [] [] [] ∧ (grouped {} 64 { state := .ready }).task.group = some (clusterOf 0)) ∧
    (let b : State → Barrier := fun s => s.pkg.barriers.get (clusterOf 0 * 8 + 7) {}
     (b (grouped {} 64 {})).owner = none ∧ (b (grouped { owner := some 1 } 1 {})).owner ≠ some 0 ∧
     (b (grouped { owner := some 0, p := 3, count := 63 } 64 {})).count < ((grouped {} 64 {}).g 3).toNat ∧ (grouped {} 65 {}).task.inEvent = false ∧ 64 < ((grouped {} 65 {}).g 3).toNat ∧
     (b (grouped { owner := some 0, p := 3, count := 1 } 0 {})).count + 1 ≠ 3 ∧ (b (grouped { owner := some 0, p := 2, count := 1 } 0 {})).count + 1 = 2 ∧
     (grouped { owner := some 0, p := 2, count := 1 } 0 { state := .ready }).me.wait = .none ∧ user.task.group ≠ some (clusterOf 0)) ∧
    (∀ b ∈ [({} : Barrier), { owner := some 0, p := 3, count := 1 }, { owner := some 0, p := 2, count := 1 }],
      let s := grouped b 0 { state := .parked, wait := .arrive 7 false }
      s.me.state = .parked ∧ s.me.wait = .arrive 7 false ∧ s.drained = true) ∧
    (grouped { owner := some 0, p := 3 } 0 { state := .parked, wait := .arrive 7 false, task := { storecnt := 1 } }).drained = false ∧
    (let s := { grouped { owner := some 0, p := 2, count := 1, phase := 5 } 0 {} with
        ctxs := [(0, { state := .parked, wait := .arrive 7 true }), (15, { state := .parked, wait := .barrier 7, task := { barph := [(7, 0x8005)] } })] }
     let x := s.ctxAt 15
     s.me.wait = .arrive 7 true ∧ s.drained = true ∧ 0 ∈ clusterCores (clusterOf 0) ∧ x.state = .parked ∧ x.wait = .barrier 7 ∧ x.task.procid = s.task.procid ∧
       (x.task.barph.get 7 0).setWidth 15 = (5 : BitVec 15) ∧ (x.task.barph.get 7 0).getLsbD 15 = true) :=
  ⟨⟨sound_of (by decide), by decide⟩, by decide, by decide, by decide, by decide⟩

/-- A task that waits for the granary, whose die holds the block `off` of class `c`; process 0 holds the block 0x4000 of class 2. -/
def granting (w : Wait) (c off : Nat) : State := { waiting w with
  dies := [(0, { granary := [(granaryKey 0 c, [off])] })], pkg := { user.pkg with procs := [(0, { valid := true, blocks := [(0x4000, 2)] })] } }

theorem meets_Granary : (sound user [3] [63] [] [] ∧ user.task.inEvent = false ∧ user.me.state ≠ .stopped) ∧ allFull user synced.syn ∧
    (let s := granting (.granary 63 65536 false 0 1) (blockClass 65536) 0x10000
     (s.ctxAt 0).state = .parked ∧ (s.ctxAt 0).wait = .granary 63 65536 false 0 1 ∧ (s.dieAt 0).granary.get (granaryKey 0 (blockClass 65536)) [] = [0x10000]) ∧
    (let s := granting (.granary 0 0 true 0x4000 3) 2 0
     (s.ctxAt 0).wait = .granary 0 0 true 0x4000 3 ∧ (s.process 0).blocks.find 0x4000 = some 2 ∧ (s.process 0).blocks.find 0x4001 = none) :=
  ⟨⟨sound_of (by decide), by decide⟩, by decide, by decide, by decide⟩

/-- A core that shrinks from 6 ways to 4. -/
def shrinking (xs : Store Alloc) : State := { user with cores := [(0, { wayCur := 6, wayReq := 4, wayPending := true, allocs := xs })] }

theorem meets_CoreResources :
    ((user.coreAt 0).wayCur < 14 ∧ ((waiting (.grow 14 1)).ctxAt 0).state = .parked ∧ ((waiting (.grow 14 1)).ctxAt 0).wait = .grow 14 1 ∧
      ∀ j < 16, j ≠ 0 → ((waiting (.grow 14 1)).ctxAt (ctxKey 0 j)).wait = .none) ∧
    (((shrinking []).coreAt 0).wayPending = true ∧ ((shrinking []).coreAt 0).wayReq < ((shrinking []).coreAt 0).wayCur ∧ ((shrinking []).coreAt 0).copies = []) ∧
    (((shrinking [(0, ⟨0x80000, 64⟩)]).coreAt 0).wayReq * 131072 < 0x80000 + 64) ∧
    (user.task.mode = false ∧ (having { mode := true, inEvent := true }).task.inEvent = true ∧ super.task.mode = true ∧ super.me.state ≠ .stopped) ∧
    (¬ (Part.p8 = (super.coreAt 0).part ∨ Part.p8.contexts < (super.coreAt 0).reserved.length)) ∧
    (let s := waiting (.rfpart .p4)
     (s.ctxAt (ctxKey 0 0)).wait = .rfpart .p4 ∧ (∀ j < 16, j ≠ 0 → (s.ctxAt (ctxKey 0 j)).wait = .none) ∧ ({ s with cur := ctxKey 0 0 }).coreDrained = true) := by
  refine ⟨?_, ?_, ?_, ?_, ?_, ?_⟩ <;> decide

/-- A task that departs to core 255. -/
def leaving : State := waiting (.depart 255)

theorem meets_Migration : (spaceOf 0 0x10FF = some (.scratch 255) ∧ spaceOf 0 0x1000 = some (.scratch 0) ∧ sound user [3] [] [] [] ∧ sound user [3, 4] [] [] []) ∧
    ((having { bounded := true }).task.bounded = true ∧ (having { progV := true }).task.progV = true ∧ user.holdsLoom = false ∧ user.task.progV = false ∧
      user.task.bounded = false ∧ user.me.state ≠ .stopped) ∧
    ((leaving.ctxAt 0).wait = .depart 255 ∧ (leaving.ctxAt 0).task.pend = 0 ∧ ({ leaving with cur := 0 }).shuttleMissing = [] ∧ ({ leaving with cur := 0 }).mayDepart = true) ∧
    ({ waiting (.depart 1) with ctxs := [(0, { state := .parked, wait := .depart 1, task := { storecnt := 1, tid := 1 } })] } : State).mayDepart = false ∧
    (let s := { user with pkg := { user.pkg with shuttles := [({ tid := 7 }, 255, 12, 3)] } }
     s.pkg.shuttles = [({ tid := 7 }, 255, 12, 3)] ∧ (s.dieAt (dieOf 255)).wrapHold = false ∧ ({} : Task).part = (s.coreAt 255).part ∧ 3 = dieOf 255 ∧
       ((s.coreAt 255).inbound.filter fun y => y.spillAt = none).length < 4) :=
  ⟨⟨by decide, by decide, sound_of (by decide), sound_of (by decide)⟩, by decide, by decide, by decide, by decide⟩

/-- A spawn to core 255. -/
def child : SpawnPkt := { src := 0, srcCtx := 0, tid := 0, core := 255, grp := false, code := 0x100, frame := 0, mode := false, procid := 0, skey := 0, taskidx := 0, ls := false,
                          size := none, launch := 0, node := none, bounded := false, regs := [1, 2, 3, 4] }

/-- Core 1 holds a record that core 0 may steal, and a task of its own. -/
def robbed : State := { engine {} {} [] with cores := [(1, { drain := true, spindles := [(0, [{ code := 0x100 }])] })], ctxs := [] }

theorem meets_TasksStart :
    (sound user [3, 4, 5, 6, 7, 8] [63] [] [] ∧ ((having { g := [(3, 255)] }).g 3).toNat ≤ 255 ∧ user.g 4 &&& 3 = 0 ∧ (having { g := [(4, 3)] }).g 4 &&& 3 ≠ 0 ∧ user.task.sendq = [] ∧
      user.drained = true ∧ (user.coreAt 0).waiting = [] ∧ (user.coreAt 0).streams = [] ∧ user.mute 0 = false ∧ user.me.state ≠ .stopped) ∧
    (let s := { user with pkg := { user.pkg with halted := 0xFF } }
     s.spawnSlot 0 = none ∧ s.lastExits 0 (clusterOf 0) = []) ∧
    ((engine {} {} []).spawnSlot child.core = some 0 ∧ child.regs.length = 4 ∧ ∃ el, (engine {} {} []).takeElem child.procid ((engine {} {} []).coreAt child.core).part.code = some el) ∧
    (((waiting (.spawnReply 63 3)).ctxAt 0).state = .parked ∧ ((waiting (.spawnReply 63 3)).ctxAt 0).wait = .spawnReply 63 3 ∧ ((waiting (.spawnReply 63 3)).ctxAt 0).task.tid = 0) ∧
    (let s := { State.reset with cores := [(0, { inbound := [{ pc := 4 }, { pc := 8 }] })], ctxs := (List.range 15).map fun i => (i, { state := .ready }) }
     s.mayStart 0 = true ∧ (s.coreAt 0).inbound = { pc := 4 } :: [{ pc := 8 }] ∧ (s.coreAt 0).roots = [] ∧ (s.coreAt 0).reserved = [] ∧ (s.coreAt 0).claims = [] ∧ (s.ctxAt (ctxKey 0 15)).state = .free ∧
       ∀ j < 16, j ≠ 15 → (s.ctxAt (ctxKey 0 j)).state ≠ .free) ∧
    ((robbed.ctxAt (ctxKey 0 3)).state = .free ∧ robbed.mayStart 0 = true ∧ 3 ∈ robbed.freeContexts 0 ∧ robbed.topFor 1 0 0 = some { code := 0x100 } ∧ (robbed.spindle 1 0).length ≤ 16 ∧
      (∃ el, robbed.takeElem 0 (robbed.coreAt 0).part.code = some el) ∧ ((victims 0).dropWhile (· ≠ 1)).head? = some 1 ∧ 2 ≤ ((victims 0).dropWhile (· ≠ 1)).length) ∧
    ((user.ctxAt 0).state = .ready ∧ user.coreHalted 0 = false ∧ (user.ctxAt 0).task.sendq = []) ∧
    (((waiting (.relStore 1)).ctxAt 0).state ≠ .free ∧ ((waiting (.relStore 1)).ctxAt 0).mayLeave = false) ∧
    (((waiting (.recall 1 2)).ctxAt 0).state = .parked ∧ ((waiting (.recall 1 2)).ctxAt 0).wait = .recall 1 2 ∧ ((waiting (.recall 1 2)).ctxAt 0).task.pend = 0 ∧
      ((waiting (.recall 1 2)).ctxAt 0).task.storecnt = 0 ∧ ((waiting (.recall 1 2)).ctxAt 0).task.holder = none ∧ (waiting (.recall 1 2)).imageWrites 0 = false ∧
      ({ holder := some (1, 2) } : Task).holder ≠ none) := by
  refine ⟨⟨sound_of (by decide), by decide⟩, by decide, ⟨by decide, by decide, _, rfl⟩, by decide, by decide +kernel,
    ⟨by decide, by decide, by decide, by decide, by decide, ⟨_, rfl⟩, by decide +kernel, by decide +kernel⟩, by decide, by decide, by decide⟩

/-! ### Graphs, queues, entries -/

/-- A waiting entry of process 0. -/
def entry0 : Entry :=
  { id := 9, queue := 0, index := 15, procid := 0, mode := false, cls := 1, kind := 1, grp := false, ls := false, cm := true, place := 0, cost := 0, code := 0x100, frame := 0
    spread := 2, tokpt := 2, target := 0, alloc := 0, graph := 0x1000, compl := 0xFFF8, skey := 0, ranges := [(0, 256, true)] }

/-- A graph of one node at 0x2000, its descriptor at 0x1000, with NCTL and PREDS given; launch 3 runs it. -/
def graphing (nctl preds : Nat) (work : List NodeWork) (g : Word) : State := { paged (having { g := [(3, g)] }) with
  mem := writeBytes (writeBytes (writeBytes (writeBytes [] 0x11000 8 0x2000) 0x11008 4 1) 0x12000 4 nctl) 0x12004 4 preds
  pkg := { (paged user).pkg with entries := [{ entry0 with kind := 3, launch := 3 }], nodes := work } }

/-- Its graph. -/
def graph1 : GraphAt := { procid := 0, die := 0, addr := 0x1000, nodes := 0x2000, count := 1 }

/-- The work of its node. -/
def work1 : NodeWork := { launch := 3, addr := 0x2000, index := 0, procid := 0, live := 0 }

/-- What the statement asks of a place in the graph's page. -/
def placed (s : State) (a : Word) (n pa : Nat) : Bool := (s.cached 256 0 false a.toNat).isSome && decide (s.hostState (lineOf pa) true = 0) &&
  decide (s.hostState (lineOf pa) false = 0) && decide (s.sharedPlace 0 .load a n = some (.mem pa)) && decide (s.sharedPlace 0 .store a n = some (.mem pa)) &&
  s.backed pa && !(isPeerMem pa || isPeerRegs pa)

/-- Are the tables' lines free of hosts, for walks by the I/O die in process 0's shared space? -/
def freeTables (s : State) (offs : List Word) : Bool := offs.all fun x => decide (s.tableOwned 256 0 false x.toNat = none)

/-- The graph is walked, and the node's fields stand apart. -/
theorem graph_walked : ∀ x ∈ [(2, 0), (2, 1), (0x82, 1), (0x12, 0), (0x92, 0), (0x106, 0), (0x22, 0), (0x52, 0)],
    ∀ todo ∈ [[], [.status (2 ^ 16) 0, .start], [.token 0, .drop], [.visit 0, .drop], [.drop], [GraphOp.start]], let s := graphing x.1 x.2 [{ work1 with todo }] 0x2000
    s.entryOf 3 = some { entry0 with kind := 3, launch := 3 } ∧
    graph1 = { s.entryGraph { entry0 with kind := 3, launch := 3 } with die := s.nodeHome (s.entryGraph { entry0 with kind := 3, launch := 3 }) 0x2000 } ∧ graph1.has 0x2000 = true ∧
    (match s.graphPlaces graph1 0x2000 with | some ps => (s.snoop true ps).isNone && (s.wrapWait graph1.die).isNone && s.stampsAllow graph1.die ps | none => false) = true ∧
    readBytes s.mem 0x12020 4 = 0 ∧ s.workOf 3 0x2000 = some { work1 with todo } ∧ readBytes s.mem 0x12000 4 = x.1 ∧ readBytes s.mem 0x12004 4 = x.2 ∧
    ([(0x12000, 4), (0x11010, 8), (0x12020, 4), (0x12028, 4)].Pairwise fun x y => x.1 + x.2 ≤ y.1 ∨ y.1 + y.2 ≤ x.1) ∧
    placed s 0x2000 4 0x12000 ∧ placed s (0x1000 + 0x10) 8 0x11010 ∧ placed s (0x2000 + 0x20) 4 0x12020 ∧ placed s (0x2000 + 0x28) 4 0x12028 ∧
    placed s (0x2000 + 4) 4 0x12004 ∧ placed s (0x1000 + 0x18) 4 0x11018 := by decide +kernel

theorem meets_Graphs : let s := graphing 2 0 [] 0x2000
    (({ entry0 with kind := 3, launch := 3 } : Entry).gateWait = false ∧ s.dieHalted (s.nodeHome graph1 0x2000) = false ∧ s.earlierFire graph1 3 0x2000 = false ∧ s.workOf 3 0x2000 = none) ∧
    (work1.live = 0 ∧ work1.retry = false ∧ work1.faulted = false) ∧
    (sound s [3] [] [] [] ∧ (having { inEvent := true }).task.inEvent = true ∧ ((having { g := [(3, 0x2001)] }).g 3).toNat % 64 ≠ 0 ∧
      s.check .atomic 0 (s.g 3) 64 64 = .ok (.mem 0x12000) ∧ s.drained = true ∧ (match s.donePlaces 0 0x2000 with | some ps => (s.snoop true ps).isNone && (s.wrapWait (dieOf s.curCore)).isNone && s.stampsAllow (dieOf s.curCore) ps | none => false) = true ∧
      placed s 0x2000 4 0x12000) ∧
    (match (graphing 0x12 0 [work1] 0x2000).graphOf 0 0x2000 with | some (_, g) => g = graph1 | none => false) = true ∧
    (0 < graph1.count ∧ graph1.count ≤ 1 ∧ (graphing 0x12 0 [] 0x2000).workOf 3 0x2000 = none) :=
  ⟨by decide +kernel, by decide, ⟨sound_of (by decide +kernel), by decide, by decide, by rfl, by decide +kernel⟩, by decide +kernel, by decide⟩

theorem meets_CopyEnds :
    ((∀ k, ((engine {} {} []).ctxAt k).wait = ((engine {} {} []).ctxs.get k {}).wait) ∧ ∀ x ∈ (engine {} {} []).ctxs, x.2.wait = .none) ∧
    ((((engine {} { state := 4 } []).coreAt 0).chans.get 7 {}).state ≠ 0 ∧ (((engine {} {} []).coreAt 0).chans.get 7 {}).state = 0) ∧
    (let s := withRecord (engine {} { v := true, pin := true } [copy64])
     (((s.coreAt 0).chans.get 7 {}).v = true ∧ ((s.coreAt 0).chans.get 7 {}).pin = true) ∧ ((s.coreAt 0).copies.filter fun x => !x.running).length < 4 ∧
       s.templateAt 0 255 = some 0x3FC0 ∧ (match s.readRecord 0 0 1 0x3FC0 true with
         | some (.ok r u) => decide (r = record64) && u.ctxs.all (fun x => decide (x.2.wait = .none)) && decide (u.startCheck 0 0 ((Template.ofRecord record64).resolve ((0x40FF#64).sshiftRight 8)) = none)
         | _ => false) = true ∧
       (match ({ s with pkg := { s.pkg with hostLines := [(lineOf 0x203FC0 * 2, 4)] } } : State).readRecord 0 0 1 0x3FC0 true with | some (.wait _) => true | _ => false) = true ∧
       (match ({ s with pkg := { s.pkg with badLines := [lineOf 0x203FC0] } } : State).readRecord 0 0 1 0x3FC0 true with | some (.bad _) => true | _ => false) = true) ∧
    ¬ (((engine {} {} (List.replicate 4 copy64)).coreAt 0).copies.filter fun x => !x.running).length < 4 ∧ user.templateAt 0 255 = none ∧
    ((engine {} {} []).readRecord 0 0 1 0x200000 true).isNone = true ∧ 6 ≤ (engine {} {} []).pkg.phase ∧
    ((running.coreAt 0).copies = [{ copy64 with running := true }] ∧ copy64.walker = none ∧ copy64.token = false ∧ copy64.cscope < 2 ∧ running.groupAt 0 (clusterOf 0) = none ∧
      running.coreHalted 0 = false ∧ running.engineWaits 0 copy64.serial = false ∧ (running.coreAt 0).waiting = [] ∧ (running.coreAt 0).streams = []) :=
  ⟨⟨fun _ => rfl, by decide⟩, by decide, by decide +kernel, by decide, by decide, by rfl, by decide⟩

/-- A state with memory of host physical addresses at device address 0, and the bytes given there. -/
def hosting (n v : Nat) : State := { user with mem := writeBytes [] 0 n v }

/-- A process descriptor, a queue descriptor of class 1, and one of the bounded class. -/
def descriptors : Nat × Nat × Nat :=
  (1 + 4096 * 2 ^ (8 * 0xA0) + 2 ^ 20 * 2 ^ (8 * 0xA8), 1 + 8 + 16 * 32 + 0x1000 * 2 ^ 64, 1 + 4 * 32 + 4 * 2 ^ 20 + 2 ^ 31 * 2 ^ 128 + 2 ^ 511)

/-- A queue of process 0. -/
def queue0 (st : QState) : Queue := { state := st, wridx := 1, log2 := 16, cls := 1 }

/-- A state with queue 0, its ring at the start of the page of `paged`, whose first header is that given. -/
def queueing (x : Queue) (h : Nat) : State := { paged user with mem := writeBytes [] 0x10000 16 h, pkg := { (paged user).pkg with queues := [(0, x)] } }

theorem meets_Queues :
    (user.backed 0 = true ∧ 6 ≤ user.pkg.phase ∧ (hosting 256 descriptors.1).snoop false (tablePlaces 0 256) = none ∧ (hosting 64 descriptors.2.1).snoop false (tablePlaces 0 64) = none ∧
      let d := readBytes (hosting 256 descriptors.1).mem 0 256
      d % 2 = 1 ∧ d / 2 % 2 ^ 63 = 0 ∧ d / 2 ^ (8 * 0x18) % 2 ^ 64 = 0 ∧ d / 2 ^ (8 * 0xC0) % 2 ^ 512 = 0 ∧ d / 2 ^ (8 * 0xA8) % 2 ^ 32 = 2 ^ 20 ∧
        d / 2 ^ (8 * 0xB8) % 2 ^ 32 = 0 ∧ ∀ i, i < 10 → d / 2 ^ (8 * (0x2C + 16 * i)) % 2 ^ 32 = 0 ∧ d / 2 ^ (8 * (0x20 + 16 * i)) % 2 ^ 64 % (poolElem i).2 = 0) ∧
    (let d := readBytes (hosting 64 descriptors.2.1).mem 0 64
     d % 2 = 1 ∧ d / 2 ^ 24 % 2 ^ 40 = 0 ∧ d / 32 % 32 = 16 ∧ d / 8 % 4 = 1 ∧ d / 2 ^ 64 % 2 ^ 64 % 4096 = 0 ∧ d / 2 ^ 20 % 16 = 0) ∧
    (let d := readBytes (hosting 64 descriptors.2.2).mem 0 64
     d % 2 = 1 ∧ d / 8 % 4 = 0 ∧ d / 2 ^ 20 % 16 = 4 ∧ d / 2 ^ 128 % 2 ^ 32 = 2 ^ 31 ∧ d.testBit (256 + 255) ∧ 0 + 4 ≤ (user.coreAt 255).part.contexts) ∧
    ((queueing (queue0 .idle) 0).queue 0).state = .idle ∧
    (let x := { queue0 .active with cls := 0, deferred := true }
     let s := { queueing x 0 with pkg := { (queueing x 0).pkg with entries := [{ entry0 with cls := 0 }] } }
     x.state ≠ .disabled ∧ (s.pkg.entries.find? fun e => e.queue % 4096 = 0 && e.cls = 0 && e.launch = 0 && !e.rejected) = some { entry0 with cls := 0 } ∧
       (s.queue 0).deferred = true ∧ (s.queue 0).cls = 0 ∧ user.pkg.entries = []) ∧ (2 ^ 16 : Nat) < (0x10001#32 - 0).toNat ∧
    (let x := queue0 .active
     let s := queueing x (1 + 256 + 2 ^ 64 * 0x100)
     s.pkg.queues = [(0, x)] ∧ freeTables s [x.base, x.base + 64] = true ∧ s.sharedPlace 0 .load x.base 64 = some (.mem 0x10000) ∧ s.sharedPlace 0 .load (x.base + 64) 64 = some (.mem 0x10040) ∧
       s.snoop false [.mem 0x10000, .mem 0x10040] = none ∧ (s.readPlace (.mem 0x10000) 64 + 2 ^ 512 * s.readPlace (.mem 0x10040) 64) % 2 = 1 - x.rdidx.toNat / 2 ^ 16 % 2) ∧
    ({ user with pkg := { user.pkg with queues := [(0, queue0 .active)] } } : State).sharedPlace 0 .load 0 64 = none ∧
    (let x := { queue0 .active with polls := 1, pollAt := 64 }
     (queueing x 0).pkg.queues = [(0, x)] ∧ (queueing x 0).pkg.refCycle < x.pollAt ∧ ¬ (64 : Nat) < x.pollAt) := by
  refine ⟨?_, ?_, ?_, ?_, ?_, ?_, ?_, ?_, ?_⟩ <;> decide +kernel

/-- Process 0 with a group of 128 bytes on cluster 0; a pool of backing images. -/
def swapping (g : Group) (images : Nat) : State := { State.reset with
  pkg := { user.pkg with groups := [(0, g)], procs := [(0, { pools := [(6, { base := 0x100000, count := images })] })] } }

theorem meets_EntriesAndDies :
    ((entry0.launch = 0 ∧ entry0.rejected = false ∧ entry0.cls ≠ 0 ∧ entry0.cls < 4 ∧ entry0.kind = 1 ∧ ({ entry0 with cm := false } : Entry).cm = false)) ∧
    (∃ x ∈ entry0.ranges, ∃ y ∈ entry0.ranges, (x.2.2 = true ∨ y.2.2 = true) ∧ 0 < x.2.1 ∧ 0 < y.2.1 ∧
      x.1 / 256 ≤ (y.1 + y.2.1 - 1) / 256 ∧ y.1 / 256 ≤ (x.1 + x.2.1 - 1) / 256) ∧
    (((queueing { queue0 .idle with cls := 0 } 0).queue 0).cls = 0 ∧ ({ queue0 .disabled with cls := 0 } : Queue).cls = 0 ∧ entry0.queue = 0) ∧
    (∀ core, (user.spindle core 0).length + min (user.scap 0) (((List.range entry0.spread).filter fun i => entry0.rootCore i = core).map id).length ≤ 16) ∧
    (let s := { paged user with pkg := { (paged user).pkg with entries := [{ entry0 with launch := 3 }] } }
     s.sharedPlace 0 .store entry0.compl 8 = some (.mem 0x1FFF8) ∧ s.snoop true [.mem 0x1FFF8] = none ∧ s.backed 0x1FFF8 = true ∧ user.sharedPlace 0 .store entry0.compl 8 = none ∧
       (s.coreAt ioDie).waiting = [] ∧ (s.coreAt ioDie).streams = [] ∧ entry0.admitted = none ∧ entry0.gateWait = false ∧ s.withdrawnBusy = false ∧
       freeTables s [entry0.compl] = true ∧ (isPeerMem 0x1FFF8 || isPeerRegs 0x1FFF8) = false) ∧
    (({ entry0 with kind := 4, target := 1 } : Entry).dies ≠ [] ∧ (∀ x ∈ State.reset.ctxs, x.2.state = .free) ∧
      ∃ x ∈ user.ctxs, dieOf (x.1 / 16) ∈ ({ entry0 with kind := 4, target := 1 } : Entry).dies ∧ x.2.state ≠ .free) ∧
    (let g : Group := { tasks := 1, size := 128 }
     (swapping g 0).groupAt 0 0 = some g ∧ (swapping g 0).swappable 0 0 g = true ∧ (swapping g 0).takeBacking 0 4 = none ∧ 6 ∉ ((swapping g 0).process 0).reported ∧
       (∃ imgs u, (swapping g 4).takeBacking 0 4 = some (imgs, u) ∧ imgs.length = 4 ∧ ∃ w, ((List.range 4).foldl (fun (o : Option State) i => o.bind fun v => match v.alloc (coreOf 0 i) 0 with
        | some a => v.copyOut (coreOf 0 i) 0 (imgs.getD i 0) a
        | none => some v) (some u)) = some w) ∧ (let h := { g with swapped := true, backing := [(0, 0x100000), (1, 0x110000), (2, 0x120000), (3, 0x130000)] }
        let s := mapped [page1] (swapping h 4)
        (s.allocCluster 0 0 128).isSome = true ∧ (match s.readBackings 0 0 h 4 with
          | some (.ok _ v) => (v.allocCluster 0 0 128).isSome
          | _ => false) = true ∧
        (match ({ s with pkg := { s.pkg with hostLines := [(lineOf 0x300000 * 2, 4)] } } : State).readBackings 0 0 h 4 with | some (.wait _) => true | _ => false) = true ∧
        (match ({ s with pkg := { s.pkg with badLines := [lineOf 0x300000] } } : State).readBackings 0 0 h 4 with | some (.bad _) => true | _ => false) = true ∧
        ((swapping h 4).readBackings 0 0 h 4).isNone = true)) ∧
    ((user.ctxAt 0).state = .ready ∧ (user.ctxAt 0).task.tid = 0 ∧ (user.ctxAt 0).task.inFlight (user.ctxAt 0).wait = false ∧ (user.ctxAt 0).task.node = none ∧
      ((waiting (.req load8)).ctxAt 0).task.inFlight (.req load8) = true) ∧
    ((user.dieAt 0).preferred < 1024 ∧ (0, 0) ∉ user.runnable 0) := by
  refine ⟨by decide, by decide, by decide, fun core => ?_, by decide +kernel, by decide, ⟨rfl, by decide, rfl, by decide, ⟨_, _, rfl, rfl, _, rfl⟩, by decide +kernel⟩, by decide, by decide⟩
  refine Nat.le_trans (Nat.add_le_add (Nat.le_refl 0) (Nat.le_trans (Nat.min_le_right _ _) ?_)) (show 0 + 2 ≤ 16 by decide)
  rw [List.length_map]
  exact List.length_filter_le ..

/-! ### Scheduler instructions, faults, system calls -/

/-- A request whose every element has been answered, for a sink. -/
def replied (vs : List Nat) (k : Sink) : Req := { asking (.mem 0) 8 k with todo := [], done := vs }

/-- A task whose g3 and g4 are given, of a process with a spindle of `n` records on each core and queue 0 in DEV mode. -/
def scheduling (a b : Word) (n : Nat) : State := { paged (having { g := [(3, a), (4, b)] }) with
  pkg := { (paged user).pkg with procs := [(0, { pools := [(8, { count := n })] })], queues := [(0, { state := .idle, dev := true, log2 := 4 })] } }

theorem meets_SchedulerInstructions :
    (sound (scheduling 0x100 0 16) [3, 4, 5] [] [] [] ∧ (scheduling 0x100 0 16).g 3 &&& 3 = 0 ∧ ((scheduling 0x100 0 1).spindle 0 0).length < (scheduling 0x100 0 1).scap 0 ∧
      (scheduling 0x100 0 0).scap 0 ≤ ((scheduling 0x100 0 0).spindle 0 0).length ∧ (scheduling 3 0 0).g 3 &&& 3 ≠ 0 ∧ (scheduling 0 0 0).drained = true ∧
      (scheduling 0 0 0).task.bounded = false ∧ (having { bounded := true }).task.inEvent = false ∧
      (let s := { scheduling 0x100 0 17 with cores := [(0, { spindles := [(0, List.replicate 16 { code := 4 })] })] }
       (s.spindle 0 0).length < s.scap 0 ∧ 16 ≤ (s.spindle 0 0).length ∧ s.me.state ≠ .stopped)) ∧
    (sound (scheduling 0xFFF8 0 0) [3] [] [] [] ∧ (scheduling 0xFFF8 0 0).check .atomic 0 0xFFF8 8 8 = .ok (.mem 0x1FFF8) ∧ ((scheduling 0xFFF9 0 0).g 3).toNat % 8 ≠ 0 ∧
      (scheduling 0 0 0).me.state ≠ .stopped) ∧
    (∀ old ∈ [0, 1, 2, 2 ^ 63 - 1, 2 ^ 63, 2 ^ 64 - 1], let s := waiting (.req (replied [old] .join))
      (s.ctxAt 0).state = .parked ∧ (s.ctxAt 0).wait = .req (replied [old] .join) ∧ (replied [old] .join).error = false ∧ ({ s with cur := 0 }).mayEnd = true) ∧
    (sound (scheduling 0 0xFF80 0) [3, 4] [] [] [] ∧ ((scheduling 0 0 0).pkg.queues.get 0 {}).state ≠ .disabled ∧ ((scheduling 0 0 0).pkg.queues.get 0 {}).dev = true ∧
      ((scheduling 0 0xFF80 0).g 4).toNat % 128 = 0 ∧ (match (scheduling 0 0 0).checkAll .load 0 8 1 ((List.range 16).map fun i => 0xFF80 + BitVec.ofNat 64 (8 * i)) with
        | .ok _ => true | .error _ => false) = true ∧ ¬ ((4096 : Word).toNat ≤ 4095)) ∧
    (let s := { scheduling 0 0 0 with ctxs := [(0, { state := .parked, wait := .req (replied (List.replicate 16 5) (.entry 0)) })] }
     let x := s.pkg.queues.get 0 {}
     (s.ctxAt 0).state = .parked ∧ (s.ctxAt 0).wait = .req (replied (List.replicate 16 5) (.entry 0)) ∧ x.state = .idle ∧ x.dev = true ∧ (x.wridx - x.rdidx).toNat < 2 ^ x.log2 ∧
       s.sharedPlace 0 .store x.base 64 = some (.mem 0x10000) ∧ s.sharedPlace 0 .store (x.base + 64) 64 = some (.mem 0x10040) ∧ s.snoop true [.mem 0x10000, .mem 0x10040] = none ∧
       s.backed 0x10000 = true ∧ s.backed 0x10040 = true ∧ freeTables s [x.base, x.base + 64] = true ∧
       (isPeerMem 0x10000 || isPeerRegs 0x10000 || isPeerMem 0x10040 || isPeerRegs 0x10040) = false) ∧
    (let s := { having { g := [(3, 2)], launch := 3 } with pkg := { user.pkg with entries := [{ entry0 with launch := 3 }] } }
     sound s [3] [63] [] [] ∧ (s.dieAt 0).tokQueue.count s.task.tid = s.task.tokReq ∧ s.task.tokHeld + s.task.tokReq + 2 ≤ s.tokpt ∧ s.tokpt < 3 ∧
       s.tokensOn 0 < (s.dieAt 0).limit) :=
  ⟨⟨sound_of (by decide), by decide⟩, ⟨sound_of (by decide), by rfl, by decide⟩, by decide +kernel, ⟨sound_of (by decide), by decide +kernel⟩, by decide +kernel,
    sound_of (by decide +kernel), by decide +kernel⟩

/-- A record of a page fault of context 15 of core 0, whose image lies at 0x3000. -/
def record1 : FaultRec := { kind := 1, core := 0, unit := 15, image := 0x3000 }

/-- A task of that context that waits for the response. -/
def stuck : State := { State.reset with ctxs := [(15, { state := .parked, wait := .response, task := { image := 0x3000 } })] }

/-- A process whose shared root table lies at device address 0x1000: its first entry names the table itself, the seventeenth a page. -/
def rooted : State := { State.reset with
  mem := writeBytes (writeBytes [] 0x1000 8 0x1041) 0x1080 8 0x5047
  pkg := { user.pkg with procs := [(0, { valid := true, sroot := 0x1003 })] } }

/-- A response to it, and to channel 7 and slot 3 of core 0. -/
def respond (target unit : Nat) : Word := BitVec.ofNat 64 (1 + 16 * target + 2 ^ 14 * unit + 2 ^ 18 * 3)

theorem meets_FaultsAndHalts :
    (let s := { user with pkg := { user.pkg with records := [record1], fqtail := 255 } }
     s.pkg.records = record1 :: [] ∧ (s.pkg.fqtail - s.pkg.fqhead).toNat ≠ 2 ^ s.pkg.fqlog2 ∧ s.snoop true [.mem (32 * 255)] = none ∧
       s.backed (32 * 255) = true ∧ (isPeerMem (32 * 255) || isPeerRegs (32 * 255)) = false ∧ s.pkg.ivtcount ≤ s.pkg.fqvec.toNat ∧
       (({ user with pkg := { user.pkg with records := [record1], fqtail := 256 } } : State).pkg.fqtail - 0).toNat = 2 ^ s.pkg.fqlog2) ∧
    (let v := respond 0 15
     let x := stuck.ctxAt (ctxKey ((v >>> 6).toNat % 256) ((v >>> 14).toNat % 16))
     (v >>> 4).toNat % 4 = 0 ∧ x.wait = .response ∧ x.state = .parked ∧ x.task.image.toNat / 2 ^ 12 % 2 ^ 36 = (v >>> 18).toNat % 2 ^ 36 ∧ stuck.pkg.records = [] ∧ x.task.node = none ∧ 6 ≤ stuck.pkg.phase ∧
       (stuck.ctxs.all fun y => match y.2.wait with | .saved _ => false | _ => true) = true ∧ (user.ctxAt 15).wait ≠ .response ∧ user.cores = []) ∧
    (let v := respond 1 7
     let s := engine {} { v := true, state := 3 } [{ copy64 with running := true, tfault := true }]
     (v >>> 4).toNat % 4 = 1 ∧ (v >>> 14).toNat % 16 = 7 ∧ (s.coreAt 0).copies = [{ copy64 with running := true, tfault := true }] ∧ copy64.walker = none ∧ s.pkg.records = [] ∧
       (s.ctxs.all fun z => z.2.wait = .none) = true) ∧
    (let v := respond 2 3
     let s := timed {} { logical [] with waiting := true }
     (v >>> 4).toNat % 4 = 2 ∧ (s.coreAt 0).lps.find 3 = some { logical [] with waiting := true } ∧ (logical []).ending = false ∧ s.pkg.records = []) ∧ (respond 3 0 >>> 4).toNat % 4 = 3 ∧
    (user.pkg.halted.getLsbD (user.domainOf 255) = false ∧ (user.coreAt 0).loomq = [] ∧
      let s := { one { state := .stopped, prior := .parked, met := true } with pkg := { user.pkg with halted := 255 } }
      s.pkg.halted.getLsbD (15 % 8) = true ∧ s.pkg.badTasks = [] ∧ (s.ctxAt 0).prior = .parked ∧ (s.ctxAt 0).met = true) ∧
    (user.dies = [] ∧
      let s := { State.reset with dies := [(3, { walks := [(255, 0, false, 0x10000)] })], pkg := { user.pkg with procs := [(0, { valid := true })] } }
      s.dies = (3, { walks := (255, 0, false, 0x10000) :: [] }) :: [] ∧ s.walk 0 false 0x10000 = none) ∧
    (let s := { rooted with dies := [(0, { walks := [(0, 0, false, 0x10000)] })] }
     s.dies = (0, { walks := (0, 0, false, 0x10000) :: [] }) :: [] ∧ s.tableOwned 0 0 false 0x10000 = none ∧ (s.walk 0 false 0x10000).isSome = true) :=
  ⟨by decide +kernel, by decide, by decide +kernel, by decide +kernel, by decide, by decide, by decide +kernel, by decide +kernel⟩

/-- A task whose call has one plain pointer, in g4. -/
def calling (p : Word) : State := having { g := [(4, p), (10, 1)] }

theorem meets_SystemCalls : (inEvent.task.inEvent = true ∧ sound inEvent (callRegs 300) [] [] []) ∧ (user.task.inEvent = false ∧ user.me.state ≠ .stopped ∧ user.mayEnd = true) ∧
    (having { storecnt := 1 }).mayEnd = false ∧ (3 < ((having { g := [(4, 4), (5, 0)] }).g 4).toNat ∧ 65536 ≤ ((having { g := [(4, 3), (5, 65536)] }).g 5).toNat) ∧
    (((having { g := [(4, 3), (5, 65535)] }).g 4).toNat ≤ 3 ∧ ((having { g := [(4, 3), (5, 65535)] }).g 5).toNat < 65536) ∧
    (user.gateRejects = false ∧ user.gateMiss = none ∧ 2 ^ 24 ≤ ((having { g := [(10, 0x1000000)] }).g 10).toNat) ∧ (calling 0x8000).gateRejects = false ∧
    (match (calling 0x8000).gateMiss with | some (.miss _ _ false false) => true | _ => false) = true ∧
    (match ({ rooted with ctxs := (calling 0x8000).ctxs, pkg := { rooted.pkg with hostLines := [(lineOf 0x1000 * 2, 4)] } } : State).gateMiss with
      | some (.retry 1 (.hostLine _)) => true
      | _ => false) = true ∧
    (let s := { user with dies := [(3, { calls := [(0, 0, 256)] })] }
     (s.dieAt 3).calls = (0, 0, 256) :: [] ∧ (s.dieAt 3).running = none ∧ ¬ s.coreHalted (coreOf (3 * 16) 0) = true) ∧
    (let s := { waiting (.syscall 256) with dies := [(3, { running := some (0, 0, 256) })] }
     (s.dieAt 3).running = some (0, 0, 256) ∧ (s.ctxAt (ctxKey 0 0)).wait = .syscall 256 ∧ (s.ctxAt (ctxKey 0 0)).state = .parked) ∧
    (sound super [3, 4] [] [] [] ∧ allFull super synced.syn ∧ super.task.mode = true ∧ super.drained = true ∧ user.task.mode = false) ∧
    (sound user (callRegs 0) [] [] [] ∧ sound user (callRegs 16) [] [] [] ∧ sound user (callRegs 17) [] [] [] ∧ sound user (callRegs 300) [] [] []) :=
  ⟨⟨by decide, sound_of (by decide)⟩, by decide, by decide, by decide, by decide, by decide +kernel, by decide +kernel, by decide +kernel, by decide +kernel, by decide, by decide, ⟨sound_of (by decide), by decide⟩, sound_of (by decide), sound_of (by decide), sound_of (by decide), sound_of (by decide)⟩

/-! ### Registers, resets, links, hosts -/

theorem meets_RegisterSpace : State.reset.pkg.phase = 6 ∧ (true ≠ State.reset.pkg.port ∧ false = State.reset.pkg.port) ∧ ({ State.reset with pkg := { State.reset.pkg with phase := 5 } } : State).pkg.phase < 6 ∧
    (0x1FF < 0x200 ∧ ¬ 0x300 ≤ 0x2FF) ∧ ((24#64).getLsbD 3 = true ∧ (8#64).getLsbD 4 = false ∧ (16#64).getLsbD 3 = false ∧ (16#64).getLsbD 4 = true) ∧
    ((8#64).toNat % 32 = 8 ∧ (16#64).toNat % 32 = 16 ∧ (2048#64).toNat % 4096 ≤ 2048) := by decide

/-- A flash that holds no more than a configuration block of 128 GiB with the third partition. -/
def flash128 : BootEnv :=
  { flash := List.replicate 64 0#8 ++ [0, 2, 0, 0, 128] ++ List.replicate 59 0#8, sram := 0, memoryOk := true, base0 := some 0x80000000, base1 := none }

theorem meets_LeaseLinkReset : ((1#64) >>> 32 = 0 ∧ (1#64).setWidth 32 = State.reset.pkg.epoch + 1 ∧ (false = State.reset.pkg.port)) ∧ State.reset.pkg.expired = false ∧
    (true ≠ State.reset.pkg.boot.side ∧ false = State.reset.pkg.boot.side ∧ 6 ≤ State.reset.pkg.phase) ∧
    (let d := ({ user with dies := [(3, { temp := 105 })] } : State).dieAt 3
     d.hold = false ∧ 105 ≤ d.temp ∧ (State.reset.dieAt 3).temp < 105) ∧
    (let d := ({ user with dies := [(3, { hold := true, cool := 140000 })] } : State).dieAt 3
     d.hold = true ∧ 140000 ≤ d.cool ∧ (State.reset.dieAt 3).cool < 140000) ∧
    headerFits flash128.flash = false ∧
    (let c := configBlock flash128.flash
     c % 256 ≤ 1 ∧ c / 2 ^ 8 % 256 = 2 ∧ c / 2 ^ 16 % 256 ≤ 1 ∧ c / 2 ^ 24 % 256 ≤ 1 ∧ c / 2 ^ 32 % 65536 = 128 ∧ c / 2 ^ 48 % 2 ^ 464 = 0) := by decide +kernel

/-- A link reduction of 16384 FP32 elements from offset 0x20000, with a post to m63 of core 0. -/
def reduction : BitVec 512 := BitVec.ofNat 512 (0x10 + 0x20000 * 2 ^ 64 + 0x4000 * 2 ^ 192 + 0xFC * 2 ^ 256)

/-- Channel 63 with the commands given, the first's record at offset 0x3FC0 of the page of `paged`. -/
def reducing (xs : List LrCmd) (up : Bool) : State := { paged user with
  mem := writeBytes [] 0x13FC0 64 reduction.toNat
  pkg := { (paged user).pkg with lr := [(63, { v := true, cmds := xs, started := 1 })], linkUp := up } }

/-- Elements whose first is not mapped have no places. -/
theorem lrPlaces_unmapped {s : State} {p size : Nat} {u : Use} {base : Word} (h : s.sharedPlace p u base size = none) {n : Nat} (hn : 0 < n) :
    s.lrPlaces p u base size n = none := by
  obtain ⟨n, rfl⟩ := Nat.exists_eq_succ_of_ne_zero (Nat.ne_of_gt hn)
  unfold State.lrPlaces
  rw [List.range_succ_eq_map, List.foldl_cons, show base + BitVec.ofNat 64 (size * 0) = base by simp, h]
  generalize (List.range n).map Nat.succ = l
  induction l with
  | nil => rfl
  | cons x l ih => exact ih

theorem meets_LinkReduction : (let s := reducing [{ index := 0, addr := 0x3FC0, record := reduction.toNat }] true
     let r := LrRecord.of reduction.toNat
     s.lrPlaces 0 .load r.src r.size r.sources = none) ∧ ((reducing [{ index := 0, addr := 0x3FC0 }] true).pkg.lr.get 63 {}).cmds ≠ [] ∧ ((reducing [] true).pkg.lr.get 63 {}).cmds = [] ∧
    (((reducing [] true).pkg.lr.get 63 {}).v = true ∧ (0x3FC0#64).toNat % 64 = 0 ∧ (0x3FC1#64).toNat % 64 ≠ 0 ∧ (user.pkg.lr.get 63 {}).v = false ∧
      4 ≤ ((reducing (List.replicate 4 { index := 0, addr := 0 }) true).pkg.lr.get 63 {}).cmds.length) ∧
    (let s := reducing [{ index := 0, addr := 0x3FC0 }] true
     let d := reduction.toNat
     freeTables s [0x3FC0] = true ∧ s.sharedPlace 0 .load 0x3FC0 64 = some (.mem 0x13FC0) ∧ s.snoop false [.mem 0x13FC0] = none ∧ s.placeBad (.mem 0x13FC0) = false ∧ s.readPlace (.mem 0x13FC0) 64 = d ∧
       d % 2 ^ 64 < 32 ∧ d / 2 ^ 192 % 2 ^ 64 = 16384 ∧ d / 2 ^ 256 % 2 ^ 32 = 0xFC ∧ d / 2 ^ 320 = 0 ∧ s.pkg.linkUp = true ∧ user.sharedPlace 0 .load 0x3FC0 64 = none) ∧
    (let s := reducing [{ index := 0, addr := 0x3FC0, record := 0x11 }] true
     let r := LrRecord.of 0x11
     s.lrPlaces 0 .load r.src r.size r.sources = some [] ∧ s.lrPlaces 0 .store r.dst r.size r.results = some [] ∧ s.snoop false [] = none ∧
         freeTables s ([] : List Word) = true ∧ (match s.lrWrite 0 r ([] : List Nat) [] with | .ok _ => true | .error _ => false) = true ∧
         (match ({ s with pkg := { s.pkg with badLines := [lineOf 0x12000] } } : State).lrWrite 0 r [1] [.mem 0x10000] with | .ok _ => false | .error c => c = 5) = true) ∧
    (let s := reducing [{ index := 0, addr := 0x3FC0, code := 1, record := reduction.toNat, stage := 1 }] true
     freeTables s [0x3FC0 + 0x30] = true ∧ (isPeerMem 0x13FF0 || isPeerRegs 0x13FF0) = false ∧ s.sharedPlace 0 .store (0x3FC0 + 0x30) 8 = some (.mem 0x13FF0) ∧ s.snoop true [.mem 0x13FF0] = none ∧ s.backed 0x13FF0 = true ∧ (s.process 0).shadows = [] ∧
       (s.coreAt ioDie).waiting = [] ∧ (s.coreAt ioDie).streams = [] ∧ (LrRecord.of reduction.toNat).post = true ∧ (LrRecord.of reduction.toNat).mbox = 0xFC) := by
  exact ⟨lrPlaces_unmapped (by decide +kernel) (by decide +kernel), by decide +kernel⟩

/-- A package whose hosts hold lines as given. -/
def hosted (xs : Store Nat) (back asked : List Nat) : State := { user with pkg := { user.pkg with hostLines := xs, backInv := back, snoops := asked } }

theorem meets_HostEvents :
    (user.needWrap 0 = false ∧ (let s := { user with dies := [(0, { dwts := 0xF00000 - 512 })] }; s.needWrap 0 = true ∧ (s.dieAt 0).wrapHold = false) ∧
      (let s := { user with dies := [(3, { wrapHold := true })] }; (s.dieAt 3).wrapHold = true ∧ s.inFlight 3 = false ∧ (s.dieAt 3).heldWrites = []) ∧
      (let s := { outgoing with dies := [(1, { wrapHold := true, outbound := [out8] })] }; (s.dieAt 1).wrapHold = true ∧ s.inFlight 1 = true)) ∧
    (({ user with dies := [(3, { visitors := [(5, { data := 0, wts := 0, rts := 0, born := 0 })] })] } : State).dieAt 3).visitors.find 5 =
      some { data := 0, wts := 0, rts := 0, born := 0 } ∧ ((user.dieAt 3).doneep.get 0 0 < 2 ^ 32) ∧
    (let line := user.frame 0x40 / 64
     user.hostLine (user.frame 0x40) = true ∧ user.hostState line true = 0 ∧ user.hostState line false = 0 ∧ user.pkg.backInv = [] ∧ user.pkg.snoops = [] ∧
       (hosted [(line * 2, 4)] [] []).hostState line false = 4 ∧ (hosted [(line * 2 + 1, 1)] [] []).hostState line true = 1 ∧
       (line * 2 + 1 ∈ (hosted [(line * 2 + 1, 2)] [line * 2 + 1] []).pkg.backInv ∧ (hosted [(line * 2 + 1, 2)] [line * 2 + 1] []).hostState line true = 2) ∧
       line * 2 ∈ (hosted [(line * 2, 3)] [] [line * 2]).pkg.snoops ∧ user.backed (user.frame 0x40 / 64 * 64) = true) ∧
    (let pa := user.frame 0x7FFFFFFF8
     user.backed pa = true ∧ user.hostOwns (lineOf pa) = false ∧ user.hostHolds (lineOf pa) = false ∧ (user.dieAt (homeDie pa)).sliceq = [] ∧ 6 ≤ user.pkg.phase ∧
       (user.ctxs.all fun x => match x.2.wait with | .publish _ _ _ _ _ => false | _ => true) = true) := by decide +kernel

/-- The state of `withFetchWord` with `add`, at the core's turn. -/
def turned : State := { ({ State.reset with ctxs := [(0, { task := { pc := 4 } })] } : State).withFetchWord 32 0x0E182804 with phase := .event }

/-- A task whose memory instruction of one word was accepted in the cycle before. -/
def accepted : State := { one { state := .parked, wait := .accepted 1, last := some 3, task := { pc := 8 } } with dies := [(0, { cycle := 4 })] }

theorem meets_IssueTurns : ((turned.dieAt 0).hold = false ∧ turned.resume = false ∧ (turned.ctxAt 0).state = .ready ∧ (turned.ctxAt 0).task.pc ≠ 0 ∧
      (turned.ctxAt 0).task.annul = 0 ∧ (∀ i < 16, i ≠ 0 → (turned.ctxAt i).state = .free) ∧ (turned.ctxAt 0).last = none ∧
      (turned.ctxAt 0).task.pendingError = none ∧ turned.fetched 0 = ([0x0E182804#32], none) ∧ (turned.ctxAt 0).task.sendq = [] ∧
      (turned.ctxAt 0).task.killed = false ∧ (turned.ctxAt 0).preempt = false ∧ turned.pastCost 0 = false) ∧
    (let s := { one { state := .ready, last := some 3, task := { pc := 4 } } with dies := [(0, { cycle := 4 })] }
     (s.ctxAt 0).task.pc ≠ 0 ∧ (s.ctxAt 0).last = some 3 ∧ (s.dieAt 0).elapsed < 3 + 4 ∧ ∀ i < 16, i ≠ 0 → (s.ctxAt i).state = .free) ∧
    (({ user with dies := [(0, { hold := true, halfTick := false })] } : State).dieAt 0).halfTick = false ∧
    ((user.ctxAt 0).task.pc = 0 ∧ (user.ctxAt 0).task.inEvent = false ∧ ({ user with cur := 0 }).mayEnd = true) ∧
    ((∀ j < 16, j ≠ 0 → (accepted.ctxAt j).state = .free) ∧ (accepted.ctxAt 0).wait = .accepted 1 ∧ (accepted.ctxAt 0).task.pc + 4 ≠ 0 ∧
      (accepted.ctxAt 0).last = some 3 ∧ (accepted.dieAt 0).elapsed < 3 + 4 ∧ accepted.pastCost 0 = false ∧ (accepted.ctxAt 0).task.annul = 0 ∧ (accepted.ctxAt 0).task.sendq = []) ∧
    (let s := { user with dies := [(3, { hold := true })] }
     ¬ ((s.dieAt 3).hold = false ∨ (s.dieAt 3).halfTick = true) ∧ s.pkg.queues = [] ∧ s.pkg.entries = [] ∧ s.pkg.groups = [] ∧
       (∀ x ∈ s.ctxs, x.2.wait = .none) ∧ ∀ d < 4, (s.dieAt d).visitors = []) ∧
    (let s := paged (waiting .fill)
     (s.ctxAt 0).wait = .fill ∧ s.missing 0 = some 0 ∧ ({ s with cur := 0 } : State).locate s.agent .fetch 0 0 4 = .ok (.mem 0x10000) ∧ s.lookup 0 0 false 0 = some (page0, true) ∧
       s.backed 0x10000 = true ∧ isPeerMem 0x10000 = false ∧ isPeerRegs 0x10000 = false ∧ homeDie 0x10000 = dieOf 0 ∧ (s.dieAt 0).wrapHold = false ∧
       s.hostOwns (lineOf 0x10000) = false ∧ s.lineBad 0x10000 = false ∧ s.needWrap 0 = false) ∧
    (let s := { State.reset.withFetchWord 32 0x0E182804 with ctxs := [(0, { (State.reset.withFetchWord 32 0x0E182804).ctxAt 0 with state := .parked, wait := .fill })] }
     (s.ctxAt 0).wait = .fill ∧ (s.ctxAt 0).state = .parked ∧ s.missing 0 = none) ∧
    (((waiting (.lines [8, 9])).ctxAt 0).wait = .lines [8, 9] ∧ ∀ l ∈ [8, 9], l ∉ ((waiting (.lines [8, 9])).ctxAt 0).task.absent) :=
  ⟨by decide +kernel, by decide +kernel, by decide, by decide, by decide, by decide, ⟨by decide, by decide +kernel, by rfl, by decide +kernel⟩, by decide +kernel, by decide⟩

/-! ### Encodings and steps -/

theorem meets_RoundTrip : (Instr.add 127 0 127).wf = true ∧ encode (.add 127 0 127) ≠ [] ∧ (Instr.addX synced).wf = true ∧ encode (.addX synced) ≠ [] := by decide +kernel

theorem meets_StepRunsDecoded : let s := State.reset.withFetchWord 32 0x0E182804
    s.phase = .run ∧ s.fetched s.cur = ([0x0E182804#32], none) ∧ s.curCore < 255 ∧ (State.reset.withFetchWord 32 0).fetched s.cur = ([0#32], none) ∧ user.phase = .event ∧ user.agenda = [] := by
  decide +kernel

theorem meets_StepRunsDecoded_words : decode [0x0E182804#32] = .ok (.add 5 6 7, []) ∧ decode [0#32] = .error .reservedOp := ⟨by rfl, by rfl⟩

theorem meets_MemoryStaysCanonical : State.reset.memOk ∧ turned.memOk :=
  show Memory.wf State.reset.mem = true ∧ Memory.wf turned.mem = true by decide +kernel

end Sys2Proof.Tests
end

section
/-! Streams (R16, R17, R315): what a release, an arrival and an acknowledgement of a packet do. -/

namespace Sys2Proof.Proofs

open Sys2Proof Sys2Proof.Machine Sys2Proof.Laws

/-! ### Rules of the operations on streams -/

/-- A state with one packet fewer in flight. -/
def dropPacket (s : State) (n : Nat) : State := s.setPkg { s.pkg with packets := s.pkg.packets.drop n }

@[simp] theorem mem_dropPacket (s : State) (n : Nat) : (dropPacket s n).mem = s.mem := rfl
@[simp] theorem ctxs_dropPacket (s : State) (n : Nat) : (dropPacket s n).ctxs = s.ctxs := rfl
@[simp] theorem agenda_dropPacket (s : State) (n : Nat) : (dropPacket s n).agenda = s.agenda := rfl
@[simp] theorem coreAt_dropPacket (s : State) (n c : Nat) : (dropPacket s n).coreAt c = s.coreAt c := rfl
@[simp] theorem find_packets_dropPacket (s : State) (n : Nat) : (dropPacket s n).pkg.packets.find n = none :=
  find_drop_same ..

/-- The events that the release of one packet causes: the message's, if the packet is its last (R16), and the
acknowledgement, unless the packet is of the timed network, number 5 (R315). -/
def releaseActs (p : Packet) : List Instr :=
  (if p.part then [] else [p.release]) ++ (if p.net = 5 then [] else [.streamAck p.src p.net p.stream])

/-- The destination's core after the release of one packet: it expects the next number of the stream. -/
def afterRelease (c : Core) (p : Packet) : Core :=
  { c with expected := c.expected.put (streamKey p.net p.src p.stream) ((p.seq + 1) % 4096), mrecv := c.mrecv + 1 }

@[simp] theorem expected_afterRelease (c : Core) (p : Packet) :
    (afterRelease c p).expected.get (streamKey p.net p.src p.stream) 0 = (p.seq + 1) % 4096 :=
  get_put_same ..

/-- The state after the release of one packet at a destination. -/
def releaseOnly (s : State) (dest : Nat) (p : Packet) : State :=
  { s.setCoreAt dest (afterRelease (s.coreAt dest) p) with agenda := s.agenda ++ releaseActs p }

@[simp] theorem mem_releaseOnly (s : State) (dest : Nat) (p : Packet) : (releaseOnly s dest p).mem = s.mem := rfl
@[simp] theorem ctxs_releaseOnly (s : State) (dest : Nat) (p : Packet) : (releaseOnly s dest p).ctxs = s.ctxs := rfl
@[simp] theorem pkg_releaseOnly (s : State) (dest : Nat) (p : Packet) : (releaseOnly s dest p).pkg = s.pkg := rfl
@[simp] theorem agenda_releaseOnly (s : State) (dest : Nat) (p : Packet) :
    (releaseOnly s dest p).agenda = s.agenda ++ releaseActs p := rfl
@[simp] theorem coreAt_releaseOnly (s : State) (dest : Nat) (p : Packet) :
    (releaseOnly s dest p).coreAt dest = afterRelease (s.coreAt dest) p :=
  coreAt_setCoreAt_same ..

/-- With no packet held out of order, a release ends with the one packet. -/
theorem releaseFrom_of_reorder_nil {s : State} {dest : Nat} (fuel : Nat) (p : Packet) (h : (s.coreAt dest).reorder = []) :
    s.releaseFrom dest (fuel + 1) p = releaseOnly s dest p := by
  cases hpart : p.part <;> by_cases hnet : p.net = 5 <;>
    simp [State.releaseFrom, releaseOnly, releaseActs, afterRelease, State.push, State.setCoreAt, h, hpart, hnet]

section Arrival

variable {s : State} {n : Nat} {p : Packet} (hp : s.pkg.packets.find n = some p)
include hp

theorem packetArrive_of_expected (hseq : (s.coreAt p.dest).expected.get (streamKey p.net p.src p.stream) 0 = p.seq)
    (hnone : (s.coreAt p.dest).reorder = []) : packetArrive n s = releaseOnly (dropPacket s n) p.dest p := by
  rw [← releaseFrom_of_reorder_nil (s := dropPacket s n) 64 p hnone]
  simp [packetArrive, hp, hseq, dropPacket]

theorem packetArrive_of_room (hseq : (s.coreAt p.dest).expected.get (streamKey p.net p.src p.stream) 0 ≠ p.seq)
    (hroom : ((s.coreAt p.dest).reorder.filter fun q => q.net = p.net).length < 64) :
    packetArrive n s =
      (dropPacket s n).setCoreAt p.dest { s.coreAt p.dest with reorder := (s.coreAt p.dest).reorder ++ [p] } := by
  simp [packetArrive, hp, hseq, hroom, dropPacket]

theorem packetArrive_of_full (hseq : (s.coreAt p.dest).expected.get (streamKey p.net p.src p.stream) 0 ≠ p.seq)
    (hfull : 64 ≤ ((s.coreAt p.dest).reorder.filter fun q => q.net = p.net).length) :
    packetArrive n s = s.push (.packetResend n) := by
  simp [packetArrive, hp, hseq, Nat.not_lt.2 hfull]

end Arrival

/-- With nothing waiting for a stream, the pump sends nothing. -/
theorem pumpStreams_of_waiting_nil {s : State} {src : Nat} (h : (s.coreAt src).waiting = []) :
    s.pumpStreams src = s.setCoreAt src { s.coreAt src with waiting := [] } := by
  simp [State.pumpStreams, h]

/-! ### The events -/

theorem exec_packetArrive (n : Nat) (s : State) : exec (.packetArrive n) s = .next (packetArrive n s) := rfl

theorem exec_packetResend {n : Nat} {s : State} {p : Packet} (hp : s.pkg.packets.find n = some p) :
    exec (.packetResend n) s = .next (s.push (.packetArrive n)) := by
  have hexec : exec (.packetResend n) s = execPacketResend n s := rfl
  simp [hexec, execPacketResend, done, hp]

theorem exec_streamAck (src net k : Nat) (s : State) : exec (.streamAck src net k) s = .next (streamAck src net k s) := rfl

/-- A packet out of order takes a place of the reorder buffer (R17). -/
theorem exec_packetArrive_keeps {s : State} {n : Nat} {p : Packet} (hp : s.pkg.packets.find n = some p)
    (hseq : (s.coreAt p.dest).expected.get (streamKey p.net p.src p.stream) 0 ≠ p.seq)
    (hroom : ((s.coreAt p.dest).reorder.filter fun q => q.net = p.net).length < 64) :
    ∃ t, exec (.packetArrive n) s = .next t ∧ t.mem = s.mem ∧ t.ctxs = s.ctxs ∧ t.agenda = s.agenda ∧
      (t.coreAt p.dest).reorder = (s.coreAt p.dest).reorder ++ [p] :=
  ⟨_, by rw [exec_packetArrive, packetArrive_of_room hp hseq hroom], by simp, by simp, by simp, by simp⟩

/-- An acknowledgement opens the window of its stream by one (R17). -/
theorem exec_streamAck_opens {s : State} {src net k : Nat} {x : Stream} (hx : (s.coreAt src).streams.find (net * 16 + k) = some x)
    (hwait : (s.coreAt src).waiting = []) :
    ∃ t, exec (.streamAck src net k) s = .next t ∧ t.mem = s.mem ∧ t.ctxs = s.ctxs ∧
      (t.coreAt src).streams.find (net * 16 + k) = some { x with unacked := x.unacked - 1 } := by
  refine ⟨_, exec_streamAck src net k s, ?_⟩
  simp only [streamAck, hx]
  rw [pumpStreams_of_waiting_nil (by simpa using hwait)]
  simp

/-! ### The obligation -/

/-- Settles O36: the arrival of a packet by its three cases, and the acknowledgement. -/
theorem streams : Obligations.Streams := by
  unfold Obligations.Streams
  refine ⟨fun s n p hp => ⟨fun hseq hnone => ?_, exec_packetArrive_keeps hp, fun hseq hfull => ?_, exec_packetResend hp⟩,
    fun s src net k x => exec_streamAck_opens⟩
  · refine ⟨_, by rw [exec_packetArrive, packetArrive_of_expected hp hseq hnone], ?_⟩
    simp [releaseActs]
  · rw [exec_packetArrive, packetArrive_of_full hp hseq hfull]

end Sys2Proof.Proofs
end

section
/-! The encoding (R37 to R65): the round trip of every form, words worked by hand, and the step that runs what the decoder reads. -/

namespace Sys2Proof.Proofs

open Sys2Proof Sys2Proof.Machine Sys2Proof.Laws

/-! ### The round trip -/

/-- The round trip of every row: the lemma of its constructor, in the order in which `Instr` lists them. -/
theorem decode_encode_of_wf (i : Instr) : F.Statement i :=
  Instr.casesOn (motive := F.Statement) i
    -- the events, which have no words
    F.issueTurn F.fillArrive F.imageRecall F.divideDone F.vectorLongDone F.loadReply F.storeAck F.splitLoadReply F.splitLoadForward
    F.wtneLineWrite F.shuttleDepart F.shuttleArrive F.waymaskGrowDone F.waymaskShrink F.rfpartRepartition F.granaryReply F.lclkTick
    F.sliceLoad F.sliceWrite F.homeAtomic F.outboundWriteApply F.crossDieReply F.doneepPublish F.doneepReceive F.visitorExpire
    F.peerLineExpire F.clockWrapBegin F.clockWrapDone F.hostRead F.hostTakesOwnership F.backInvalidationAck F.sliceEviction
    F.peerAccessArrive F.peerLinkDown F.peerLinkUp F.peerRequestTimeout F.packetArrive F.packetResend F.streamAck F.refreshWindowEnd
    F.loomCmdStart F.loomCmdDone F.mmamSliceDone F.loomClaimRetry F.loomRecallDone F.loomRestoreDone F.copyStart F.copyLineWritten
    F.copyComplete F.copyTfault F.copyRunFault F.apertureStore F.chownWrite F.postArrive F.mwaitWake F.msgDeliver F.sendReply F.sendReoffer
    F.spawnArrive F.spawnReply F.subRequestArrive F.subUpdateApply F.subLineTimeout F.cbindWrite F.cirqWrite F.counterPageStore F.tmsgArrive
    F.tmsgReoffer F.antiMsgArrive F.gvtStart F.gvtPublish F.pdsyncWrite F.qsyncWrite F.doorbellWridx F.doorbellRdidx F.doorbellResume
    F.doorbellDrop F.queueRead F.headerRepoll F.entryStart F.periodStart F.entryComplete F.takeWork F.theftRequest F.theftReply
    F.quantumBoundary F.preempt F.allocSwapOut F.allocSwapIn F.nodeFire F.nodeComplete F.nodeFault F.weightGateOpen F.tokenRedivision
    F.boundedCostExpire F.faultRecordWrite F.xrespResume F.xrespResumeAt F.xrespTerminate F.hctlStop F.hctlRestart F.uncorrectableError
    F.serviceCallStart F.sysReply F.leaseWrite F.leaseExpire F.standbyStoreDrop F.lrchownWrite F.lrChannelStore F.lrPairStart F.lrComplete
    F.registerWrite F.coldReset F.bootctlReset F.thermalHoldEnter F.thermalHoldExit F.subReply F.peerWindowAccess F.weightStoreAccess
    F.counterLoadArrive F.translationWalkDone F.hostWriteback
    -- the base forms: LEN 0b00
    F.add F.sub F.mul F.mulh F.mulhu F.div F.divu F.rem F.remu F.and F.or F.xor F.andn F.orn F.shl F.shr F.sra F.rotl F.min F.max F.minu
    F.maxu F.addw F.subw F.mulw F.shlw F.shrw F.sraw F.bext F.bins F.bset F.bclr F.seq F.sne F.slt F.sltu F.sle F.sleu F.not F.neg F.clz
    F.ctz F.popc F.sextb F.sexth F.sextw F.zextb F.zexth F.zextw F.bswap F.addi F.andi F.ori F.xori F.shli F.shri F.srai F.rotli F.muli F.li
    F.lpc F.skp F.br F.call F.jmp F.callr F.ret F.dbnz F.mfs F.mts F.fset F.fclr F.ldb F.ldbu F.ldh F.ldhu F.ldw F.ldwu F.ldd F.stb F.sth
    F.stw F.std F.ldp F.stp F.ldf F.ldfw F.wtne F.pin F.unpin F.flush F.pref F.alloc F.free F.go F.bara F.barw F.barset F.wsref F.join
    F.exit F.yield F.ndone F.trap F.sys F.eret F.halt F.brk F.rfpart F.wmask F.ctrrd F.ctrcfg
    -- the literal and extended forms: LEN 0b01, 0b10 and 0b11
    F.addX F.subX F.mulX F.mulhX F.mulhuX F.divX F.divuX F.remX F.remuX F.andX F.orX F.xorX F.andnX F.ornX F.shlX F.shrX F.sraX F.rotlX
    F.minX F.maxX F.minuX F.maxuX F.addwX F.subwX F.mulwX F.shlwX F.shrwX F.srawX F.bextX F.binsX F.bsetX F.bclrX F.seqX F.sneX F.sltX
    F.sltuX F.sleX F.sleuX F.notX F.negX F.clzX F.ctzX F.popcX F.sextbX F.sexthX F.sextwX F.zextbX F.zexthX F.zextwX F.bswapX F.addiX
    F.andiX F.oriX F.xoriX F.shliX F.shriX F.sraiX F.rotliX F.muliX F.liX F.lpcX F.skpX F.jmpX F.callrX F.dbnzX F.mfsX F.mtsX F.fsetX
    F.fclrX F.ldbX F.ldbuX F.ldhX F.ldhuX F.ldwX F.ldwuX F.lddX F.stbX F.sthX F.stwX F.stdX F.ldpX F.stpX F.ldfX F.ldfwX F.aadd F.aand F.aor
    F.axor F.amin F.amax F.aminu F.amaxu F.aswp F.acas F.aaddw F.aandw F.aorw F.axorw F.aminw F.amaxw F.aminuw F.amaxuw F.aswpw F.acasw
    F.fence F.wtneX F.pinX F.unpinX F.flushX F.prefX F.allocX F.freeX F.goX F.vadd F.vsub F.vmul F.vfma F.vmin F.vmax F.vabs F.vand F.vor
    F.vxor F.vnot F.vshl F.vshr F.vsra F.vcmp F.vsel F.vperm F.vbcast F.vext F.vred F.vrcp F.vrsq F.vexp2 F.vlog2 F.vcvt F.vrq F.vmov F.vcnt
    F.vfirst F.vld F.vst F.vlds F.vsts F.vgat F.vsca F.vldt F.vstt F.tdef F.tclaim F.trel F.tld F.mma F.mmam F.acz F.acld F.acst F.acrd
    F.xdef F.xfer F.xwait F.xstat F.xcan F.xpub F.wsrefX F.post F.mwait F.mrd F.mset F.send F.recv F.spawn F.spawnGrp F.subscribe F.unsub
    F.subflush F.tbind F.tnext F.tsend F.tdone F.tirr F.tgvt F.fork F.joinX F.ndoneX F.qsub F.ptokTake F.ptokGive F.xlinvAll F.xlinvPage
    F.xlinvProc F.ctrrdX F.ctrcfgX

/-- Settles O57: F.Statement is the round trip of one instruction. -/
theorem roundTrip : Obligations.RoundTrip := by
  unfold Obligations.RoundTrip
  exact decode_encode_of_wf

/-! ### Words worked by hand -/

/-- Words that are the encoding of a well-formed instruction decode to it: the round trip with no word after them. -/
theorem decode_of_encode {i : Instr} {w : IWord} {ws : List IWord} (henc : encode i = w :: ws) (hwf : i.wf = true) :
    decode (w :: ws) = .ok (i, []) := by
  have h := decode_encode_of_wf i hwf (by simp [henc]) []
  rwa [List.append_nil, henc] at h

/-- Settles O56: by the round trip where the words are the encoding of an instruction, by the decoder where they are refused. -/
theorem decodeWords : Obligations.DecodeWords := by
  unfold Obligations.DecodeWords
  and_intros
  any_goals exact decode_of_encode rfl rfl
  · rfl -- OP 0
  · rfl -- a skip of no words
  · rfl -- words that end too early

/-! ### What runs after the choice of an instruction -/

/-- A core's turn that is over hands over to the next core, and changes nothing else before the last core's. -/
theorem endTurn_of_lt {s : State} {core : Nat} (h : core < 255) :
    s.endTurn core = { s with turn := core + 1, passed := 0, resume := false } := by
  have hne : core ≠ 255 := by omega
  have hmod : (core + 1) % 256 = core + 1 := Nat.mod_eq_of_lt (by omega)
  simp only [State.endTurn, hne, hmod, if_false]

theorem afterRun_of_event {s : State} (h : s.phase = .event) (core : Nat) : s.afterRun core = s := by
  simp only [State.afterRun, h]

theorem afterRun_of_run {s : State} (h : s.phase = .run) (core : Nat) :
    s.afterRun core = ({ s with phase := .event }.bump core 1 1).endTurn core := by
  simp only [State.afterRun, h]

/-! ### The step in each phase -/

theorem step_of_run {s : State} (h : s.phase = .run) : step s = runChosen s := by
  simp only [step, h]

theorem step_of_event {s : State} (h : s.phase = .event) : step s = exec s.nextEvent.1 s.nextEvent.2 := by
  simp only [step, h]

section Chosen

variable {s : State} {ws : List IWord} (hf : s.fetched s.cur = (ws, none))

include hf

theorem runChosen_of_next {i : Instr} {rest : List IWord} {t : State} (hd : decode ws = .ok (i, rest)) (he : exec i s = .next t) :
    runChosen s = .next (t.afterRun s.curCore) := by
  simp only [runChosen, hf, hd, he]

theorem runChosen_of_fault {i : Instr} {rest : List IWord} {f : Fault} (hd : decode ws = .ok (i, rest)) (he : exec i s = .fault f) :
    runChosen s = .fault f := by
  simp only [runChosen, hf, hd, he]

theorem runChosen_of_refused {i : Instr} {rest : List IWord} {r : Refusal} (hd : decode ws = .ok (i, rest))
    (he : exec i s = .refused r) : runChosen s = .refused r := by
  simp only [runChosen, hf, hd, he]

theorem runChosen_of_decode_error {e : DecodeError} (hd : decode ws = .error e) :
    runChosen s = .next ((s.settle (.error s.illegal)).afterRun s.curCore) := by
  simp only [runChosen, hf, hd]

end Chosen

/-! ### The next event -/

theorem nextEvent_of_agenda_nil {s : State} (h : s.agenda = []) : s.nextEvent = (.issueTurn (coreId s.turn), s) := by
  simp [State.nextEvent, h, State.eligible]

/-- What comes next is the issue turn or an event of the agenda, whichever of its rules chooses it. -/
theorem nextEvent_turn_or_mem (s : State) : s.nextEvent.1 = .issueTurn (coreId s.turn) ∨ s.nextEvent.1 ∈ s.agenda := by
  unfold State.nextEvent
  dsimp only
  split
  next i hurgent => -- the first urgent event
    obtain ⟨hlt, -⟩ := List.findIdx?_eq_some_iff_getElem.1 hurgent
    right
    rw [List.getD_eq_getElem?_getD, List.getElem?_eq_getElem hlt, Option.getD_some]
    exact List.getElem_mem hlt
  next => -- no event is urgent
    split
    · exact .inl rfl -- nor may any come next
    · split -- the free choice among the eligible events and the turn
      · exact .inl rfl
      · split
        · exact .inl rfl
        · next hat => exact .inr (List.mem_of_getElem? hat)

/-- Settles O58: each part is the rule of its name. -/
theorem stepRunsDecoded : Obligations.StepRunsDecoded := by
  unfold Obligations.StepRunsDecoded
  refine ⟨fun s ws rest i hp hf hd => ?_, fun s ws e hp hf hd => ?_, fun s core h => afterRun_of_event h core,
    fun s core hp hc => ?_, fun s => step_of_event, fun s hp ha => ?_, nextEvent_turn_or_mem⟩
  · rw [step_of_run hp]
    exact ⟨fun t => runChosen_of_next hf hd, fun f => runChosen_of_fault hf hd, fun r => runChosen_of_refused hf hd⟩
  · rw [step_of_run hp, runChosen_of_decode_error hf hd]
  · exact ⟨_, by rw [afterRun_of_run hp, endTurn_of_lt hc], by simp⟩
  · rw [step_of_event hp, nextEvent_of_agenda_nil ha]

end Sys2Proof.Proofs
end

section
/-! Formats and rounding (R139 to R142, R147, R148): every number of a format is a normalised pair of a spacing and a
multiple of it, and rounding takes one of the two multiples around a value. -/

namespace Sys2Proof.Proofs

open Sys2Proof Sys2Proof.Machine Sys2Proof.Laws

/-! ### The magnitude codes of a format -/

/-- The magnitude code of `r` multiples of the spacing 2^q. -/
def codeAt (f : Fmt) (q : Int) (r : Nat) : Nat := (q - f.qmin).toNat * 2 ^ (f.p - 1) + r

/-- `r` multiples of 2^q as a format holds them: with its full precision above the smallest spacing, with no more than that at it. -/
structure Normalised (f : Fmt) (q : Int) (r : Nat) : Prop where
  qmin_le : f.qmin ≤ q
  lt : r < 2 ^ (f.p - 1 + 1)
  full : q = f.qmin ∨ 2 ^ (f.p - 1) ≤ r

theorem mag_codeAt {f : Fmt} {q : Int} {r : Nat} (h : Normalised f q r) (neg : Bool) : f.mag (codeAt f q r) neg = .dy neg r q := by
  obtain ⟨hq, hlt, hfull⟩ := h
  have hpos : 0 < 2 ^ (f.p - 1) := Nat.two_pow_pos _
  rw [Nat.pow_succ] at hlt
  unfold Fmt.mag codeAt
  by_cases hr : r < 2 ^ (f.p - 1)
  · obtain rfl : q = f.qmin := hfull.resolve_right (by omega)
    simp [Nat.div_eq_of_lt hr, Nat.mod_eq_of_lt hr]
  · obtain ⟨t, rfl⟩ : ∃ t, r = 2 ^ (f.p - 1) + t := ⟨r - 2 ^ (f.p - 1), by omega⟩
    have hcode : (q - f.qmin).toNat * 2 ^ (f.p - 1) + (2 ^ (f.p - 1) + t) = t + 2 ^ (f.p - 1) * ((q - f.qmin).toNat + 1) := by
      rw [Nat.mul_comm, Nat.mul_succ]
      omega
    have ht : t < 2 ^ (f.p - 1) := by omega
    have hexp : f.qmin + ((q - f.qmin).toNat + 1 : Nat) - 1 = q := by omega
    rw [hcode, Nat.add_mul_div_left _ _ hpos, Nat.add_mul_mod_self_left, Nat.div_eq_of_lt ht, Nat.mod_eq_of_lt ht, Nat.zero_add]
    exact (if_neg (Nat.succ_ne_zero _)).trans (by rw [hexp])

/-- Every magnitude code is that of a normalised pair. -/
theorem exists_codeAt (f : Fmt) (c : Nat) : ∃ q r, Normalised f q r ∧ codeAt f q r = c := by
  have hpos : 0 < 2 ^ (f.p - 1) := Nat.two_pow_pos _
  have hdiv := Nat.div_add_mod c (2 ^ (f.p - 1))
  have hmod := Nat.mod_lt c hpos
  cases hn : c / 2 ^ (f.p - 1) with
  | zero => -- subnormal
    rw [hn] at hdiv
    exact ⟨f.qmin, c, ⟨Int.le_refl _, by rw [Nat.pow_succ]; omega, .inl rfl⟩, by simp [codeAt]⟩
  | succ n => -- normal
    rw [hn] at hdiv
    refine ⟨f.qmin + n, 2 ^ (f.p - 1) + c % 2 ^ (f.p - 1), ⟨by omega, by rw [Nat.pow_succ]; omega, .inr (by omega)⟩, ?_⟩
    have hq : (f.qmin + n - f.qmin).toNat = n := by omega
    rw [Nat.mul_succ] at hdiv
    rw [codeAt, hq, Nat.mul_comm]
    omega

/-! ### The grid of a format -/

/-- log2 of the spacing of a format's grid around m × 2^e (R147, step 3). -/
def spacing (f : Fmt) (m : Nat) (e : Int) : Int :=
  if leadExp m e - (f.p - 1 : Nat) < f.qmin then f.qmin else leadExp m e - (f.p - 1 : Nat)

/-- m × 2^e on a format's grid. -/
def placed (f : Fmt) (m : Nat) (e : Int) : OnGrid := onGrid m e (spacing f m e) false

theorem spacing_of_normalised {f : Fmt} {q : Int} {r : Nat} (h : Normalised f q r) (hr : 0 < r) : spacing f r q = q := by
  obtain ⟨hq, hlt, hfull⟩ := h
  have hlog : r.log2 < f.p - 1 + 1 := (Nat.log2_lt (Nat.ne_of_gt hr)).2 hlt
  unfold spacing leadExp
  rcases hfull with rfl | hle
  · split <;> omega
  · have : f.p - 1 ≤ r.log2 := (Nat.le_log2 (Nat.ne_of_gt hr)).2 hle
    split <;> omega

theorem onGrid_self (m : Nat) (e : Int) (sticky : Bool) : onGrid m e e sticky = ⟨m, 0, 0, sticky⟩ := by simp [onGrid]

theorem placed_of_normalised {f : Fmt} {q : Int} {r : Nat} (h : Normalised f q r) (hr : 0 < r) : placed f r q = ⟨r, 0, 0, false⟩ := by
  rw [placed, spacing_of_normalised h hr, onGrid_self]

/-! ### Rounding on the grid (R147, R148) -/

/-- A value on the grid is its own result in every mode. -/
theorem round_of_exact {g : OnGrid} (h : g.inexact = false) (mode : Rnd) (neg : Bool) (draw : Nat) : g.round mode neg draw = g.kept := by
  obtain ⟨hrest, hsticky⟩ : g.rest = 0 ∧ g.sticky = false := by simpa [OnGrid.inexact] using h
  have hk : 0 ≠ 2 ^ g.k := Nat.ne_of_lt (Nat.two_pow_pos _)
  cases mode <;> simp [OnGrid.round, OnGrid.inexact, hrest, hsticky, hk]

theorem round_rdn (g : OnGrid) (draw : Nat) : g.round .rdn false draw = g.kept := by simp [OnGrid.round]

theorem round_rtz (g : OnGrid) (neg : Bool) (draw : Nat) : g.round .rtz neg draw = g.kept := by simp [OnGrid.round]

theorem round_rup_of_inexact {g : OnGrid} (h : g.inexact = true) (draw : Nat) : g.round .rup false draw = g.kept + 1 := by
  simp [OnGrid.round, h]

theorem round_eq_rup_or_rdn (g : OnGrid) (mode : Rnd) (draw : Nat) :
    g.round mode false draw = g.round .rup false draw ∨ g.round mode false draw = g.round .rdn false draw := by
  cases h : g.inexact with
  | false => exact .inr (by simp only [round_of_exact h])
  | true =>
    rw [round_rup_of_inexact h, round_rdn]
    unfold OnGrid.round
    extract_lets away
    cases away with
    | false => exact .inr rfl
    | true => exact .inl rfl

/-- The code of the multiple that a mode picks for m × 2^e, before overflow is judged (R147, steps 3 and 4). -/
def roundedCode (f : Fmt) (mode : Rnd) (neg : Bool) (draw m : Nat) (e : Int) : Nat :=
  codeAt f (spacing f m e) ((placed f m e).round mode neg draw)

theorem roundedCode_rdn (f : Fmt) (draw m : Nat) (e : Int) :
    roundedCode f .rdn false draw m e = codeAt f (spacing f m e) (placed f m e).kept := by rw [roundedCode, round_rdn]

theorem roundedCode_rup_of_exact {f : Fmt} {m : Nat} {e : Int} (h : (placed f m e).inexact = false) (draw : Nat) :
    roundedCode f .rup false draw m e = roundedCode f .rdn false draw m e := by
  rw [roundedCode_rdn, roundedCode, round_of_exact h]

theorem roundedCode_rup_of_inexact {f : Fmt} {m : Nat} {e : Int} (h : (placed f m e).inexact = true) (draw : Nat) :
    roundedCode f .rup false draw m e = roundedCode f .rdn false draw m e + 1 := by
  rw [roundedCode_rdn, roundedCode, round_rup_of_inexact h]
  rfl

/-- Up and down pick one code for a value on the grid, and neighbours for a value off it. -/
theorem roundedCode_rup_cases (f : Fmt) (draw m : Nat) (e : Int) :
    (roundedCode f .rup false draw m e = roundedCode f .rdn false draw m e ∧ (placed f m e).inexact = false) ∨
      (roundedCode f .rup false draw m e = roundedCode f .rdn false draw m e + 1 ∧ (placed f m e).inexact = true) := by
  cases h : (placed f m e).inexact with
  | false => exact .inl ⟨roundedCode_rup_of_exact h draw, rfl⟩
  | true => exact .inr ⟨roundedCode_rup_of_inexact h draw, rfl⟩

theorem roundedCode_eq_rup_or_rdn (f : Fmt) (mode : Rnd) (draw m : Nat) (e : Int) :
    roundedCode f mode false draw m e = roundedCode f .rup false draw m e ∨
      roundedCode f mode false draw m e = roundedCode f .rdn false draw m e :=
  (round_eq_rup_or_rdn _ mode draw).imp (congrArg _) (congrArg _)

/-! ### Encoding a value -/

theorem encode_inf {f : Fmt} {neg : Bool} {i : Nat} (hi : f.infCode = some i) (hs : neg = true → f.signed = true) (mode : Rnd)
    (draw : Nat) : f.encode mode draw false (.inf neg) = (f.withSign neg i, 0) := by
  have : (neg && !f.signed) = false := by cases neg <;> simp_all
  simp [Fmt.encode, this, hi]

theorem encode_zero (f : Fmt) (mode : Rnd) (draw : Nat) (sat neg : Bool) (e : Int) :
    f.encode mode draw sat (.dy neg 0 e) = (if neg && f.ieee then f.withSign true 0 else 0, 0) := by
  simp [Fmt.encode, Num.dy]

/-- Is m × 2^e tiny (R147): below the smallest normal once rounded to the format's precision with an unbounded exponent? -/
def tiny (f : Fmt) (mode : Rnd) (neg : Bool) (draw m : Nat) (e : Int) : Bool :=
  leadExp ((onGrid m e (leadExp m e - (f.p - 1 : Nat)) false).round mode neg draw) (leadExp m e - (f.p - 1 : Nat)) <
    f.qmin + (f.p - 1 : Nat)

/-- The flags of a rounding that does not overflow. -/
def roundFlags (inexact tiny : Bool) : Word := flagIf inexact fNX ||| flagIf (inexact && tiny) fUF

theorem roundFlags_exact (tiny : Bool) : roundFlags false tiny = 0 := by simp [roundFlags, flagIf]

theorem roundFlags_and_fNX_eq_zero : ∀ {inexact tiny : Bool}, roundFlags inexact tiny &&& fNX = 0 ↔ inexact = false := by decide

/-- A nonzero value whose rounding does not overflow gives the code of the multiple that the mode picks. -/
theorem encode_dy {f : Fmt} {mode : Rnd} {draw : Nat} {neg : Bool} {m : Nat} {e : Int} (hm : 0 < m) (hs : neg = true → f.signed = true)
    (hle : roundedCode f mode neg draw m e ≤ f.maxCode) (sat : Bool) :
    f.encode mode draw sat (.dy neg m e) =
      (if roundedCode f mode neg draw m e = 0 then (if neg && f.ieee then f.withSign true 0 else 0)
        else f.withSign neg (roundedCode f mode neg draw m e),
        roundFlags (placed f m e).inexact (tiny f mode neg draw m e)) := by
  have hneg : (neg && !f.signed) = false := by cases neg <;> simp_all
  unfold Fmt.encode Num.dy
  simp only [hneg, Nat.ne_of_gt hm, false_and, if_false, Bool.false_eq_true]
  exact if_pos hle

/-- A positive value whose rounding does not overflow. -/
theorem encode_pos {f : Fmt} {mode : Rnd} {draw m : Nat} {e : Int} (hm : 0 < m)
    (hle : roundedCode f mode false draw m e ≤ f.maxCode) (sat : Bool) :
    (f.encode mode draw sat (.dy false m e)).1 = roundedCode f mode false draw m e ∧
      ((f.encode mode draw sat (.dy false m e)).2 &&& fNX = 0 ↔ (placed f m e).inexact = false) := by
  rw [encode_dy hm (fun h => absurd h Bool.false_ne_true) hle]
  exact ⟨by simp +contextual [Fmt.withSign, eq_comm], roundFlags_and_fNX_eq_zero⟩

/-- Toward zero and down are one mode for positive values (R147, R150). -/
theorem encode_rtz_eq_rdn (f : Fmt) (draw : Nat) (sat : Bool) (m : Nat) (e : Int) :
    f.encode .rtz draw sat (.dy false m e) = f.encode .rdn draw sat (.dy false m e) := by
  simp only [Fmt.encode, Num.dy, round_rdn, round_rtz, Fmt.overflow, Bool.not_false]

/-- A positive value that overflows when it is rounded up gives the infinity (R150). -/
theorem encode_rup_of_overflow {f : Fmt} {i : Nat} (hi : f.infCode = some i) {draw m : Nat} {e : Int} (hm : 0 < m)
    (h : f.maxCode < roundedCode f .rup false draw m e) : (f.encode .rup draw false (.dy false m e)).1 = i := by
  have henc : f.encode .rup draw false (.dy false m e) = (f.overflow .rup false false, fOF ||| fNX ||| flagIf false fST) := by
    unfold Fmt.encode Num.dy
    simp only [Nat.ne_of_gt hm, false_and, Bool.false_and, if_false, Bool.false_eq_true]
    exact if_neg (Nat.not_le.2 h)
  simp [henc, Fmt.overflow, hi, Fmt.withSign]

theorem encode_mag {f : Fmt} {neg : Bool} {c : Nat} (hle : c ≤ f.maxCode) (hs : neg = true → f.signed = true)
    (hz : c = 0 → neg = true → f.ieee = true) (mode : Rnd) (draw : Nat) (sat : Bool) :
    f.encode mode draw sat (f.mag c neg) = (f.withSign neg c, 0) := by
  obtain ⟨q, r, hn, rfl⟩ := exists_codeAt f c
  rw [mag_codeAt hn]
  rcases Nat.eq_zero_or_pos r with rfl | hr
  · have hc : codeAt f q 0 = 0 := by
      obtain rfl : q = f.qmin := hn.full.resolve_right (by simp)
      simp [codeAt]
    rw [encode_zero, hc]
    cases neg with
    | false => simp [Fmt.withSign]
    | true => simp [hz hc rfl]
  · have hplaced := placed_of_normalised hn hr
    have hexact : (placed f r q).inexact = false := by simp [hplaced, OnGrid.inexact]
    have hcode : roundedCode f mode neg draw r q = codeAt f q r := by
      rw [roundedCode, round_of_exact hexact, hplaced, spacing_of_normalised hn hr]
    have hpos : codeAt f q r ≠ 0 := by unfold codeAt; omega
    rw [encode_dy hr hs (hcode ▸ hle), hcode, hexact, if_neg hpos, roundFlags_exact]

/-! ### The codes of the formats (R139, R141, R142) -/

/-- How the codes of a format divide: in an IEEE format the infinity follows the largest finite value and NaNs follow it; in a
binary8 format the one NaN is the negative zero, or the last code where there is no sign, and below it at most the last
magnitude is an infinity. -/
structure Laid (f : Fmt) : Prop where
  w_pos : 0 < f.w
  ieee : f.ieee = true → f.infCode = some (f.maxCode + 1) ∧ f.maxCode + 1 < 2 ^ (f.w - 1)
  nan : f.ieee = false → f.nan = if f.signed then 2 ^ (f.w - 1) else 2 ^ f.w - 1
  finite : f.ieee = false → ∀ m < f.nan, f.infCode ≠ some m → m ≤ f.maxCode

theorem laid_fp32 : Laid fp32 := ⟨by decide, by decide, nofun, nofun⟩
theorem laid_bf16 : Laid bf16 := ⟨by decide, by decide, nofun, nofun⟩
theorem laid_fp16 : Laid fp16 := ⟨by decide, by decide, nofun, nofun⟩

theorem laid_ieee {f : Fmt} (hf : f ∈ [fp32, bf16, fp16]) : Laid f ∧ f.ieee = true := by
  simp only [List.mem_cons, List.not_mem_nil, or_false] at hf
  rcases hf with rfl | rfl | rfl
  · exact ⟨laid_fp32, rfl⟩
  · exact ⟨laid_bf16, rfl⟩
  · exact ⟨laid_fp16, rfl⟩

/-- The bits U and X of a format's code pick one of four layouts. -/
theorem laid_binary8 (u : Nat) : Laid (binary8 u) := by
  by_cases hu : u / 16 % 2 = 1 <;> by_cases hx : u / 8 % 2 = 1 <;>
    exact ⟨by simp [binary8, hu], by simp [binary8, hu], by simp [binary8, hu], by simp [binary8, hu, hx]; omega⟩

/-- The sign that a code has. -/
def signOf (f : Fmt) (c : Nat) : Bool := f.signed && 2 ^ (f.w - 1) ≤ c

/-- The magnitude that a code has. -/
def magOf (f : Fmt) (c : Nat) : Nat := if f.signed then c % 2 ^ (f.w - 1) else c

theorem signed_of_signOf {f : Fmt} {c : Nat} (h : signOf f c = true) : f.signed = true := by
  simp only [signOf, Bool.and_eq_true] at h
  exact h.1

theorem withSign_signOf_magOf {f : Fmt} {c : Nat} (hw : 0 < f.w) (hc : c < 2 ^ f.w) : f.withSign (signOf f c) (magOf f c) = c := by
  obtain ⟨n, hn⟩ : ∃ n, f.w = n + 1 := ⟨f.w - 1, by omega⟩
  rw [hn, Nat.pow_succ] at hc
  have hmod : 2 ^ n ≤ c → c % 2 ^ n = c - 2 ^ n := fun h => by rw [Nat.mod_eq_sub_mod h, Nat.mod_eq_of_lt (by omega)]
  unfold Fmt.withSign signOf magOf
  cases f.signed with
  | false => simp
  | true =>
    by_cases h : 2 ^ n ≤ c
    · simp [hn, h, hmod h]
    · simp [hn, h, Nat.mod_eq_of_lt (Nat.not_le.1 h)]

theorem decode_ieee {f : Fmt} (h : f.ieee = true) {i : Nat} (hi : f.infCode = some i) (c : Nat) :
    f.decode c = if magOf f c = i then .inf (signOf f c)
      else if i < magOf f c then .nan (magOf f c / 2 ^ (f.p - 2) % 2 = 0) else f.mag (magOf f c) (signOf f c) := by
  simp only [Fmt.decode, h, hi, if_true]
  rfl

theorem decode_binary8 {f : Fmt} (h : f.ieee = false) (c : Nat) :
    f.decode c = if c = f.nan then .nan false
      else if f.infCode = some (magOf f c) then .inf (signOf f c) else f.mag (magOf f c) (signOf f c) := by
  simp only [Fmt.decode, h, Bool.false_eq_true, if_false]
  rfl

/-- Binary8 has no negative zero: its code is the NaN's (R141). -/
theorem signOf_of_magOf_eq_zero {f : Fmt} (hf : Laid f) (h : f.ieee = false) {c : Nat} (hc : c < 2 ^ f.w) (hne : c ≠ f.nan)
    (hz : magOf f c = 0) : signOf f c = false := by
  refine Bool.eq_false_iff.2 fun hneg => hne ?_
  have hs := signed_of_signOf hneg
  have hcode := withSign_signOf_magOf hf.w_pos hc
  simp only [hz, hneg, Fmt.withSign, hs, Bool.and_true, if_true, Nat.add_zero] at hcode
  rw [hf.nan h, hs, if_pos rfl, hcode]

theorem magOf_lt_nan {f : Fmt} (hf : Laid f) (h : f.ieee = false) {c : Nat} (hc : c < 2 ^ f.w) (hne : c ≠ f.nan) :
    magOf f c < f.nan := by
  have hnan := hf.nan h
  unfold magOf
  split at hnan
  next hs =>
    rw [if_pos hs, hnan]
    exact Nat.mod_lt _ (Nat.two_pow_pos _)
  next hs =>
    rw [if_neg hs]
    omega

/-- A code is a NaN's, an infinity's, or that of the number of its magnitude. -/
theorem decode_cases {f : Fmt} (hf : Laid f) {c : Nat} (hc : c < 2 ^ f.w) :
    (f.decode c).isNan = true ∨ (f.decode c = .inf (signOf f c) ∧ f.infCode = some (magOf f c)) ∨
      (f.decode c = f.mag (magOf f c) (signOf f c) ∧ magOf f c ≤ f.maxCode ∧ (magOf f c = 0 → signOf f c = true → f.ieee = true)) := by
  cases hieee : f.ieee with
  | true =>
    obtain ⟨hinf, -⟩ := hf.ieee hieee
    rcases Nat.lt_trichotomy (magOf f c) (f.maxCode + 1) with hlt | heq | hgt
    · exact .inr (.inr ⟨by rw [decode_ieee hieee hinf, if_neg (Nat.ne_of_lt hlt), if_neg (Nat.lt_asymm hlt)], by omega, by simp⟩)
    · exact .inr (.inl ⟨by rw [decode_ieee hieee hinf, if_pos heq], by rw [hinf, heq]⟩)
    · exact .inl (by rw [decode_ieee hieee hinf, if_neg (Nat.ne_of_gt hgt), if_pos hgt]; rfl)
  | false =>
    by_cases hnan : c = f.nan
    · exact .inl (by rw [decode_binary8 hieee, if_pos hnan]; rfl)
    have hlt := magOf_lt_nan hf hieee hc hnan
    have hzero := signOf_of_magOf_eq_zero hf hieee hc hnan
    by_cases hinf : f.infCode = some (magOf f c)
    · exact .inr (.inl ⟨by rw [decode_binary8 hieee, if_neg hnan, if_pos hinf], hinf⟩)
    · exact .inr (.inr ⟨by rw [decode_binary8 hieee, if_neg hnan, if_neg hinf], hf.finite hieee _ hlt hinf, by simp +contextual [hzero]⟩)

/-- Rounding the value of a code into its own format gives the code back, with no flag. -/
theorem encode_decode {f : Fmt} (hf : Laid f) {c : Nat} (hc : c < 2 ^ f.w) (mode : Rnd) (draw : Nat) {sat : Bool}
    (hnan : (f.decode c).isNan = false) (hsat : (f.decode c).isInf = true → sat = false) :
    f.encode mode draw sat (f.decode c) = (c, 0) := by
  have hcode := withSign_signOf_magOf hf.w_pos hc
  rcases decode_cases hf hc with h | ⟨h, hinf⟩ | ⟨h, hle, hzero⟩
  · rw [h] at hnan
    contradiction
  · obtain rfl : sat = false := hsat (by rw [h]; rfl)
    rw [h, encode_inf hinf signed_of_signOf, hcode]
  · rw [h, encode_mag hle signed_of_signOf hzero, hcode]

/-- In an IEEE format the codes up to the largest finite value are those of the positive numbers. -/
theorem decode_of_le_maxCode {f : Fmt} (hf : Laid f) (h : f.ieee = true) {c : Nat} (hc : c ≤ f.maxCode) : f.decode c = f.mag c false := by
  obtain ⟨hinf, hlt⟩ := hf.ieee h
  have hmag : magOf f c = c := by
    unfold magOf
    split
    · exact Nat.mod_eq_of_lt (by omega)
    · rfl
  have hsign : signOf f c = false := by
    have : ¬ 2 ^ (f.w - 1) ≤ c := by omega
    simp [signOf, this]
  rw [decode_ieee h hinf, hmag, hsign, if_neg (by omega), if_neg (by omega)]

/-! ### The value of a code, and the numbers around it -/

/-- m × 2^e as a whole number of units 2^c, for c at or below e. -/
def unitsOf (c : Int) (m : Nat) (e : Int) : Nat := m * 2 ^ (e - c).toNat

theorem unitsOf_lt {c e : Int} {m n : Nat} : unitsOf c m e < unitsOf c n e ↔ m < n := Nat.mul_lt_mul_right (Nat.two_pow_pos _)

theorem unitsOf_le {c e : Int} {m n : Nat} : unitsOf c m e ≤ unitsOf c n e ↔ m ≤ n := Nat.mul_le_mul_right_iff (Nat.two_pow_pos _)

theorem unitsOf_two_pow (c : Int) (n : Nat) (e : Int) : unitsOf c (2 ^ n) e = 2 ^ (n + (e - c).toNat) := (Nat.pow_add ..).symm

/-- A number over an exponent `b` between the unit's and its own. -/
theorem unitsOf_eq_of_le {c b e : Int} (hc : c ≤ b) (hb : b ≤ e) (m : Nat) : unitsOf c m e = unitsOf c (m * 2 ^ (e - b).toNat) b := by
  have hexp : (e - c).toNat = (e - b).toNat + (b - c).toNat := by omega
  rw [unitsOf, unitsOf, hexp, Nat.pow_add, Nat.mul_assoc]

theorem alignTo_false (m : Nat) (e c : Int) : alignTo false m e c = (m * 2 ^ (e - c).toNat : Nat) := by
  simp [alignTo]

theorem below_dy {c e k : Int} (he : c ≤ e) (hk : c ≤ k) (m n : Nat) :
    (Machine.Num.dy false m e).below (.dy false n k) = decide (unitsOf c m e < unitsOf c n k) := by
  have key : ∀ b : Int, c ≤ b → b ≤ e → b ≤ k → (alignTo false m e b < alignTo false n k b ↔ unitsOf c m e < unitsOf c n k) := by
    intro b hb hbe hbk
    rw [unitsOf_eq_of_le hb hbe, unitsOf_eq_of_le hb hbk, unitsOf_lt, alignTo_false, alignTo_false, Int.ofNat_lt]
  unfold Num.below Num.dy
  dsimp only
  split
  next h => simp [key e he (Int.le_refl _) h]
  next h => simp [key k hk (by omega) (Int.le_refl _)]

/-- The code after the greatest multiple of a spacing is a multiple of the next spacing; its value is the successor's all the same. -/
theorem mag_codeAt_succ {f : Fmt} {q : Int} {r : Nat} (h : Normalised f q r) :
    ∃ n k, f.mag (codeAt f q (r + 1)) false = .dy false n k ∧ q ≤ k ∧ ∀ c ≤ q, unitsOf c n k = unitsOf c (r + 1) q := by
  obtain ⟨hq, hlt, hfull⟩ := h
  rcases Nat.lt_or_ge (r + 1) (2 ^ (f.p - 1 + 1)) with hr | hr
  · exact ⟨r + 1, q, mag_codeAt ⟨hq, hr, hfull.imp_right (by omega)⟩ false, Int.le_refl _, fun _ _ => rfl⟩
  · have heq : r + 1 = 2 ^ (f.p - 1) * 2 := by
      rw [Nat.pow_succ] at hr hlt
      omega
    have hcode : codeAt f q (r + 1) = codeAt f (q + 1) (2 ^ (f.p - 1)) := by
      have hnext : (q + 1 - f.qmin).toNat = (q - f.qmin).toNat + 1 := by omega
      rw [codeAt, codeAt, heq, hnext, Nat.succ_mul]
      omega
    have hn : Normalised f (q + 1) (2 ^ (f.p - 1)) :=
      ⟨by omega, Nat.pow_lt_pow_right (by decide) (Nat.lt_succ_self _), .inr (Nat.le_refl _)⟩
    refine ⟨2 ^ (f.p - 1), q + 1, by rw [hcode, mag_codeAt hn], by omega, fun c hc => ?_⟩
    have hone : (q + 1 - q).toNat = 1 := by omega
    rw [unitsOf_eq_of_le hc (by omega), hone, heq, Nat.pow_one]

/-- The grid's multiple and its successor enclose a value. -/
theorem onGrid_bounds {c e q : Int} (he : c ≤ e) (hq : c ≤ q) (m : Nat) (sticky : Bool) :
    unitsOf c (onGrid m e q sticky).kept q ≤ unitsOf c m e ∧ unitsOf c m e < unitsOf c ((onGrid m e q sticky).kept + 1) q := by
  unfold onGrid
  split
  next h =>
    rw [unitsOf_eq_of_le hq h, unitsOf_le, unitsOf_lt]
    exact ⟨Nat.le_refl _, Nat.lt_succ_self _⟩
  next h =>
    have hle : e ≤ q := by omega
    rw [unitsOf_eq_of_le he hle, unitsOf_eq_of_le he hle, unitsOf_le, unitsOf_lt]
    exact ⟨Nat.div_mul_le_self .., by rw [Nat.mul_comm]; exact Nat.lt_mul_div_succ _ (Nat.two_pow_pos _)⟩

theorem onGrid_exact {c e q : Int} (he : c ≤ e) (hq : c ≤ q) {m : Nat} {sticky : Bool} (h : (onGrid m e q sticky).inexact = false) :
    unitsOf c (onGrid m e q sticky).kept q = unitsOf c m e := by
  unfold onGrid at h ⊢
  split at h
  next hle => rw [if_pos hle, ← unitsOf_eq_of_le hq hle]
  next hlt =>
    have hrest : m % 2 ^ (q - e).toNat = 0 := by
      simp only [OnGrid.inexact, Bool.or_eq_false_iff, decide_eq_false_iff_not, Decidable.not_not] at h
      exact h.1
    have hle : e ≤ q := by omega
    rw [if_neg hlt, unitsOf_eq_of_le he hle]
    simp only [Nat.div_mul_cancel (Nat.dvd_of_mod_eq_zero hrest)]

theorem normalised_placed (f : Fmt) {m : Nat} (hm : 0 < m) (e : Int) : Normalised f (spacing f m e) (placed f m e).kept := by
  obtain ⟨c, he, hc⟩ : ∃ c, c ≤ e ∧ c ≤ spacing f m e := ⟨min e (spacing f m e), by omega, by omega⟩
  obtain ⟨hlow, hhigh⟩ := onGrid_bounds he hc m false
  have hlead : unitsOf c (2 ^ m.log2) e ≤ unitsOf c m e := unitsOf_le.2 (Nat.log2_self_le (Nat.ne_of_gt hm))
  have hnext : unitsOf c m e < unitsOf c (2 ^ (m.log2 + 1)) e := unitsOf_lt.2 Nat.lt_log2_self
  have hq : f.qmin ≤ spacing f m e := by unfold spacing; split <;> omega
  have hp : e + m.log2 ≤ spacing f m e + (f.p - 1 : Nat) := by unfold spacing leadExp; split <;> omega
  have hfull : spacing f m e = f.qmin ∨ spacing f m e + (f.p - 1 : Nat) = e + m.log2 := by
    unfold spacing leadExp; split <;> omega
  refine ⟨hq, (unitsOf_lt (c := c) (e := spacing f m e)).1 ?_, hfull.imp_right fun heq => ?_⟩
  · calc unitsOf c (placed f m e).kept (spacing f m e) ≤ unitsOf c m e := hlow
      _ < unitsOf c (2 ^ (m.log2 + 1)) e := hnext
      _ ≤ unitsOf c (2 ^ (f.p - 1 + 1)) (spacing f m e) := by
        rw [unitsOf_two_pow, unitsOf_two_pow]
        exact Nat.pow_le_pow_right (by decide) (by omega)
  · refine Nat.le_of_lt_succ ((unitsOf_lt (c := c) (e := spacing f m e)).1 ?_)
    calc unitsOf c (2 ^ (f.p - 1)) (spacing f m e) = unitsOf c (2 ^ m.log2) e := by
          rw [unitsOf_two_pow, unitsOf_two_pow]
          congr 1
          omega
      _ ≤ unitsOf c m e := hlead
      _ < unitsOf c ((placed f m e).kept + 1) (spacing f m e) := hhigh

/-! ### The directed modes -/

section Directed

variable {f : Fmt} (hf : Laid f) (hieee : f.ieee = true) {m : Nat} (hm : 0 < m) {e : Int} {draw : Nat}

include hf hieee hm

theorem roundedCode_rup_le_maxCode (hle : (f.encode .rup draw false (.dy false m e)).1 ≤ f.maxCode) :
    roundedCode f .rup false draw m e ≤ f.maxCode := by
  refine Nat.not_lt.1 fun h => ?_
  rw [encode_rup_of_overflow (hf.ieee hieee).1 hm h] at hle
  exact Nat.not_succ_le_self _ hle

theorem not_below_decode_rdn (hle : roundedCode f .rdn false draw m e ≤ f.maxCode) :
    (Machine.Num.dy false m e).below (f.decode (roundedCode f .rdn false draw m e)) = false := by
  obtain ⟨c, he, hq⟩ : ∃ c, c ≤ e ∧ c ≤ spacing f m e := ⟨min e (spacing f m e), by omega, by omega⟩
  rw [decode_of_le_maxCode hf hieee hle, roundedCode_rdn, mag_codeAt (normalised_placed f hm e), below_dy he hq,
    decide_eq_false_iff_not, Nat.not_lt]
  exact (onGrid_bounds he hq m false).1

theorem decode_rup_not_below (hle : roundedCode f .rup false draw m e ≤ f.maxCode) :
    (f.decode (roundedCode f .rup false draw m e)).below (.dy false m e) = false := by
  obtain ⟨c, he, hq⟩ : ∃ c, c ≤ e ∧ c ≤ spacing f m e := ⟨min e (spacing f m e), by omega, by omega⟩
  rw [decode_of_le_maxCode hf hieee hle]
  have hn := normalised_placed f hm e
  cases h : (placed f m e).inexact with
  | false =>
    rw [roundedCode_rup_of_exact h, roundedCode_rdn, mag_codeAt hn, below_dy hq he, decide_eq_false_iff_not, Nat.not_lt]
    exact Nat.le_of_eq (onGrid_exact he hq h).symm
  | true =>
    obtain ⟨n, k, hmag, hk, hval⟩ := mag_codeAt_succ hn
    rw [roundedCode, round_rup_of_inexact h, hmag, below_dy (Int.le_trans hq hk) he, hval c hq, decide_eq_false_iff_not, Nat.not_lt]
    exact Nat.le_of_lt (onGrid_bounds he hq m false).2

end Directed

/-- Settles O24: each code is a normalised pair, on the grid of its own format, so rounding keeps it; and the codes of a positive
value rounded down and up are those of the two multiples around it. -/
theorem formatsAndRounding : Obligations.FormatsAndRounding := by
  unfold Obligations.FormatsAndRounding
  refine ⟨fun f hf c mode draw sat hc hnan hsat => ?_, fun f hf m e draw hm => ?_⟩
  · have hlaid : Laid f := by
      rcases hf with hf | ⟨u, -, -, rfl⟩
      · exact (laid_ieee hf).1
      · exact laid_binary8 u
    exact encode_decode hlaid hc mode draw hnan hsat
  · dsimp only
    intro hle
    obtain ⟨hlaid, hieee⟩ := laid_ieee hf
    have hcases := roundedCode_rup_cases f draw m e
    have hupLe : roundedCode f .rup false draw m e ≤ f.maxCode := roundedCode_rup_le_maxCode hlaid hieee hm hle
    have hrne := roundedCode_eq_rup_or_rdn f .rne draw m e
    have hdownLe : roundedCode f .rdn false draw m e ≤ f.maxCode := by omega
    have hrneLe : roundedCode f .rne false draw m e ≤ f.maxCode := by omega
    obtain ⟨hup, hnx⟩ := encode_pos hm hupLe false
    obtain ⟨hdown, -⟩ := encode_pos hm hdownLe false
    obtain ⟨hnear, -⟩ := encode_pos hm hrneLe false
    refine ⟨encode_rtz_eq_rdn .., ?_⟩
    rw [hup, hdown, hnear, hnx]
    refine ⟨not_below_decode_rdn hlaid hieee hm hdownLe, decode_rup_not_below hlaid hieee hm hupLe, ?_, ?_, hrne⟩
    · exact hcases.imp And.left And.left
    · rcases hcases with ⟨hcode, hx⟩ | ⟨hcode, hx⟩
      · simp [hcode, hx] -- on the grid: one code, and no NX
      · simp [hcode, hx] -- off the grid: neighbours, and NX

end Sys2Proof.Proofs
end
